-- ==== Sys2Proof/Word.lean ====
section
/-! DEFINITION. The word types of the ZT260 model: link bytes and the elapsed count.
Everything else the manual treats as a number (calendar instants, intervals, exposure steps,
voltages) is a `Nat` or an `Int`. -/

namespace Sys2Proof

/-- One byte of the host link or of the camera line (R107, R173). -/
abbrev Byte := BitVec 8

/-- The elapsed counter and every deadline on it: a 48-bit count of ticks, modulo 2^48 (R2). -/
abbrev Elapsed := BitVec 48

end Sys2Proof
end

