-- ==== Sys2Proof/Syntax.lean ====
section
/-! DEFINITION. The commands of the ZT260: one constructor per row of spec/opcode_table.json.
A host request carries its payload as the bytes received; an event of the camera, of a pin or of a
link carries what arrives with it; a clock or timer event carries nothing, because the moment it
names stands in the state (assumption 1). -/

namespace Sys2Proof

/-- The source of a pending request that has a late deadline of its own (R88). -/
inductive HeldSource where
  | external
  | manual
deriving DecidableEq, Repr

/-- A command: a host request, a link event, a camera message, a pin change or a clock event. -/
inductive Instr where
  -- host requests (chapter 12); `payload` is the frame's payload as received
  | getStatus (payload : List Byte)
  | setClock (payload : List Byte)
  | getClock (payload : List Byte)
  | setTrim (payload : List Byte)
  | writePlan (payload : List Byte)
  | readPlan (payload : List Byte)
  | writeProfile (payload : List Byte)
  | readProfile (payload : List Byte)
  | writeWindow (payload : List Byte)
  | readWindow (payload : List Byte)
  | writeSupply (payload : List Byte)
  | readSupply (payload : List Byte)
  | writeGeneral (payload : List Byte)
  | readGeneral (payload : List Byte)
  | arm (payload : List Byte)
  | disarm (payload : List Byte)
  | resume (payload : List Byte)
  | shoot (payload : List Byte)
  | abort (payload : List Byte)
  | lend (payload : List Byte)
  | giveBack (payload : List Byte)
  | cameraReset (payload : List Byte)
  | softReset (payload : List Byte)
  | softResetTaken
  | setRehearsal (payload : List Byte)
  | readFrames (payload : List Byte)
  | getNotices (payload : List Byte)
  | maskNotices (payload : List Byte)
  | readMeter (payload : List Byte)
  | unknownType (code : Byte) (payload : List Byte)
  -- host link (R173, R174)
  | hostFrameComplete (bytes : List Byte)
  | hostInterByteGap (next : Byte)
  | replySent
  -- camera line (R107 to R111)
  | ready
  | ack (tag : Byte)
  | nak (tag : Byte) (cause : Byte)
  | report (tag : Byte) (b : Byte)
  | cameraLineGap (next : Byte)
  | setSent
  -- camera and trigger inputs
  | camActChange (active : Bool)
  | triggerEdge (rising : Bool)
  -- time base
  | trimBoundary
  | withholdEnd
  | calendarEnd
  -- calendar moments of the sequence
  | wakeTime
  | dueReached
  | dueLateLimit
  | requestLateDeadline (source : HeldSource)
  | reclaimMoment
  | windowBoundary
  | midnight
  | occurrenceEnd
  -- timers of a capture operation
  | wakeLeadElapsed
  | readyTimeout
  | settingTimeout
  | prefocusElapsed
  | holdElapsed
  | activityTimeout
  | writeTimeout
  | reportWaitExpiry
  | burstSpacingEnd
  | rehearsalWriteEnd
  -- lending, meter, battery, recovery
  | lendWakeEnd
  | lendTimerExpiry
  | meterPeriodicDeadline
  | gateEnd (pulses : Nat)
  | batteryPeriodicDeadline (millivolts : Nat) (celsius : Int)
  | recoveryOffEnd
  | recoveryReadyTimeout
  | recoveryWakeElapsed
  -- supply and restart
  | packFall (millivolts : Nat)
  | packRise (millivolts : Nat)
  | rideThroughDeadline
  | restoreDeadline
  | backupCellChange (low : Bool)
  | coldStart
  | resetLine
  -- frames the receivers discard
  | hostLenAbove250 (len : Byte)
  | cameraLineLenAbove250 (len : Byte)
  | cameraFrameDiscarded (bytes : List Byte)
deriving DecidableEq, Repr

end Sys2Proof
end

