-- ==== Sys2Proof/Decode.lean ====
section
/-! DEFINITION. The command that a word of the table spells. The table gives no row any bits: the
part has no encoded commands beside its host-link and camera-line frames, which Bytes.lean and
Requests.lean read. -/

namespace Sys2Proof

/-- No word spells a command: spec/opcode_table.json gives no row any bits (assumption 21). -/
def decodeTableWord (_nbits _w : Nat) : Option Instr := none

end Sys2Proof
end

