-- ==== Sys2Proof/Config.lean ====
section
/-! DEFINITION. What is fixed for the machine and is not read from any configuration record:
the units of 00_scope.md section 4.1, the end of the calendar (R3), the trim boundary (R6), and the
levels that the model gives the input pins at reset (assumption 4). -/

namespace Sys2Proof.Config

/-- Ticks in one second (R1). -/
def ticksPerSecond : Nat := 32768

/-- Ticks in one eighth (R1). -/
def ticksPerEighth : Nat := 4096

/-- Seconds in one day (R3). -/
def secondsPerDay : Nat := 86400

/-- Ticks in one day. -/
def ticksPerDay : Nat := secondsPerDay * ticksPerSecond

/-- The number of calendar instants, one more than the last: 3,155,760,000 s in ticks (R3). -/
def calendarSpan : Nat := 3155760000 * ticksPerSecond

/-- The last whole second of the calendar range (R3, R9). -/
def lastSecond : Nat := 3155759999

/-- The spacing of trim boundaries in ticks (R6). -/
def trimSpacing : Nat := 33554432

/-- The longest interval in eighths (R45). -/
def longestInterval : Nat := 691200

/-- DESIGN CHOICE (assumption 4): the pack voltage on the sense input at reset, in mV. -/
def resetPackMv : Nat := 8000

/-- DESIGN CHOICE (assumption 4): the temperature on the sense input at reset, in °C. -/
def resetCelsius : Int := 20

end Sys2Proof.Config
end

