-- ==== Sys2Proof/Machine/State.lean ====
section
/-! DEFINITION. The state of the ZT260 as plain data: every piece of state that the chapters name,
and the machine right after cold start. `Part` is the part itself; `State` adds the queue of
commands that wait to be taken. -/

namespace Sys2Proof.Machine

/-! ### Named values -/

/-- The clock status (R4). -/
inductive ClockState where
  | notSet
  | set
deriving DecidableEq, Repr

/-- The engine state (R40). -/
inductive EngineState where
  | disarmed
  | armed
  | paused
  | suspended
deriving DecidableEq, Repr

/-- The power level, from best to worst (R143, R144). -/
inductive Level where
  | normal
  | thrift
  | scarce
  | critical
deriving DecidableEq, Repr

/-- The ownership state of the camera port (R124). -/
inductive PortState where
  | owned
  | yielding
  | lent
  | reclaiming
deriving DecidableEq, Repr

/-- The state of the supply monitor (R155). -/
inductive SupplyState where
  | supplied
  | riding
  | outage
  | restoring
deriving DecidableEq, Repr

/-- The source of a capture request (R84). -/
inductive Source where
  | schedule
  | external
  | manual
deriving DecidableEq, Repr

/-- A plan's exposure mode (section 2.2, field 1). -/
inductive ExposureMode where
  | fixed
  | ambient
  | feedback
  | blend
deriving DecidableEq, Repr

/-- A plan's start rule (section 2.2, field 7). -/
inductive StartRule where
  | fromPlan
  | fromAmbient
  | inherit
deriving DecidableEq, Repr

/-- A plan's bracket mode (section 2.2, field 13); `single` is the manual's NONE. -/
inductive BracketMode where
  | single
  | rotate
  | burst
deriving DecidableEq, Repr

/-- A plan's end action (section 2.2, field 15). -/
inductive EndAction where
  | stopNotify
  | stopSilent
  | chain
  | chainNotify
deriving DecidableEq, Repr

/-- A profile's line_mode (section 2.3, field 0); `noSettings` is the manual's NONE. -/
inductive LineMode where
  | settings
  | noSettings
deriving DecidableEq, Repr

/-- A profile's report (section 2.3, field 1); `noReport` is the manual's NONE. -/
inductive ReportMode where
  | noReport
  | report
deriving DecidableEq, Repr

/-- A profile's wake_mode (section 2.3, field 9). -/
inductive WakeMode where
  | waitReady
  | fixedTime
deriving DecidableEq, Repr

/-- A window's ambient gate with its level x (section 3.1, fields 7 and 8). -/
inductive AmbientGate where
  | noGate
  | above (x : Int)
  | below (x : Int)
deriving DecidableEq, Repr

/-- The kind of trigger edge (section 2.4, field 5). -/
inductive EdgeKind where
  | rising
  | falling
deriving DecidableEq, Repr

/-- The lend policy (section 2.4, field 13). -/
inductive LendPolicy where
  | hostFirst
  | partFirst
deriving DecidableEq, Repr

/-- Why a frame failed (R98); a NAK carries the adapter's cause byte (R110). -/
inductive FailCause where
  | noReady
  | nak (cause : Byte)
  | noAck
  | restart
  | noActivity
  | writeTimeout
  | aborted
  | power
deriving DecidableEq, Repr

/-- Why a due or a request was missed (R47, R88, R158, R11). -/
inductive MissReason where
  | paused
  | cameraFault
  | recovering
  | lent
  | busy
  | power
  | clockStep
deriving DecidableEq, Repr

/-- The outcome of a frame record (R168). -/
inductive FrameOutcome where
  | taken
  | failed
  | missed
deriving DecidableEq, Repr

/-- The kinds of notice, in the order of the mask bits (chapter 12). -/
inductive NoticeKind where
  | planDone
  | runStarted
  | runEnded
  | cameraWanted
  | cameraLent
  | cameraTaken
  | cameraFault
  | cameraRecovered
  | levelChanged
  | restoredWarm
  | restoredPaused
  | coldStart
  | clockNeeded
  | shootDone
deriving DecidableEq, Repr

/-- The refusal reasons of a REFUSED reply (R176). -/
inductive RefuseReason where
  | clockNotSet
  | busy
  | lent
  | notLent
  | already
  | cameraFault
  | critical
  | rehearsal
  | recovering
  | writing
  | idle
deriving DecidableEq, Repr

/-- A reply of the part (R176). -/
inductive Reply where
  | ok (data : List Byte)
  | adjusted (fields : List Nat)
  | pending
  | refused (reason : RefuseReason)
  | badField (index : Nat)
  | badLength
  | unknownType
deriving DecidableEq, Repr

/-! ### Configuration records (chapter 2, section 3.1) -/

/-- A DEFINED plan (section 2.2). -/
structure Plan where
  mode : ExposureMode
  profile : Fin 4
  intervalStart : Nat
  intervalEnd : Nat
  rampFrames : Nat
  frameLimit : Nat
  startRule : StartRule
  eInit : Int
  cAmb : Int
  gainK : Nat
  deadband : Nat
  stepLimit : Nat
  bracketMode : BracketMode
  brackets : List Int
  endAction : EndAction
  chainTarget : Option (Fin 16)
deriving DecidableEq, Repr

/-- A camera profile (section 2.3). -/
structure Profile where
  lineMode : LineMode
  report : ReportMode
  sMin : Int
  sMax : Int
  sBulb : Int
  sKnee : Int
  gMax : Nat
  gKnee : Nat
  targetB : Int
  wakeMode : WakeMode
  wakeLead : Nat
  readyTimeout : Nat
  settingTimeout : Nat
  prefocus : Nat
  shutterPulse : Nat
  activityTimeout : Nat
  writeTimeout : Nat
  reportWait : Nat
  reserve : Nat
  keepWarmLimit : Nat
  burstSpacing : Nat
  faultLimit : Nat
  recoveryOff : Nat
  recoveryAttempts : Nat
deriving DecidableEq, Repr

/-- The profile defaults, in square brackets in the table of section 2.3. -/
def Profile.default : Profile where
  lineMode := .settings
  report := .noReport
  sMin := -80
  sMax := 32
  sBulb := 24
  sKnee := -24
  gMax := 32
  gKnee := 16
  targetB := 0
  wakeMode := .fixedTime
  wakeLead := 16
  readyTimeout := 40
  settingTimeout := 8192
  prefocus := 0
  shutterPulse := 3277
  activityTimeout := 16384
  writeTimeout := 240
  reportWait := 16
  reserve := 24
  keepWarmLimit := 80
  burstSpacing := 8
  faultLimit := 3
  recoveryOff := 40
  recoveryAttempts := 3

/-- A schedule window (section 3.1). Bit d of `weekdays` admits weekday d, 0 for Sunday. -/
structure Window where
  enabled : Bool
  startSod : Nat
  endSod : Nat
  dates : Option (Nat × Nat)
  weekdays : BitVec 7
  gate : AmbientGate
  plan : Fin 16
  essential : Bool
deriving DecidableEq, Repr

/-- The window defaults of section 3.1. -/
def Window.default : Window where
  enabled := false
  startSod := 0
  endSod := 0
  dates := none
  weekdays := 127
  gate := .noGate
  plan := 0
  essential := false

/-- The general settings (section 2.4). Bit i of `mask` enables the notice kind numbered i. -/
structure General where
  levelSchedule : Nat
  levelExternal : Nat
  levelManual : Nat
  lateLimit : Nat
  triggerPlan : Option (Fin 16)
  triggerEdge : EdgeKind
  holdoff : Nat
  meterEnabled : Bool
  meterPeriod : Nat
  cCal : Int
  lendLimit : Nat
  lendMin : Nat
  reclaimLead : Nat
  lendPolicy : LendPolicy
  mask : BitVec 14
deriving DecidableEq, Repr

/-- The general settings' defaults (section 2.4). -/
def General.default : General where
  levelSchedule := 2
  levelExternal := 1
  levelManual := 0
  lateLimit := 16
  triggerPlan := none
  triggerEdge := .falling
  holdoff := 80
  meterEnabled := true
  meterPeriod := 128
  cCal := 0
  lendLimit := 30
  lendMin := 240
  reclaimLead := 80
  lendPolicy := .partFirst
  mask := 16383

/-- The supply settings (section 2.4). -/
structure Supply where
  thrThrift : Nat
  thrScarce : Nat
  thrCritical : Nat
  hysteresis : Nat
  confirm : Nat
  coldSlope : Nat
  sagAllowance : Nat
  checkPeriod : Nat
  fThrift : Nat
  fScarce : Nat
  rideThrough : Nat
  warmWindow : Nat
deriving DecidableEq, Repr

/-- The supply settings' defaults (section 2.4). -/
def Supply.default : Supply where
  thrThrift := 7000
  thrScarce := 6600
  thrCritical := 6200
  hysteresis := 150
  confirm := 3
  coldSlope := 0
  sagAllowance := 250
  checkPeriod := 480
  fThrift := 2
  fScarce := 4
  rideThrough := 4
  warmWindow := 10

/-- The configuration tables in retained memory (R14). An EMPTY plan slot is `none`. -/
structure Tables where
  plans : Vector (Option Plan) 16
  profiles : Vector Profile 4
  windows : Vector Window 8
  general : General
  supply : Supply
deriving DecidableEq, Repr

/-! ### Time base (chapter 1) -/

/-- The time base. `instant` is the calendar instant of R3 (seconds × 32,768 + ticks).
`trimTaken`, `boundarySeen` and `midnightSeen` are the model's own: whether the trim boundary at
which the elapsed counter stands has been taken, and the calendar instants up to which window
boundaries and midnights have been taken as events (R12). -/
structure TimeBase where
  instant : Nat
  clock : ClockState
  elapsed : Elapsed
  trim : Int
  withheld : Nat
  trimTaken : Bool
  boundarySeen : Nat
  midnightSeen : Nat
deriving DecidableEq, Repr

/-! ### Sequence engine (chapter 3) -/

/-- ACTIVE or ENDING (R36, R37). -/
inductive RunState where
  | active
  | ending
deriving DecidableEq, Repr

/-- The run record (R36). `lateLimit` is the late limit in eighths that R47 fixes for next_due;
`wakeReached` and `dueReached` say whether next_due's wake time and next_due itself have been taken
as events (R75, R85, R93); `ringReset` is the pending ring reset of R27; `stepCatchUp` the catch-up
that R12 defers; `byEndAction` whether the run ends by its end action (R39). -/
structure Run where
  number : Nat
  window : Fin 8
  originPlan : Fin 16
  plan : Fin 16
  state : RunState
  occStart : Nat
  k : Nat
  remaining : Nat
  ring : Nat
  nextDue : Nat
  eBase : Option Int
  aPrev : Option Int
  /-- B_last with offset_last (R44, R60). -/
  bLast : Option (Int × Int)
  lateLimit : Nat
  wakeReached : Bool
  dueReached : Bool
  ringReset : Bool
  stepCatchUp : Bool
  byEndAction : Bool
deriving DecidableEq, Repr

/-- The done mark of R39: the marked window and the moment at which the mark ends, the end moment of the
marked occurrence; for a whole-day window that is the clock's next midnight. -/
structure DoneMark where
  window : Fin 8
  stop : Nat
deriving DecidableEq, Repr

/-! ### Capture arbiter and capture engine (chapters 4 and 6) -/

/-- A pending request (R84). `lateLimit` is the late_limit stored when it was raised, in eighths;
the late deadline is the due, or the elapsed raise time, plus that limit. -/
structure Request where
  plan : Fin 16
  due : Option Nat
  raisedAt : Nat
  raisedElapsed : Elapsed
  explicitE : Option Int
  lateLimit : Nat
deriving DecidableEq, Repr

/-- The arbiter: one slot for each source, the merged count, the last EXTERNAL grant (R84, R86). -/
structure Arbiter where
  schedule : Option Request
  external : Option Request
  manual : Option Request
  merged : Nat
  lastExternal : Option Elapsed
deriving DecidableEq, Repr

/-- The setting of one frame as the exposure computer hands it over (R67 to R69). -/
structure FrameSetting where
  offset : Int
  eFrame : Int
  s : Int
  g : Int
  bulb : Bool
  hold : Nat
  high : Bool
  low : Bool
deriving DecidableEq, Repr

/-- The one computation of a due or an operation (R54, R55) with its flags (R71). -/
structure Computation where
  eBase : Int
  aNow : Option Int
  cAmb : Int
  tight : Bool
  rateLimited : Bool
  high : Bool
  low : Bool
  feedbackUsed : Bool
  frames : List FrameSetting
deriving DecidableEq, Repr

/-- What ends WRITING (R96, R97, R122). -/
inductive WriteWait where
  | activity (deadline : Elapsed)
  | write (deadline : Elapsed)
  | report (deadline : Elapsed)
  | rehearsal (deadline : Elapsed)
deriving DecidableEq, Repr

/-- The phase of an operation (section 6.3); `spacing` is the burst spacing of R99. In SETTING the
deadline is absent until the last byte of the SET has been sent (R108). -/
inductive Phase where
  | waking (deadline : Elapsed)
  | waiting
  | setting (deadline : Option Elapsed)
  | focusing (deadline : Elapsed)
  | exposing (deadline : Elapsed)
  | writing (wait : WriteWait)
  | spacing (deadline : Elapsed)
deriving DecidableEq, Repr

/-- A capture operation (R90 to R101). `profile` and `plan?` are the values fixed at the grant;
`settled` says that its due has been consumed; `newest` is the reported brightness and the offset
of the newest TAKEN frame; `askReading` that the loaded reading of WAKING is still to be taken. -/
structure Operation where
  source : Source
  request : Request
  window : Option (Fin 8)
  profile : Profile
  plan? : Option Plan
  level : Level
  volts : Option Nat
  rehearsal : Bool
  reduced : Bool
  comp : Option Computation
  index : Nat
  phase : Phase
  startAt : Option Nat
  tag : Option Byte
  acked : Bool
  heldB : Option Int
  camActSeen : Bool
  aborting : Bool
  newest : Option (Option Int × Int)
  lastRecord : Option Nat
  lastCounted : Bool
  settled : Bool
  askReading : Bool
deriving DecidableEq, Repr

/-- The camera power holder set (R105). -/
structure Holders where
  operation : Bool
  keepWarm : Bool
  lend : Bool
  recovery : Bool
deriving DecidableEq, Repr

/-- A SET message (R108, section 12.4). -/
structure SetMessage where
  tag : Byte
  bulb : Bool
  s : Int
  g : Int
deriving DecidableEq, Repr

/-- The camera port's lines: last tag sent, the SET being sent and the moment its last byte has
gone, the FOCUS and SHUTTER outputs, the camera-line frame being built, and the moment its newest byte
arrived (R107). -/
structure CameraPort where
  lastTag : Byte
  tx : Option SetMessage
  txEnds : Elapsed
  focus : Bool
  shutter : Bool
  rx : List Byte
  rxLast : Elapsed
deriving DecidableEq, Repr

/-! ### Camera health (chapter 7) -/

/-- The phase of a recovery attempt; `stopped` while an outage keeps it from running (R119). -/
inductive AttemptPhase where
  | off (deadline : Elapsed)
  | on (deadline : Elapsed)
  | stopped
deriving DecidableEq, Repr

/-- A recovery: attempt number, phase, and the recovery values of R113. -/
structure Recovery where
  attempt : Nat
  phase : AttemptPhase
  off : Nat
  attempts : Nat
  wakeMode : WakeMode
  wakeLead : Nat
  readyTimeout : Nat
  plan : Fin 16
deriving DecidableEq, Repr

/-- Camera health (section 7.2). -/
inductive Health where
  | healthy
  | recovering (r : Recovery)
  | faulted
deriving DecidableEq, Repr

/-! ### Port lending (chapter 8) -/

/-- Port lending (R124): the port state, the side of the bus switch, the deadline of a granted
lend's wake period, the lend timer's deadline, and lend_allowed. -/
structure Lending where
  port : PortState
  busHost : Bool
  wake : Option Elapsed
  timer : Option Elapsed
  allowed : Bool
deriving DecidableEq, Repr

/-! ### Battery supervisor (chapter 9) -/

/-- PERIODIC or LOADED (R140). -/
inductive ReadingKind where
  | periodic
  | loaded
deriving DecidableEq, Repr

/-- A battery reading record (R140). -/
structure BatteryReading where
  volts : Nat
  celsius : Int
  kind : ReadingKind
  effective : Nat
  indicated : Level
deriving DecidableEq, Repr

/-- The battery supervisor. `lastDue` is the moment the last periodic reading was due (R25). -/
structure Battery where
  latest : Option BatteryReading
  level : Level
  worse : Nat
  better : Nat
  lastDue : Elapsed
  deadline : Option Elapsed
  deferred : Bool
deriving DecidableEq, Repr

/-! ### Ambient meter (chapter 5) -/

/-- A reading in progress: the gate running, the gates already ended, the running gate's end. -/
structure Measuring where
  gate : Fin 3
  used : BitVec 3
  gateEnds : Elapsed
deriving DecidableEq, Repr

/-- The meter state (section 5.2). -/
inductive MeterState where
  | stopped
  | idle
  | measuring (m : Measuring)
deriving DecidableEq, Repr

/-- A meter reading record (R79). -/
structure MeterReading where
  a : Int
  gate : Fin 3
  count : Nat
  dark : Bool
  saturated : Bool
  completedAt : Nat
deriving DecidableEq, Repr

/-- The ambient meter with its 20-bit pulse counter (R72). `lastDue` is the moment the last
periodic reading was due (R23, R74). -/
structure Meter where
  state : MeterState
  startGate : Fin 3
  lastDue : Elapsed
  deadline : Elapsed
  count : Nat
  latest : Option MeterReading
deriving DecidableEq, Repr

/-! ### Supply monitor (chapter 10) -/

/-- The supply monitor (R155). `deadline` is the ride-through deadline in RIDING and the restore
deadline in RESTORING; `lost` says that the backup domain is lost and no cold start has been taken
(R163); `cellLow` is the backup cell's report; `coldIn` holds, after a loss and while the pack stays
above 4,500 mV, the oscillator periods that are left until the cold start (R163). -/
structure Monitor where
  state : SupplyState
  deadline : Elapsed
  outageStart : Elapsed
  cellLow : Bool
  lost : Bool
  coldIn : Option Nat
deriving DecidableEq, Repr

/-! ### Frame journal (chapter 11) -/

/-- The flags of a frame record, bits 0 to 7 (section 12.4). -/
structure RecordFlags where
  tight : Bool
  rateLimited : Bool
  high : Bool
  low : Bool
  reduced : Bool
  rehearsal : Bool
  feedbackUsed : Bool
  isOpen : Bool
deriving DecidableEq, Repr

/-- No flag set. -/
def RecordFlags.clear : RecordFlags :=
  ⟨false, false, false, false, false, false, false, false⟩

/-- The exposure fields of a frame record (R70); `hold` is the bulb hold, 0 when camera-timed. -/
structure ExposureFields where
  s : Int
  g : Int
  offset : Int
  eBase : Int
  hold : Nat
deriving DecidableEq, Repr

/-- A frame record (R168). -/
structure FrameRecord where
  number : Nat
  outcome : FrameOutcome
  source : Source
  plan : Fin 16
  window : Option (Fin 8)
  due : Nat
  startAt : Option Nat
  exposure : Option ExposureFields
  flags : RecordFlags
  b : Option Int
  a : Option Int
  level : Option Level
  volts : Option Nat
  merged : Option Nat
  cause : Option FailCause
  reason : Option MissReason
  missCount : Nat
  lastDue : Option Nat
deriving DecidableEq, Repr

/-- The journal (R166): the ring, oldest first; the next frame number; and, for the match of R48,
the run number under which the open MISSED record was written. -/
structure Journal where
  records : List FrameRecord
  nextNumber : Nat
  openRun : Nat
deriving DecidableEq, Repr

/-! ### Host link and notices (chapter 12) -/

/-- One entry of the notice set (R178). -/
structure Notice where
  kind : NoticeKind
  count : Nat
  first : Nat
  last : Nat
  detail : Option Nat
deriving DecidableEq, Repr

/-- A complete frame in the receive buffer (R174). -/
structure HostFrame where
  code : Byte
  payload : List Byte
deriving DecidableEq, Repr

/-- A reply on the wire: its TYPE and its contents. -/
structure SentReply where
  code : Byte
  reply : Reply
deriving DecidableEq, Repr

/-- The host link: the frame being built and the moment its newest byte arrived (R173), the two places
of the receive buffer (R174), the reply being sent with the moment its last byte has gone, and whether
that reply is the one after which SOFT_RESET is taken (R165). -/
structure HostLink where
  rx : List Byte
  rxLast : Elapsed
  handled : Option HostFrame
  waiting : Option HostFrame
  reply : Option SentReply
  replyEnds : Elapsed
  softReset : Bool
deriving DecidableEq, Repr

/-- The levels on the input pins: CAM_ACT, the trigger input, the pack voltage sense and the
temperature sense. They are the outside world's (assumption 4). -/
structure Pins where
  camAct : Bool
  trigger : Bool
  packMv : Nat
  celsius : Int
deriving DecidableEq, Repr

/-! ### The whole state -/

/-- The ZT260. `hold` is the model's own: set while the steps of a reset run, when no SCHEDULE
request is raised and no grant is made (R164). -/
structure Part where
  time : TimeBase
  tables : Tables
  gates : Vector Bool 8
  engine : EngineState
  run : Option Run
  runCount : Nat
  lastBase : Option (Fin 16 × Int)
  doneMark : Option DoneMark
  arbiter : Arbiter
  op : Option Operation
  holders : Holders
  camera : CameraPort
  health : Health
  failCount : Nat
  rehearsal : Bool
  lending : Lending
  battery : Battery
  meter : Meter
  monitor : Monitor
  journal : Journal
  notices : List Notice
  link : HostLink
  pins : Pins
  hold : Bool
deriving DecidableEq, Repr

/-- The part and the queue of waiting commands, first in, first out. -/
structure State where
  part : Part
  pending : List Instr
deriving DecidableEq, Repr

/-- Why a step stops with a fault: never. The manual gives every command an effect or says that it
has none, so the type has no constructor and no step can answer one. -/
inductive Fault
deriving DecidableEq, Repr

/-- Why a step is refused. -/
inductive Refusal where
  /-- The command has no meaning yet. Raised by `exec`'s own arm for that command, and by no arm of
  the model as it stands; safe, because the step stops. -/
  | notModelled (mnemonic : String)
deriving DecidableEq, Repr

/-! ### Cold start -/

/-- The general gate length in ticks of gate 1, the start gate after cold start (R72). -/
def gateOneTicks : Nat := 8192

/-- The tables after cold start (R30). -/
def Tables.coldStart : Tables where
  plans := Vector.replicate 16 none
  profiles := Vector.replicate 4 Profile.default
  windows := Vector.replicate 8 Window.default
  general := General.default
  supply := Supply.default

/-- The part as cold start leaves it before the battery supervisor's first reading (R163). The
meter has begun its periodic reading at gate 1 (R83), and the notice set holds COLD_START alone
(R182). -/
def Part.coldStart : Part where
  time := { instant := 0, clock := .notSet, elapsed := 0, trim := 0, withheld := 0,
            trimTaken := true, boundarySeen := 0, midnightSeen := 0 }
  tables := Tables.coldStart
  gates := Vector.replicate 8 false
  engine := .disarmed
  run := none
  runCount := 0
  lastBase := none
  doneMark := none
  arbiter := { schedule := none, external := none, manual := none, merged := 0,
               lastExternal := none }
  op := none
  holders := ⟨false, false, false, false⟩
  camera := { lastTag := 0, tx := none, txEnds := 0, focus := false, shutter := false, rx := []
              rxLast := 0 }
  health := .healthy
  failCount := 0
  rehearsal := false
  lending := { port := .owned, busHost := false, wake := none, timer := none, allowed := true }
  battery := { latest := none, level := .normal, worse := 0, better := 0, lastDue := 0,
               deadline := none, deferred := false }
  meter := { state := .measuring ⟨1, 0, BitVec.ofNat 48 gateOneTicks⟩, startGate := 1,
             lastDue := 0, deadline := BitVec.ofNat 48 (128 * Config.ticksPerEighth), count := 0,
             latest := none }
  monitor := { state := .supplied, deadline := 0, outageStart := 0, cellLow := false,
               lost := false, coldIn := none }
  journal := { records := [], nextNumber := 1, openRun := 0 }
  notices := [⟨.coldStart, 1, 0, 0, none⟩]
  link := { rx := [], rxLast := 0, handled := none, waiting := none, reply := none, replyEnds := 0,
            softReset := false }
  pins := { camAct := false, trigger := false, packMv := Config.resetPackMv,
            celsius := Config.resetCelsius }
  hold := false

/-- The machine right after cold start, with the battery supervisor's first reading taken from the
pins (R141, R153) and the queue empty. -/
def State.reset : State where
  part :=
    { Part.coldStart with
      battery :=
        { latest := some ⟨Config.resetPackMv, Config.resetCelsius, .periodic,
            Config.resetPackMv, .normal⟩
          level := .normal, worse := 0, better := 0, lastDue := 0
          deadline := some (BitVec.ofNat 48 (480 * Config.ticksPerEighth)), deferred := false } }
  pending := []

end Sys2Proof.Machine
end

