-- ==== Sys2Proof/Machine/Bytes.lean ====
section
/-! DEFINITION. Byte order, two's complement and the CRC of both links (R173, R183), and the
byte-level receivers that build frames (R107, R173). -/

namespace Sys2Proof.Machine

/-- A byte of value `n` modulo 256. -/
def byte (n : Nat) : Byte := BitVec.ofNat 8 n

/-- The unsigned value of bytes sent high byte first (R183). -/
def beNat (bs : List Byte) : Nat := bs.foldl (fun acc b => acc * 256 + b.toNat) 0

/-- The two's complement value of bytes sent high byte first (R183). -/
def beInt (bs : List Byte) : Int :=
  let n := beNat bs
  let span := 256 ^ bs.length
  if 2 * n < span then (n : Int) else (n : Int) - (span : Int)

/-- `size` bytes of `n`, high byte first (R183). -/
def putNat : Nat → Nat → List Byte
  | 0, _ => []
  | size + 1, n => byte (n / 256 ^ size) :: putNat size n

/-- `size` bytes of `i` in two's complement, high byte first (R183). -/
def putInt (size : Nat) (i : Int) : List Byte :=
  putNat size (i % ((256 ^ size : Nat) : Int)).toNat

/-- `size` bytes of a payload from offset `at_`. -/
def slice (at_ size : Nat) (bs : List Byte) : List Byte := (bs.drop at_).take size

/-- The unsigned field of `size` bytes at an offset. -/
def fieldNat (at_ size : Nat) (bs : List Byte) : Nat := beNat (slice at_ size bs)

/-- The signed field of `size` bytes at an offset. -/
def fieldInt (at_ size : Nat) (bs : List Byte) : Int := beInt (slice at_ size bs)

/-- A calendar instant: 4 bytes of seconds, then 2 bytes of ticks (R183). -/
def putInstant (t : Nat) : List Byte :=
  putNat 4 (t / Config.ticksPerSecond) ++ putNat 2 (t % Config.ticksPerSecond)

/-- An elapsed count: 6 bytes (R183). -/
def putElapsed (e : Elapsed) : List Byte := putNat 6 e.toNat

/-- One bit of the CRC register with polynomial 0x1021, not reflected (R173). -/
def crcBit (c : BitVec 16) : BitVec 16 :=
  if c.msb then (c <<< 1) ^^^ 0x1021#16 else c <<< 1

/-- One byte taken into the CRC. -/
def crcByte (c : BitVec 16) (b : Byte) : BitVec 16 :=
  crcBit (crcBit (crcBit (crcBit (crcBit (crcBit (crcBit (crcBit
    (c ^^^ (b.setWidth 16 <<< 8)))))))))

/-- The CRC over LEN, TYPE and payload, initial value 0xFFFF and no final XOR (R173). -/
def crc16 (bs : List Byte) : BitVec 16 := bs.foldl crcByte 0xFFFF#16

/-- The SYNC byte that begins every frame (R173). -/
def syncByte : Byte := 0xC3#8

/-- The longest payload a frame may have (R173). -/
def longestPayload : Nat := 250

/-- A whole frame on the wire (section 12.4). -/
def frameBytes (code : Byte) (payload : List Byte) : List Byte :=
  let body := byte payload.length :: code :: payload
  syncByte :: (body ++ putNat 2 (crc16 body).toNat)

/-- What a receiver makes of one more byte: the frame being built after it, and the frame that it
completes, if it completes one. -/
structure Received where
  building : List Byte
  frame : Option HostFrame

/-- One byte taken by a receiver that builds `rx`, the bytes since and including SYNC (R107, R173).
With no frame being built, only SYNC begins one. A LEN above 250 discards the frame. The second CRC
byte completes the frame, and a CRC that does not match discards it. -/
def receiveByte (rx : List Byte) (b : Byte) : Received :=
  match rx with
  | [] => if b = syncByte then ⟨[b], none⟩ else ⟨[], none⟩
  | [_] => if b.toNat > longestPayload then ⟨[], none⟩ else ⟨rx ++ [b], none⟩
  | _ :: len :: _ =>
    let got := rx ++ [b]
    if got.length < len.toNat + 5 then ⟨got, none⟩
    else
      let body := slice 1 (len.toNat + 2) got
      if fieldNat (len.toNat + 3) 2 got = (crc16 body).toNat then
        ⟨[], some ⟨body.getD 1 0, body.drop 2⟩⟩
      else ⟨[], none⟩

/-- The byte that ends a gap, judged afresh as the possible start of a frame (R107, R173). -/
def afterGap (b : Byte) : List Byte := (receiveByte [] b).building

end Sys2Proof.Machine
end

