-- ==== Sys2Proof/Machine/Operands.lean ====
section
/-! DEFINITION. The operands of the record requests: decoding a write request's payload with the
checks of R15 in their order (R16 to R19, R22, R24, R31), and the layouts in which records are
returned (R183, section 12.4). -/

namespace Sys2Proof.Machine

/-! ### Clamping and its report (section 4.3, R15 step 4) -/

/-- A number clamped to low..high. -/
def clampNat (lo hi n : Nat) : Nat := if n < lo then lo else if hi < n then hi else n

/-- An integer clamped to low..high. -/
def clampInt (lo hi i : Int) : Int := if i < lo then lo else if hi < i then hi else i

/-- The indices, in the order given, of the fields that a check marks as changed. -/
def changedFields (fields : List (Nat × Bool)) : List Nat :=
  (fields.filter (·.2)).map (·.1)

/-- The first field, in the order given, whose value is not defined. -/
def firstFault (fields : List (Nat × Bool)) : Option Nat :=
  ((fields.filter (fun f => !f.2)).map (·.1)).head?

/-- The reply to a stored record: OK, or ADJUSTED with the changed fields (R15 step 6). -/
def storedReply (changed : List Nat) : Reply :=
  if changed.isEmpty then .ok [] else .adjusted changed

/-- What the checks of R15 make of a write request: a refusal, or the slot, the candidate record and
the fields that step 4 changed. -/
inductive Checked (ι α : Type) where
  | refuse (r : Reply)
  | store (slot : ι) (record : α) (changed : List Nat)
deriving DecidableEq, Repr

/-! ### Enumerations (R183: numbered from 0 in the order their tables list them) -/

def exposureModeOf (n : Nat) : ExposureMode :=
  match n with
  | 0 => .fixed
  | 1 => .ambient
  | 2 => .feedback
  | _ => .blend

def exposureModeCode : ExposureMode → Nat
  | .fixed => 0
  | .ambient => 1
  | .feedback => 2
  | .blend => 3

def startRuleOf (n : Nat) : StartRule :=
  match n with
  | 0 => .fromPlan
  | 1 => .fromAmbient
  | _ => .inherit

def startRuleCode : StartRule → Nat
  | .fromPlan => 0
  | .fromAmbient => 1
  | .inherit => 2

def bracketModeOf (n : Nat) : BracketMode :=
  match n with
  | 0 => .single
  | 1 => .rotate
  | _ => .burst

def bracketModeCode : BracketMode → Nat
  | .single => 0
  | .rotate => 1
  | .burst => 2

def endActionOf (n : Nat) : EndAction :=
  match n with
  | 0 => .stopNotify
  | 1 => .stopSilent
  | 2 => .chain
  | _ => .chainNotify

def endActionCode : EndAction → Nat
  | .stopNotify => 0
  | .stopSilent => 1
  | .chain => 2
  | .chainNotify => 3

/-- Whether an end action follows a chain (R18). -/
def EndAction.chains : EndAction → Bool
  | .stopNotify | .stopSilent => false
  | .chain | .chainNotify => true

/-- yes, on and SET are coded 1 (R183). -/
def boolCode (b : Bool) : Nat := if b then 1 else 0

/-- A table index below `n`, where the number is one. -/
def finOf? (n k : Nat) : Option (Fin n) := if h : k < n then some ⟨k, h⟩ else none

/-- A table index below `n`, taking 0 where the number is none. -/
def finOf (n : Nat) [NeZero n] (k : Nat) : Fin n := (finOf? n k).getD 0

/-- An optional one-byte number, 0xFF when absent (R183). -/
def putOptIndex {n : Nat} (i : Option (Fin n)) : List Byte :=
  [match i with | some k => byte k.val | none => 0xFF#8]

/-! ### Plan records (R16 to R18) -/

/-- The candidate plan of a DEFINED request after clamping (R17, R18), with the fields changed. -/
def planCandidate (bs : List Byte) : Plan × List Nat :=
  let n := fieldNat 27 1 bs
  let start := fieldNat 4 4 bs
  let stop := fieldNat 8 4 bs
  let limit := fieldNat 14 4 bs
  let eInit := fieldInt 19 2 bs
  let cAmb := fieldInt 21 2 bs
  let gain := fieldNat 23 1 bs
  let dead := fieldNat 24 1 bs
  let step := fieldNat 25 1 bs
  let mode := bracketModeOf (fieldNat 26 1 bs)
  let offsets := (slice 28 n bs).map (fun b => beInt [b])
  let stored := offsets.map (clampInt (-48) 48)
  let kept := if mode = .single then [] else stored
  let action := endActionOf (fieldNat (28 + n) 1 bs)
  let plan : Plan :=
    { mode := exposureModeOf (fieldNat 2 1 bs)
      profile := finOf 4 (fieldNat 3 1 bs)
      intervalStart := clampNat 8 Config.longestInterval start
      intervalEnd := clampNat 8 Config.longestInterval stop
      rampFrames := fieldNat 12 2 bs
      frameLimit := clampNat 0 16777215 limit
      startRule := startRuleOf (fieldNat 18 1 bs)
      eInit := clampInt (-96) 128 eInit
      cAmb := clampInt (-256) 255 cAmb
      gainK := clampNat 0 16 gain
      deadband := clampNat 0 32 dead
      stepLimit := clampNat 1 24 step
      bracketMode := mode
      brackets := kept
      endAction := action
      chainTarget := if action.chains then finOf? 16 (fieldNat (29 + n) 1 bs) else none }
  (plan, changedFields
    [(3, plan.intervalStart != start), (4, plan.intervalEnd != stop),
     (6, plan.frameLimit != limit), (8, plan.eInit != eInit), (9, plan.cAmb != cAmb),
     (10, plan.gainK != gain), (11, plan.deadband != dead), (12, plan.stepLimit != step),
     (14, kept != offsets)])

/-- The structural relations of a DEFINED plan, lowest field first (R17): the profile number, the
number of list entries, and the chain target. -/
def planStructure (slot : Nat) (bs : List Byte) : List (Nat × Bool) :=
  let n := fieldNat 27 1 bs
  let target := fieldNat (29 + n) 1 bs
  [(2, decide (fieldNat 3 1 bs < 4)),
   (14, fieldNat 26 1 bs == 0 || (decide (1 ≤ n) && decide (n ≤ 7))),
   (16, !(endActionOf (fieldNat (28 + n) 1 bs)).chains ||
      (decide (target < 16) && target != slot))]

/-- A WRITE_PLAN payload checked by R15, with R16 to R18. -/
def checkPlan (bs : List Byte) : Checked (Fin 16) (Option Plan) :=
  let slot := fieldNat 0 1 bs
  if bs.length < 2 then .refuse .badLength
  else if fieldNat 1 1 bs = 0 then
    if bs.length ≠ 2 then .refuse .badLength
    else match finOf? 16 slot with
      | none => .refuse (.badField 255)
      | some i => .store i none []
  else if fieldNat 1 1 bs ≠ 1 then .refuse (.badField 0)
  else if bs.length < 28 ∨ bs.length ≠ 30 + fieldNat 27 1 bs then .refuse .badLength
  else match finOf? 16 slot with
    | none => .refuse (.badField 255)
    | some i =>
      match firstFault
        [(1, decide (fieldNat 2 1 bs < 4)), (7, decide (fieldNat 18 1 bs < 3)),
         (13, decide (fieldNat 26 1 bs < 3)),
         (15, decide (fieldNat (28 + fieldNat 27 1 bs) 1 bs < 4))] with
      | some f => .refuse (.badField f)
      | none =>
        match firstFault (planStructure slot bs) with
        | some f => .refuse (.badField f)
        | none => .store i (some (planCandidate bs).1) (planCandidate bs).2

/-- A stored plan slot in the layout of its write (R14, section 12.4). -/
def putPlan (slot : Fin 16) (p : Option Plan) : List Byte :=
  match p with
  | none => [byte slot.val, 0]
  | some p =>
    [byte slot.val, 1, byte (exposureModeCode p.mode), byte p.profile.val] ++
    putNat 4 p.intervalStart ++ putNat 4 p.intervalEnd ++ putNat 2 p.rampFrames ++
    putNat 4 p.frameLimit ++ [byte (startRuleCode p.startRule)] ++ putInt 2 p.eInit ++
    putInt 2 p.cAmb ++ [byte p.gainK, byte p.deadband, byte p.stepLimit,
      byte (bracketModeCode p.bracketMode), byte p.brackets.length] ++
    p.brackets.flatMap (putInt 1) ++ [byte (endActionCode p.endAction)] ++
    putOptIndex p.chainTarget

/-! ### Profile records (R19 to R21) -/

/-- The effective limits of a profile (R20). -/
structure EffectiveLimits where
  sMin : Int
  sMax : Int
  sKnee : Int
  gMax : Int
  gKnee : Int
deriving DecidableEq, Repr

/-- The effective limits that a profile's line_mode gives (R20). -/
def Profile.effective (p : Profile) : EffectiveLimits :=
  match p.lineMode with
  | .settings => ⟨p.sMin, p.sMax, p.sKnee, p.gMax, p.gKnee⟩
  | .noSettings =>
    let lowest := if p.sBulb > p.sMax then p.sMax else max p.sMin p.sBulb
    ⟨lowest, p.sMax, max p.sKnee lowest, 0, 0⟩

/-- The candidate profile after clamping and the forced value of R19, with the fields changed. -/
def profileCandidate (bs : List Byte) : Profile × List Nat :=
  let line : LineMode := if fieldNat 1 1 bs = 0 then .settings else .noSettings
  let asked : ReportMode := if fieldNat 2 1 bs = 0 then .noReport else .report
  let p : Profile :=
    { lineMode := line
      report := if line = .noSettings then .noReport else asked
      sMin := clampInt (-96) 64 (fieldInt 3 2 bs)
      sMax := clampInt (-96) 64 (fieldInt 5 2 bs)
      sBulb := clampInt (-96) 65 (fieldInt 7 2 bs)
      sKnee := clampInt (-96) 64 (fieldInt 9 2 bs)
      gMax := clampNat 0 64 (fieldNat 11 1 bs)
      gKnee := clampNat 0 64 (fieldNat 12 1 bs)
      targetB := clampInt (-32) 32 (fieldInt 13 2 bs)
      wakeMode := if fieldNat 15 1 bs = 0 then .waitReady else .fixedTime
      wakeLead := clampNat 0 240 (fieldNat 16 2 bs)
      readyTimeout := clampNat 8 240 (fieldNat 18 2 bs)
      settingTimeout := clampNat 328 65535 (fieldNat 20 2 bs)
      prefocus := fieldNat 22 2 bs
      shutterPulse := clampNat 33 65535 (fieldNat 24 2 bs)
      activityTimeout := clampNat 328 65535 (fieldNat 26 2 bs)
      writeTimeout := clampNat 8 2400 (fieldNat 28 2 bs)
      reportWait := clampNat 1 80 (fieldNat 30 2 bs)
      reserve := clampNat 0 2400 (fieldNat 32 2 bs)
      keepWarmLimit := clampNat 0 4800 (fieldNat 34 2 bs)
      burstSpacing := clampNat 1 240 (fieldNat 36 2 bs)
      faultLimit := clampNat 1 15 (fieldNat 38 1 bs)
      recoveryOff := clampNat 8 480 (fieldNat 39 2 bs)
      recoveryAttempts := clampNat 1 7 (fieldNat 41 1 bs) }
  (p, changedFields
    [(1, p.report != asked), (2, p.sMin != fieldInt 3 2 bs), (3, p.sMax != fieldInt 5 2 bs),
     (4, p.sBulb != fieldInt 7 2 bs), (5, p.sKnee != fieldInt 9 2 bs),
     (6, p.gMax != fieldNat 11 1 bs), (7, p.gKnee != fieldNat 12 1 bs),
     (8, p.targetB != fieldInt 13 2 bs), (10, p.wakeLead != fieldNat 16 2 bs),
     (11, p.readyTimeout != fieldNat 18 2 bs), (12, p.settingTimeout != fieldNat 20 2 bs),
     (14, p.shutterPulse != fieldNat 24 2 bs), (15, p.activityTimeout != fieldNat 26 2 bs),
     (16, p.writeTimeout != fieldNat 28 2 bs), (17, p.reportWait != fieldNat 30 2 bs),
     (18, p.reserve != fieldNat 32 2 bs), (19, p.keepWarmLimit != fieldNat 34 2 bs),
     (20, p.burstSpacing != fieldNat 36 2 bs), (21, p.faultLimit != fieldNat 38 1 bs),
     (22, p.recoveryOff != fieldNat 39 2 bs), (23, p.recoveryAttempts != fieldNat 41 1 bs)])

/-- The structural relations of a profile, lowest field first (R19). -/
def profileStructure (p : Profile) : List (Nat × Bool) :=
  [(2, decide (p.sMin ≤ p.sMax)), (5, decide (p.sMin ≤ p.sKnee) && decide (p.sKnee ≤ p.sMax)),
   (7, decide (p.gKnee ≤ p.gMax))]

/-- A WRITE_PROFILE payload checked by R15, with R19. -/
def checkProfile (bs : List Byte) : Checked (Fin 4) Profile :=
  if bs.length ≠ 42 then .refuse .badLength
  else match finOf? 4 (fieldNat 0 1 bs) with
    | none => .refuse (.badField 255)
    | some i =>
      match firstFault
        [(0, decide (fieldNat 1 1 bs < 2)), (1, decide (fieldNat 2 1 bs < 2)),
         (9, decide (fieldNat 15 1 bs < 2))] with
      | some f => .refuse (.badField f)
      | none =>
        match firstFault (profileStructure (profileCandidate bs).1) with
        | some f => .refuse (.badField f)
        | none => .store i (profileCandidate bs).1 (profileCandidate bs).2

/-- A stored profile followed by its five effective values (R21). -/
def putProfile (slot : Fin 4) (p : Profile) : List Byte :=
  let e := p.effective
  [byte slot.val, if p.lineMode = .settings then 0 else 1, if p.report = .noReport then 0 else 1] ++
  putInt 2 p.sMin ++ putInt 2 p.sMax ++ putInt 2 p.sBulb ++ putInt 2 p.sKnee ++
  [byte p.gMax, byte p.gKnee] ++ putInt 2 p.targetB ++
  [if p.wakeMode = .waitReady then 0 else 1] ++
  putNat 2 p.wakeLead ++ putNat 2 p.readyTimeout ++ putNat 2 p.settingTimeout ++
  putNat 2 p.prefocus ++ putNat 2 p.shutterPulse ++ putNat 2 p.activityTimeout ++
  putNat 2 p.writeTimeout ++ putNat 2 p.reportWait ++ putNat 2 p.reserve ++
  putNat 2 p.keepWarmLimit ++ putNat 2 p.burstSpacing ++ [byte p.faultLimit] ++
  putNat 2 p.recoveryOff ++ [byte p.recoveryAttempts] ++
  putInt 2 e.sMin ++ putInt 2 e.sMax ++ putInt 2 e.sKnee ++ putInt 1 e.gMax ++ putInt 1 e.gKnee

/-! ### Window records (R31) -/

/-- Where the weekday mask stands: after the two day fields, where a date range is present. -/
def windowMaskAt (bs : List Byte) : Nat := if fieldNat 10 1 bs = 0 then 15 else 11

/-- The candidate window after clamping, with the fields changed (R31). A date range is coded
present 0 and absent 1, in the order of the window table (assumption 5). -/
def windowCandidate (bs : List Byte) : Window × List Nat :=
  let m := windowMaskAt bs
  let dated := fieldNat 10 1 bs = 0
  let kind := fieldNat (m + 1) 1 bs
  let after := if kind = 0 then m + 2 else m + 4
  let start := fieldNat 2 4 bs
  let stop := fieldNat 6 4 bs
  let first := fieldNat 11 2 bs
  let last := fieldNat 13 2 bs
  let x := fieldInt (m + 2) 2 bs
  let x' := clampInt (-160) 160 x
  let w : Window :=
    { enabled := fieldNat 1 1 bs == 1
      startSod := clampNat 0 86399 start
      endSod := clampNat 0 86399 stop
      dates := if dated then some (clampNat 0 36524 first, clampNat 0 36524 last) else none
      weekdays := BitVec.ofNat 7 (fieldNat m 1 bs)
      gate := if kind = 0 then .noGate else if kind = 1 then .above x' else .below x'
      plan := finOf 16 (fieldNat after 1 bs)
      essential := fieldNat (after + 1) 1 bs == 1 }
  (w, changedFields
    [(1, w.startSod != start), (2, w.endSod != stop),
     (4, dated && clampNat 0 36524 first != first), (5, dated && clampNat 0 36524 last != last),
     (8, kind != 0 && x' != x)])

/-- The payload length that a window's date range and gate call for (section 12.4). -/
def windowLength (bs : List Byte) : Nat :=
  15 + (if fieldNat 10 1 bs = 0 then 4 else 0) +
    (if fieldNat (windowMaskAt bs + 1) 1 bs = 0 then 0 else 2)

/-- A WRITE_WINDOW payload checked by R15, with R31. -/
def checkWindow (bs : List Byte) : Checked (Fin 8) Window :=
  let m := windowMaskAt bs
  let after := if fieldNat (m + 1) 1 bs = 0 then m + 2 else m + 4
  if bs.length ≤ 10 then .refuse .badLength
  else if fieldNat 10 1 bs > 1 then .refuse (.badField 3)
  else if bs.length ≤ m + 1 then .refuse .badLength
  else if fieldNat (m + 1) 1 bs > 2 then .refuse (.badField 7)
  else if bs.length ≠ windowLength bs then .refuse .badLength
  else match finOf? 8 (fieldNat 0 1 bs) with
    | none => .refuse (.badField 255)
    | some i =>
      match firstFault
        [(0, decide (fieldNat 1 1 bs < 2)), (6, decide (fieldNat m 1 bs < 128)),
         (10, decide (fieldNat (after + 1) 1 bs < 2)), (9, decide (fieldNat after 1 bs < 16))] with
      | some f => .refuse (.badField f)
      | none => .store i (windowCandidate bs).1 (windowCandidate bs).2

/-- The kind of a gate, as R31 compares kinds: none 0, ABOVE 1, BELOW 2. -/
def AmbientGate.kind : AmbientGate → Nat
  | .noGate => 0
  | .above _ => 1
  | .below _ => 2

/-- A stored window in the layout of its write (R31). -/
def putWindow (slot : Fin 8) (w : Window) : List Byte :=
  [byte slot.val, byte (boolCode w.enabled)] ++ putNat 4 w.startSod ++ putNat 4 w.endSod ++
  (match w.dates with
    | some (first, last) => (0 : Byte) :: (putNat 2 first ++ putNat 2 last)
    | none => [1]) ++
  [w.weekdays.setWidth 8, byte w.gate.kind] ++
  (match w.gate with
    | .noGate => []
    | .above x => putInt 2 x
    | .below x => putInt 2 x) ++
  [byte w.plan.val, byte (boolCode w.essential)]

/-! ### General settings (R22) -/

/-- The candidate general settings after clamping, with the fields changed (R22). -/
def generalCandidate (bs : List Byte) : General × List Nat :=
  let g : General :=
    { levelSchedule := clampNat 0 2 (fieldNat 0 1 bs)
      levelExternal := clampNat 0 2 (fieldNat 1 1 bs)
      levelManual := clampNat 0 2 (fieldNat 2 1 bs)
      lateLimit := clampNat 0 240 (fieldNat 3 2 bs)
      triggerPlan := if fieldNat 5 1 bs = 255 then none else finOf? 16 (fieldNat 5 1 bs)
      triggerEdge := if fieldNat 6 1 bs = 0 then .rising else .falling
      holdoff := fieldNat 7 2 bs
      meterEnabled := fieldNat 9 1 bs == 1
      meterPeriod := clampNat 64 4800 (fieldNat 10 2 bs)
      cCal := fieldInt 12 1 bs
      lendLimit := clampNat 1 240 (fieldNat 13 1 bs)
      lendMin := clampNat 8 4800 (fieldNat 14 2 bs)
      reclaimLead := clampNat 8 2400 (fieldNat 16 2 bs)
      lendPolicy := if fieldNat 18 1 bs = 0 then .hostFirst else .partFirst
      mask := BitVec.ofNat 14 (fieldNat 19 2 bs) }
  (g, changedFields
    [(0, g.levelSchedule != fieldNat 0 1 bs), (1, g.levelExternal != fieldNat 1 1 bs),
     (2, g.levelManual != fieldNat 2 1 bs), (3, g.lateLimit != fieldNat 3 2 bs),
     (8, g.meterPeriod != fieldNat 10 2 bs), (10, g.lendLimit != fieldNat 13 1 bs),
     (11, g.lendMin != fieldNat 14 2 bs), (12, g.reclaimLead != fieldNat 16 2 bs)])

/-- A WRITE_GENERAL payload checked by R15, with R22. -/
def checkGeneral (bs : List Byte) : Checked Unit General :=
  if bs.length ≠ 21 then .refuse .badLength
  else match firstFault
      [(5, decide (fieldNat 6 1 bs < 2)), (7, decide (fieldNat 9 1 bs < 2)),
       (13, decide (fieldNat 18 1 bs < 2)), (14, decide (fieldNat 19 2 bs < 16384)),
       (4, decide (fieldNat 5 1 bs < 16) || fieldNat 5 1 bs == 255)] with
    | some f => .refuse (.badField f)
    | none => .store () (generalCandidate bs).1 (generalCandidate bs).2

/-- The general settings in the layout of their write (section 12.4). -/
def putGeneral (g : General) : List Byte :=
  [byte g.levelSchedule, byte g.levelExternal, byte g.levelManual] ++ putNat 2 g.lateLimit ++
  putOptIndex g.triggerPlan ++ [if g.triggerEdge = .rising then 0 else 1] ++ putNat 2 g.holdoff ++
  [byte (boolCode g.meterEnabled)] ++ putNat 2 g.meterPeriod ++ putInt 1 g.cCal ++
  [byte g.lendLimit] ++ putNat 2 g.lendMin ++ putNat 2 g.reclaimLead ++
  [if g.lendPolicy = .hostFirst then 0 else 1] ++ putNat 2 g.mask.toNat

/-! ### Supply settings (R24) -/

/-- A factor forced to a power of two (R24). -/
def forceFactor (n : Nat) : Nat := if n ≥ 8 then 8 else if n ≥ 4 then 4 else if n ≥ 2 then 2 else 1

/-- The candidate supply settings after clamping and forcing, with the fields changed (R24). -/
def supplyCandidate (bs : List Byte) : Supply × List Nat :=
  let g : Supply :=
    { thrThrift := clampNat 4500 16000 (fieldNat 0 2 bs)
      thrScarce := clampNat 4500 16000 (fieldNat 2 2 bs)
      thrCritical := clampNat 4500 16000 (fieldNat 4 2 bs)
      hysteresis := clampNat 0 1000 (fieldNat 6 2 bs)
      confirm := clampNat 1 8 (fieldNat 8 1 bs)
      coldSlope := clampNat 0 20 (fieldNat 9 1 bs)
      sagAllowance := clampNat 0 1000 (fieldNat 10 2 bs)
      checkPeriod := clampNat 8 4800 (fieldNat 12 2 bs)
      fThrift := forceFactor (fieldNat 14 1 bs)
      fScarce := forceFactor (fieldNat 15 1 bs)
      rideThrough := clampNat 1 16 (fieldNat 16 1 bs)
      warmWindow := clampNat 1 1440 (fieldNat 17 2 bs) }
  (g, changedFields
    [(0, g.thrThrift != fieldNat 0 2 bs), (1, g.thrScarce != fieldNat 2 2 bs),
     (2, g.thrCritical != fieldNat 4 2 bs), (3, g.hysteresis != fieldNat 6 2 bs),
     (4, g.confirm != fieldNat 8 1 bs), (5, g.coldSlope != fieldNat 9 1 bs),
     (6, g.sagAllowance != fieldNat 10 2 bs), (7, g.checkPeriod != fieldNat 12 2 bs),
     (8, g.fThrift != fieldNat 14 1 bs), (9, g.fScarce != fieldNat 15 1 bs),
     (10, g.rideThrough != fieldNat 16 1 bs), (11, g.warmWindow != fieldNat 17 2 bs)])

/-- A WRITE_SUPPLY payload checked by R15, with R24. -/
def checkSupply (bs : List Byte) : Checked Unit Supply :=
  if bs.length ≠ 19 then .refuse .badLength
  else
    let g := (supplyCandidate bs).1
    match firstFault
      [(1, decide (g.thrScarce < g.thrThrift)), (2, decide (g.thrCritical < g.thrScarce))] with
    | some f => .refuse (.badField f)
    | none => .store () g (supplyCandidate bs).2

/-- The supply settings in the layout of their write (section 12.4). -/
def putSupply (g : Supply) : List Byte :=
  putNat 2 g.thrThrift ++ putNat 2 g.thrScarce ++ putNat 2 g.thrCritical ++
  putNat 2 g.hysteresis ++ [byte g.confirm, byte g.coldSlope] ++ putNat 2 g.sagAllowance ++
  putNat 2 g.checkPeriod ++ [byte g.fThrift, byte g.fScarce, byte g.rideThrough] ++
  putNat 2 g.warmWindow

end Sys2Proof.Machine
end

