-- ==== Sys2Proof/Machine/Exposure.lean ====
section
/-! DEFINITION. The exposure computer's arithmetic (chapter 4): durations, the fit, the base
update, frame exposure and the split. Everything here is a function of its inputs; which inputs a
due or an operation reads is in Capture.lean. -/

namespace Sys2Proof.Machine

/-! ### Durations (R52) -/

/-- The mantissa M[r] of R52. -/
def mantissa (r : Nat) : Nat :=
  match r with
  | 0 => 32768
  | 1 => 35734
  | 2 => 38968
  | 3 => 42495
  | 4 => 46341
  | 5 => 50535
  | 6 => 55109
  | _ => 60097

/-- D(s): the duration in ticks of shutter index s (R52). -/
def duration (s : Int) : Nat :=
  let q := s / 8
  let m := mantissa (s % 8).toNat
  if 0 ≤ q then m * 2 ^ q.toNat
  else
    let n := (-q).toNat
    (m + 2 ^ (n - 1)) / 2 ^ n

/-! ### Fit budget, cap and limits (R57 to R59) -/

/-- The fit budget in ticks of one of `n` frames (R57); it may be negative. -/
def fitBudget (interval reserve spacing n : Nat) : Int :=
  ((interval : Int) * 4096 - (reserve : Int) * 4096 - ((n : Int) - 1) * (spacing : Int) * 4096) / n

/-- The largest s in low..low + n whose duration is within the budget, and low if none is (R58). -/
def largestFit (budget : Int) (low : Int) : Nat → Int
  | 0 => low
  | n + 1 =>
    if (duration (low + ((n + 1 : Nat) : Int)) : Int) ≤ budget then low + ((n + 1 : Nat) : Int)
    else largestFit budget low n

/-- The outcome of the fit: s_cap and whether the due is TIGHT (R58). -/
structure Fit where
  cap : Int
  tight : Bool
deriving DecidableEq, Repr

/-- The fit of a due under its budget and effective limits (R58). -/
def fitOf (budget : Int) (e : EffectiveLimits) : Fit :=
  if budget < 0 ∨ budget < (duration e.sMin : Int) then ⟨e.sMin, true⟩
  else ⟨largestFit budget e.sMin (e.sMax - e.sMin).toNat, false⟩

/-- E_min of a due (R59). -/
def exposureMin (e : EffectiveLimits) : Int := e.sMin

/-- E_max of a due (R59). -/
def exposureMax (e : EffectiveLimits) (f : Fit) : Int := f.cap + e.gMax

/-- An exposure sum held within E_min..E_max, with whether it was held down or held up. -/
structure Held where
  value : Int
  high : Bool
  low : Bool
deriving DecidableEq, Repr

/-- Hold an exposure sum within low..high (R61, R64, R66, R67). -/
def holdWithin (low high v : Int) : Held :=
  ⟨clampInt low high v, decide (high < v), decide (v < low)⟩

/-! ### The base update (R60 to R65) -/

/-- The starting value of a first update, and of E_op in its third case (R61, R66). -/
def startValue (p : Plan) (aNow : Option Int) (lastBase : Option (Fin 16 × Int)) : Int :=
  let fromAmbient := match aNow with
    | some a => p.cAmb - a
    | none => p.eInit
  match p.startRule with
  | .fromPlan => p.eInit
  | .fromAmbient => fromAmbient
  | .inherit => match lastBase with
    | some (_, e) => e
    | none => fromAmbient

/-- The feedback correction of R62. -/
def correction (p : Plan) (targetB : Int) (bLast : Option (Int × Int)) : Int :=
  let err := match bLast with
    | some (b, offset) => targetB - (b - offset)
    | none => 0
  let d : Int := p.deadband
  let e := if err.natAbs ≤ p.deadband then 0 else if 0 < err then err - d else err + d
  (e * (p.gainK : Int)).tdiv 16

/-- Whether a mode forms the feedback term (R62). -/
def ExposureMode.usesFeedback : ExposureMode → Bool
  | .fixed | .ambient => false
  | .feedback | .blend => true

/-- The desired change of E_base in a later update (R63). -/
def desiredChange (p : Plan) (targetB eBase : Int) (aNow aPrev : Option Int)
    (bLast : Option (Int × Int)) : Int :=
  match p.mode with
  | .fixed => 0
  | .feedback => correction p targetB bLast
  | .ambient => match aNow with
    | some a => (p.cAmb - a) - eBase
    | none => 0
  | .blend =>
    let ambient := match aPrev, aNow with
      | some before, some a => before - a
      | _, _ => 0
    ambient + correction p targetB bLast

/-- What a base update gives (R61, R64, R65). -/
structure BaseUpdate where
  eBase : Int
  aPrev : Option Int
  rateLimited : Bool
  high : Bool
  low : Bool
  feedbackUsed : Bool
deriving DecidableEq, Repr

/-- The base update of a due within the limits low..high (R60 to R65). -/
def baseUpdate (p : Plan) (targetB low high : Int) (eBase aPrev aNow : Option Int)
    (bLast : Option (Int × Int)) (lastBase : Option (Fin 16 × Int)) : BaseUpdate :=
  let aPrev' := match aNow with
    | some a => some a
    | none => aPrev
  match eBase with
  | none =>
    let h := holdWithin low high (startValue p aNow lastBase)
    ⟨h.value, aPrev', false, h.high, h.low, false⟩
  | some e =>
    let want := desiredChange p targetB e aNow aPrev bLast
    let step := clampInt (-(p.stepLimit : Int)) p.stepLimit want
    let h := holdWithin low high (e + step)
    ⟨h.value, aPrev', step != want, h.high, h.low, p.mode.usesFeedback && bLast.isSome⟩

/-! ### Frame exposure, split and timing (R67 to R69) -/

/-- The split of E_frame into s and g by the four phases of R68. -/
def splitExposure (e : EffectiveLimits) (cap eFrame : Int) : Int × Int :=
  let s1 := clampInt e.sMin (min e.sKnee cap) eFrame
  let r1 := eFrame - s1
  let g1 := min r1 e.gKnee
  let r2 := r1 - g1
  let s2 := min r2 (cap - s1)
  let r3 := r2 - s2
  (s1 + s2, g1 + min r3 (e.gMax - g1))

/-- The setting of one frame at an offset from the base (R67 to R69). -/
def frameSetting (prof : Profile) (f : Fit) (base offset : Int) : FrameSetting :=
  let e := prof.effective
  let h := holdWithin (exposureMin e) (exposureMax e f) (base + offset)
  let sg := splitExposure e f.cap h.value
  let bulb := decide (prof.sBulb ≤ sg.1)
  { offset := offset, eFrame := h.value, s := sg.1, g := sg.2, bulb := bulb
    hold := if bulb then duration sg.1 else prof.shutterPulse
    high := h.high, low := h.low }

/-- The brightness synthesized for a rehearsal frame (R123). -/
def synthesizedB (targetB eFrame cAmb : Int) (aNow : Option Int) : Option Int :=
  aNow.map (fun a => clampInt (-64) 64 (targetB + eFrame + a - cAmb))

/-- The offsets of an operation's frames: NONE gives one frame at 0, ROTATE the entry at the ring
index given, BURST every entry in list order or entry 0 alone when reduced (R50, R51, R67, R99). -/
def frameOffsets (p : Plan) (ring : Nat) (reduced : Bool) : List Int :=
  match p.bracketMode with
  | .single => [0]
  | .rotate => [p.brackets.getD ring 0]
  | .burst => if reduced then [p.brackets.getD 0 0] else p.brackets

end Sys2Proof.Machine
end

