-- ==== Sys2Proof/Machine/Schedule.lean ====
section
/-! DEFINITION. The arithmetic of the schedule (chapter 3): occurrences of a window, its admission,
the interval of a run and the first due. -/

namespace Sys2Proof.Machine

/-- The day number of a calendar instant (R3). -/
def dayOf (t : Nat) : Nat := t / Config.ticksPerSecond / Config.secondsPerDay

/-- The second of day of a calendar instant (R3). -/
def sodOf (t : Nat) : Nat := t / Config.ticksPerSecond % Config.secondsPerDay

/-- The weekday of a day number, 0 for Sunday (R3). -/
def weekdayOf (day : Nat) : Nat := (day + 6) % 7

/-- The instant at which a second of a day begins. -/
def instantOf (day sod : Nat) : Nat := (day * Config.secondsPerDay + sod) * Config.ticksPerSecond

/-- An occurrence of a window: its start day, its start moment and its end moment (R32). -/
structure Occurrence where
  day : Nat
  start : Nat
  stop : Nat
deriving DecidableEq, Repr

/-- Whether a window spans the whole day (R32). -/
def Window.wholeDay (w : Window) : Bool := w.startSod == w.endSod

/-- The occurrence of a window in which an instant lies (R32). -/
def occurrenceAt (w : Window) (t : Nat) : Option Occurrence :=
  let d := dayOf t
  let sod := sodOf t
  if w.startSod = w.endSod then some ⟨d, instantOf d 0, instantOf (d + 1) 0⟩
  else if w.startSod < w.endSod then
    if w.startSod ≤ sod ∧ sod < w.endSod then
      some ⟨d, instantOf d w.startSod, instantOf d w.endSod⟩
    else none
  else if w.startSod ≤ sod then
    some ⟨d, instantOf d w.startSod, instantOf (d + 1) w.endSod⟩
  else if sod < w.endSod ∧ 0 < d then
    some ⟨d - 1, instantOf (d - 1) w.startSod, instantOf d w.endSod⟩
  else none

/-- Whether the occurrence of a start day is admitted by the date range and the weekdays (R32). -/
def startDayAdmitted (w : Window) (day : Nat) : Bool :=
  (match w.dates with
    | none => true
    | some (first, last) => decide (first ≤ day) && decide (day ≤ last)) &&
  w.weekdays.getLsbD (weekdayOf day)

/-- Whether a window's gate is satisfied by its gate state (R33). -/
def gateSatisfied (w : Window) (gateState : Bool) : Bool :=
  match w.gate with
  | .noGate => true
  | .above _ | .below _ => gateState

/-- A window's gate state after a reading of value `a` (R33). -/
def gateAfter (w : Window) (gateState : Bool) (a : Int) : Bool :=
  match w.gate with
  | .noGate => gateState
  | .above x => if x ≤ a then true else if a < x - 8 then false else gateState
  | .below x => if a ≤ x then true else if x + 8 < a then false else gateState

/-- Whether a power level admits a window (R34). -/
def levelAdmits (l : Level) (w : Window) : Bool :=
  match l with
  | .normal | .thrift => true
  | .scarce => w.essential
  | .critical => false

/-- I_k: a plan's interval at the k-th consumption, in eighths (R45). -/
def intervalAt (p : Plan) (k : Nat) : Nat :=
  if p.rampFrames = 0 then p.intervalStart
  else ((p.intervalStart : Int) +
    (((p.intervalEnd : Int) - p.intervalStart) * (min k p.rampFrames : Nat)).tdiv
      p.rampFrames).toNat

/-- The interval factor F of a level (R45). -/
def intervalFactor (g : Supply) (l : Level) : Nat :=
  match l with
  | .normal => 1
  | .thrift => g.fThrift
  | .scarce | .critical => g.fScarce

/-- An interval stretched by a factor and capped at 691,200 eighths (R45). -/
def stretched (interval factor : Nat) : Nat := min (interval * factor) Config.longestInterval

/-- The first due of a run: the occurrence start plus the smallest whole multiple of the interval
that is at or after the start of the run (R36). -/
def firstDue (occStart intervalTicks now : Nat) : Nat :=
  occStart + (now - occStart + (intervalTicks - 1)) / intervalTicks * intervalTicks

/-- The first instant after `t` at which the second of day is `sod`. -/
def nextSecondOfDay (t sod : Nat) : Nat :=
  let today := instantOf (dayOf t) sod
  if t < today then today else instantOf (dayOf t + 1) sod

/-- The start_sod and end_sod of every enabled window (R35). -/
def boundarySods (ws : List Window) : List Nat :=
  (ws.filter (·.enabled)).flatMap (fun w => [w.startSod, w.endSod])

/-- The first window boundary after `t`, where any window is enabled (R35). -/
def nextBoundary (ws : List Window) (t : Nat) : Option Nat :=
  ((boundarySods ws).map (nextSecondOfDay t)).min?

end Sys2Proof.Machine
end

