-- ==== Sys2Proof/Machine/Ops.lean ====
section
/-! DEFINITION. The shared operations on the part's clocks, notices, journal, power holders, run and
window selection. Each says once what several commands do. None of them makes a grant: grants are
in Capture.lean and Lending.lean. -/

namespace Sys2Proof.Machine

/-! ### Reading the part -/

/-- The calendar instant now (R3). -/
def Part.now (s : Part) : Nat := s.time.instant

/-- The deadline on the elapsed counter a number of ticks from now (R2, R8). -/
def Part.after (s : Part) (ticks : Nat) : Elapsed := s.time.elapsed + BitVec.ofNat 48 ticks

/-- Eighths in ticks (R1). -/
def eighths (n : Nat) : Nat := n * Config.ticksPerEighth

/-- Whether a deadline on the elapsed counter has been reached, modulo 2^48 (R2). -/
def Part.reached (s : Part) (deadline : Elapsed) : Bool :=
  decide ((s.time.elapsed - deadline).toNat < 2 ^ 47)

/-- Whether the part takes its events: SUPPLIED or RIDING, with the backup domain alive (R156,
R159, R163). -/
def Part.awake (s : Part) : Bool :=
  !s.monitor.lost &&
  match s.monitor.state with
  | .supplied | .riding => true
  | .outage | .restoring => false

/-- Whether a recovery attempt is in its off phase (R114). -/
def Health.inOffPhase : Health → Bool
  | .recovering r => match r.phase with
    | .off _ => true
    | .on _ | .stopped => false
  | .healthy | .faulted => false

/-- Whether health is RECOVERING. -/
def Health.isRecovering : Health → Bool
  | .recovering _ => true
  | .healthy | .faulted => false

/-- Whether health is HEALTHY. -/
def Health.isHealthy : Health → Bool
  | .healthy => true
  | .recovering _ | .faulted => false

/-- Whether any holder is present. -/
def Holders.any (h : Holders) : Bool := h.operation || h.keepWarm || h.lend || h.recovery

/-- CAM_PWR as the holder set gives it, off in the off phase of a recovery attempt (R105, R114). -/
def Part.camPwr (s : Part) : Bool := s.holders.any && !s.health.inOffPhase

/-- The CAM_PWR line itself, held inactive in rehearsal (R121). -/
def Part.camPwrLine (s : Part) : Bool := s.camPwr && !s.rehearsal

/-- NOTICE: active while the set holds an entry and the part is SUPPLIED or RIDING (R181). -/
def Part.noticeLine (s : Part) : Bool := !s.notices.isEmpty && s.awake

/-- A stored plan slot. -/
def Part.planAt (s : Part) (i : Fin 16) : Option Plan := s.tables.plans.get i

/-- The profile that a plan slot names, and profile 0 where the slot is EMPTY. -/
def Part.profileOfPlan (s : Part) (i : Fin 16) : Profile :=
  match s.planAt i with
  | some p => s.tables.profiles.get p.profile
  | none => s.tables.profiles.get 0

/-- The wake_lead in ticks of the profile named by the run's plan, as stored (R85, R126, R130). -/
def Part.wakeLead (s : Part) (r : Run) : Nat := eighths (s.profileOfPlan r.plan).wakeLead

/-- The wake time of the run's next_due (R85), by the wake_lead stored now. A write that brings a wake
time not yet taken to or before now does not take it: the WAKE_TIME event or the due does (the model's
choice, assumption 24). -/
def Part.wakeTime (s : Part) (r : Run) : Nat := r.nextDue - s.wakeLead r

/-- The reclaim moment of the run's next_due (R130). -/
def Part.reclaimMoment (s : Part) (r : Run) : Nat :=
  r.nextDue - (eighths s.tables.general.reclaimLead + s.wakeLead r)

/-- The late limit of the run's next_due (R47). -/
def Run.lateInstant (r : Run) : Nat := r.nextDue + eighths r.lateLimit

/-- Whether an operation has been granted for the run's next_due and has not settled it (R47). -/
def Part.dueGranted (s : Part) : Bool :=
  match s.op with
  | some o => o.source == .schedule && !o.settled
  | none => false

/-- The interval factor at the present level (R45). -/
def Part.factor (s : Part) : Nat := intervalFactor s.tables.supply s.battery.level

/-- The run's current effective interval in eighths, under a plan (R11, R45, R56). -/
def Part.effectiveInterval (s : Part) (p : Plan) (k : Nat) : Nat :=
  stretched (intervalAt p k) s.factor

/-! ### Notices (R178, R179) -/

/-- The number of a notice kind, which is its bit in the mask (section 12.4). -/
def NoticeKind.index : NoticeKind → Nat
  | .planDone => 0
  | .runStarted => 1
  | .runEnded => 2
  | .cameraWanted => 3
  | .cameraLent => 4
  | .cameraTaken => 5
  | .cameraFault => 6
  | .cameraRecovered => 7
  | .levelChanged => 8
  | .restoredWarm => 9
  | .restoredPaused => 10
  | .coldStart => 11
  | .clockNeeded => 12
  | .shootDone => 13

/-- A raise acting on the entries: the entry of that kind is updated in place, or a new one is added
as the newest (R178). -/
def raiseIn (kind : NoticeKind) (detail : Option Nat) (now : Nat) : List Notice → List Notice
  | [] => [⟨kind, 1, now, now, detail⟩]
  | n :: ns =>
    if n.kind = kind then
      { n with count := min (n.count + 1) 255, last := now, detail := detail } :: ns
    else n :: raiseIn kind detail now ns

/-- Raise a notice: nothing where its kind is masked (R179). -/
def raiseNotice (kind : NoticeKind) (detail : Option Nat) (s : Part) : Part :=
  if s.tables.general.mask.getLsbD kind.index then
    { s with notices := raiseIn kind detail s.now s.notices }
  else s

/-! ### The frame journal (R166, R167, R48) -/

/-- The records with the newest one closed. -/
def closeNewest : List FrameRecord → List FrameRecord
  | [] => []
  | [r] => [{ r with flags := { r.flags with isOpen := false } }]
  | r :: rs => r :: closeNewest rs

/-- The last frame number that a record may take (R166). -/
def lastFrameNumber : Nat := 4294967294

/-- The number of records the ring holds at most (R166). -/
def journalCapacity : Nat := 256

/-- The journal emptied and renumbered where the count has come to its end (R166). -/
def Journal.atAppend (j : Journal) : Journal :=
  if lastFrameNumber < j.nextNumber then { j with records := [], nextNumber := 1 } else j

/-- Append a record: it takes the next number, the open record closes, and a full ring gives up its
oldest (R166, R167). -/
def Journal.append (rec : FrameRecord) (j : Journal) : Journal :=
  let j := j.atAppend
  let closed := closeNewest j.records
  let kept := if closed.length < journalCapacity then closed else closed.drop 1
  { j with records := kept ++ [{ rec with number := j.nextNumber }], nextNumber := j.nextNumber + 1 }

/-- The number an append gives its record. -/
def Journal.numberFor (j : Journal) : Nat := j.atAppend.nextNumber

/-- The newest frame number, absent while the ring is empty (R167). -/
def Journal.newest (j : Journal) : Option Nat := j.records.getLast?.map (·.number)

/-- The oldest frame number, absent while the ring is empty (R166). -/
def Journal.oldest (j : Journal) : Option Nat := j.records.head?.map (·.number)

/-- The open record closed in place, as the run number count's return to 1 does (R36, R171). -/
def Journal.close (j : Journal) : Journal := { j with records := closeNewest j.records }

/-- A MISSED record (R48, R88, R158). -/
def missedRecord (source : Source) (plan : Fin 16) (window : Option (Fin 8)) (due : Nat)
    (merged : Option Nat) (reason : MissReason) (isOpen : Bool) : FrameRecord :=
  { number := 0, outcome := .missed, source := source, plan := plan, window := window, due := due
    startAt := none, exposure := none, flags := { RecordFlags.clear with isOpen := isOpen }
    b := none, a := none, level := none, volts := none, merged := merged, cause := none
    reason := some reason, missCount := 1, lastDue := some due }

/-- Whether a record is the open MISSED record that a miss of this run and reason extends (R48). -/
def extends? (r : Run) (reason : MissReason) (openRun : Nat) (rec : FrameRecord) : Bool :=
  rec.flags.isOpen && rec.outcome == .missed && rec.source == .schedule &&
  openRun == r.number && rec.plan == r.plan && rec.reason == some reason &&
  decide (rec.missCount < 65535)

/-- Extend the newest record by one miss of a due (R48, R171). -/
def extendNewest (due : Nat) : List FrameRecord → List FrameRecord
  | [] => []
  | [r] => [{ r with missCount := r.missCount + 1, lastDue := some due }]
  | r :: rs => r :: extendNewest due rs

/-- Record one miss of a run's due (R48). -/
def Journal.miss (r : Run) (due : Nat) (reason : MissReason) (j : Journal) : Journal :=
  match j.records.getLast? with
  | some rec =>
    if extends? r reason j.openRun rec then { j with records := extendNewest due j.records }
    else { j.append (missedRecord .schedule r.plan (some r.window) due none reason true) with
            openRun := r.number }
  | none => { j.append (missedRecord .schedule r.plan (some r.window) due none reason true) with
               openRun := r.number }

/-- Append a record to the part's journal. -/
def appendRecord (rec : FrameRecord) (s : Part) : Part :=
  { s with journal := s.journal.append rec }

/-! ### Meter readings begun (R72 to R75) -/

/-- The gate length in ticks (R72). -/
def gateTicks (g : Fin 3) : Nat :=
  match g with
  | 0 => 512
  | 1 => gateOneTicks
  | 2 => 131072

/-- Begin a reading at the start gate: the counter is set to 0 (R72, R74). -/
def beginReading (s : Part) : Part :=
  { s with meter :=
      { s.meter with
        state := .measuring ⟨s.meter.startGate, 0, s.after (gateTicks s.meter.startGate)⟩
        count := 0 } }

/-- Begin a reading where the meter is IDLE; MEASURING and STOPPED are left as they are (R74,
R75). -/
def readIfIdle (s : Part) : Part :=
  match s.meter.state with
  | .idle => beginReading s
  | .stopped | .measuring _ => s

/-! ### Holders and requests withdrawn -/

/-- KEEP_WARM leaves the set (R104). -/
def dropKeepWarm (s : Part) : Part := { s with holders := { s.holders with keepWarm := false } }

/-- The SCHEDULE slot emptied without a miss (R37, R40, R49). -/
def withdrawSchedule (s : Part) : Part := { s with arbiter := { s.arbiter with schedule := none } }

/-- The run's wake time is to be looked at afresh (R75). -/
def forgetWake (s : Part) : Part :=
  { s with run := s.run.map (fun r : Run => { r with wakeReached := false }) }

/-- The engine enters a state; where it leaves ARMED, the pending SCHEDULE request is withdrawn,
KEEP_WARM leaves (R40, R104), and next_due's wake time is taken anew once the engine is ARMED again
(R75). -/
def setEngine (e : EngineState) (s : Part) : Part :=
  if e = .armed then { s with engine := e }
  else forgetWake (dropKeepWarm (withdrawSchedule { s with engine := e }))

/-! ### Wake times and SCHEDULE requests (R75, R85) -/

/-- Whether the run is ACTIVE in an ARMED engine. -/
def Part.serves (s : Part) (r : Run) : Bool := s.engine == .armed && r.state == .active

/-- next_due's wake time is taken: an IDLE meter begins a reading (R75, R85). -/
def takeWakeTime (r : Run) (s : Part) : Part :=
  readIfIdle { s with run := some { r with wakeReached := true } }

/-- A next_due newly set, newly served, or seen by a stepped clock: its wake time counts as reached
where it is at or before now, and is taken once (R75, R85). DESIGN CHOICE (assumption 28): a wake time
already taken that lies ahead again, as after a clock step back that keeps next_due, is forgotten and
is taken again. -/
def noteNextDue (s : Part) : Part :=
  match s.run with
  | none => s
  | some r =>
    if s.serves r then
      if s.now < s.wakeTime r then { s with run := some { r with wakeReached := false } }
      else if r.wakeReached then s
      else takeWakeTime r s
    else s

/-- Whether a SCHEDULE request for next_due may be raised at all: the engine ARMED, the run ACTIVE,
no request pending, no operation granted for the due, and its late deadline not passed (R85). -/
def Part.raisable (s : Part) (r : Run) : Bool :=
  s.awake && !s.hold && s.serves r && s.arbiter.schedule.isNone && !s.dueGranted &&
  !decide (r.nextDue + eighths s.tables.general.lateLimit < s.now)

/-- The SCHEDULE slot filled for next_due, with the late_limit stored now (R84). -/
def fillSchedule (r : Run) (s : Part) : Part :=
  let q : Request :=
    { plan := r.plan, due := some r.nextDue, raisedAt := s.now, raisedElapsed := s.time.elapsed
      explicitE := none, lateLimit := s.tables.general.lateLimit }
  { s with
    run := some { r with lateLimit := s.tables.general.lateLimit }
    arbiter := { s.arbiter with schedule := some q } }

/-- The raising rule of R85: after the wake time, a request is raised once CAM_PWR is off, and at
the due in any case. A wake time that has been taken stays so where a write of wake_lead moves it ahead
of now again (the model's choice, assumption 25). -/
def raiseSchedule (s : Part) : Part :=
  match s.run with
  | none => s
  | some r =>
    if s.raisable r && r.wakeReached && (!s.camPwr || decide (r.nextDue ≤ s.now)) then
      fillSchedule r s
    else s

/-! ### The run's start and end (R36, R37, R39) -/

/-- The occurrence of a window at this moment. -/
def Part.occurrenceNow (s : Part) (w : Fin 8) : Option Occurrence :=
  occurrenceAt (s.tables.windows.get w) s.now

/-- The run's record discarded: last_base taken, RUN_ENDED raised, KEEP_WARM and the SCHEDULE
request gone, and the window marked done where the run ends by its end action (R37, R39). -/
def finishRun (s : Part) : Part :=
  match s.run with
  | none => s
  | some r =>
    let mark := match r.byEndAction, s.occurrenceNow r.window with
      | true, some o => some ⟨r.window, o.stop⟩
      | _, _ => s.doneMark
    let base := match r.eBase with
      | some e => some (r.plan, e)
      | none => s.lastBase
    raiseNotice .runEnded (some r.plan.val)
      (dropKeepWarm (withdrawSchedule { s with run := none, lastBase := base, doneMark := mark }))

/-- The run enters ENDING (R37). -/
def enterEnding (s : Part) : Part :=
  match s.run with
  | none => s
  | some r => dropKeepWarm (withdrawSchedule { s with run := some { r with state := .ending } })

/-- The selector ends the run: at once where no operation exists, otherwise through ENDING (R37). -/
def endRun (s : Part) : Part := if s.op.isSome then enterEnding s else finishRun s

/-- The largest run number (R36). -/
def lastRunNumber : Nat := 4294967295

/-- A run of window `w` starts in occurrence `o` (R36). -/
def startRun (w : Fin 8) (o : Occurrence) (s : Part) : Part :=
  let planIx := (s.tables.windows.get w).plan
  match s.planAt planIx with
  | none => s
  | some p =>
    let wraps := decide (lastRunNumber ≤ s.runCount)
    let number := if wraps then 1 else s.runCount + 1
    let r : Run :=
      { number := number, window := w, originPlan := planIx, plan := planIx, state := .active
        occStart := o.start, k := 0, remaining := p.frameLimit, ring := 0
        nextDue := firstDue o.start (eighths p.intervalStart) s.now
        eBase := none, aPrev := none, bLast := none
        lateLimit := s.tables.general.lateLimit, wakeReached := false, dueReached := false
        ringReset := false, stepCatchUp := false, byEndAction := false }
    noteNextDue (raiseNotice .runStarted (some planIx.val)
      { s with run := some r, runCount := number
               journal := if wraps then s.journal.close else s.journal })

/-! ### Window selection (R34, R35) -/

/-- Whether window `i` is active now (R34). -/
def Part.windowActive (s : Part) (i : Fin 8) : Bool :=
  let w := s.tables.windows.get i
  w.enabled && (s.planAt w.plan).isSome &&
  (match occurrenceAt w s.now with
    | some o => startDayAdmitted w o.day
    | none => false) &&
  gateSatisfied w (s.gates.get i) && levelAdmits s.battery.level w

/-- The selected window: the lowest-numbered active one (R34). -/
def Part.selectedWindow (s : Part) : Option (Fin 8) :=
  ([0, 1, 2, 3, 4, 5, 6, 7] : List (Fin 8)).find? s.windowActive

/-- The done mark after a re-evaluation that selects `sel`: removed where another window or none is
selected, or where the mark's end has been reached: the end of the marked occurrence, or the next
midnight of a whole-day window (R39). -/
def markAfter (sel : Option (Fin 8)) (now : Nat) : Option DoneMark → Option DoneMark
  | none => none
  | some m => if sel = some m.window ∧ now < m.stop then some m else none

/-- With no run, a run of the selected window starts unless that window is marked done (R35). -/
def startSelected (sel : Option (Fin 8)) (s : Part) : Part :=
  match sel with
  | none => s
  | some w =>
    if s.doneMark.any (fun m => m.window == w) then s
    else match s.occurrenceNow w with
      | some o => startRun w o s
      | none => s

/-- The window selector re-evaluates (R35). -/
def reEvaluate (s : Part) : Part :=
  let sel := s.selectedWindow
  let s := { s with doneMark := markAfter sel s.now s.doneMark }
  if s.engine = .disarmed then s
  else match s.run with
    | none => startSelected sel s
    | some r =>
      if r.state = .ending then s
      else if sel = some r.window ∧ (s.tables.windows.get r.window).plan = r.originPlan then s
      else
        let s := endRun s
        if s.run.isNone then startSelected sel s else s

/-! ### Due consumption (R44 to R49) -/

/-- How a due is consumed: by its operation, with the feedback that its newest TAKEN frame gives, or
missed for a reason (R44). -/
inductive Consumption where
  | byOperation (feedback : Option (Int × Int))
  | missed (reason : MissReason)
deriving DecidableEq, Repr

/-- The ring index after a consumption (R27, R50). -/
def ringAfter (p : Plan) (r : Run) : Nat :=
  if r.ringReset then 0
  else match p.bracketMode with
    | .rotate => if r.ring + 1 < p.brackets.length then r.ring + 1 else 0
    | .single | .burst => 0

/-- The largest k (R44). -/
def lastK : Nat := 4294967295

/-- A run ends by its end action: at once, unless an EXTERNAL or MANUAL operation is in flight
(R44). -/
def finishByAction (s : Part) : Part :=
  let s := { s with run := s.run.map (fun r : Run => { r with byEndAction := true }) }
  match s.op with
  | some o => if o.source = .schedule then finishRun s else enterEnding s
  | none => finishRun s

/-- The run continues under the chained plan from the consumed due (R46). -/
def chainRun (target : Fin 16) (p : Plan) (due : Nat) (r : Run) (factor : Nat) : Run :=
  { r with
    plan := target, k := 0, remaining := p.frameLimit, ring := 0
    nextDue := due + eighths (stretched p.intervalStart factor) }

/-- The end action of a countdown that has reached 0 (R44 step 6, R46). An ENDING run raises
PLAN_DONE where R37 calls for it and takes no other action. -/
def endAction (p : Plan) (due : Nat) (r : Run) (s : Part) : Part :=
  let target := match p.endAction, p.chainTarget with
    | .chain, some t | .chainNotify, some t => (s.planAt t).map (fun q => (t, q))
    | _, _ => none
  let here := { s with run := some r }
  match r.state with
  | .ending =>
    match p.endAction, target with
    | .stopSilent, _ | .chain, some _ => here
    | .stopNotify, _ | .chainNotify, _ | .chain, none =>
      raiseNotice .planDone (some r.plan.val) here
  | .active =>
    match p.endAction, target with
    | .stopSilent, _ => finishByAction here
    | .chain, some (t, q) => { s with run := some (chainRun t q due r s.factor) }
    | .chainNotify, some (t, q) =>
      raiseNotice .planDone (some r.plan.val)
        { s with run := some (chainRun t q due r s.factor) }
    | .stopNotify, _ | .chain, none | .chainNotify, none =>
      raiseNotice .planDone (some r.plan.val) (finishByAction here)

/-- Steps 2 to 6 of R44: feedback, interval, ring, count, countdown. With the plan EMPTY no next_due
is computed (R28). -/
def stepDue (feedback : Option (Int × Int)) (s : Part) : Part :=
  match s.run with
  | none => s
  | some r =>
    match s.planAt r.plan with
    | none => { s with run := some { r with bLast := feedback } }
    | some p =>
      let left := if p.frameLimit = 0 then r.remaining else r.remaining - 1
      let r' : Run :=
        { r with
          bLast := feedback
          nextDue := r.nextDue + eighths (s.effectiveInterval p r.k)
          ring := ringAfter p r, ringReset := false
          k := if r.k < lastK then r.k + 1 else lastK
          remaining := left
          lateLimit := s.tables.general.lateLimit, wakeReached := false, dueReached := false }
      if p.frameLimit ≠ 0 ∧ left = 0 then endAction p r.nextDue r' s
      else { s with run := some r' }

/-- One full consumption of the run's next_due (R44). A miss writes its record, withdraws a pending
SCHEDULE request as that miss, and ends KEEP_WARM (R48, R88, R104). -/
def consumeDue (c : Consumption) (s : Part) : Part :=
  match s.run with
  | none => s
  | some r =>
    match c with
    | .byOperation feedback => stepDue feedback s
    | .missed reason =>
      stepDue none
        (dropKeepWarm (withdrawSchedule
          { s with journal := s.journal.miss r r.nextDue reason }))

/-- The reason of a miss at its late limit: the first row of R47's table that holds. -/
def Part.missReason (s : Part) : MissReason :=
  if s.engine = .paused then .paused
  else if s.engine = .suspended then .cameraFault
  else if s.health.isRecovering then .recovering
  else if s.lending.port = .lent ∨ s.lending.port = .reclaiming then .lent
  else .busy

/-- Whether next_due's late limit has passed with no operation granted for it (R47). -/
def Part.latePassed (s : Part) : Bool :=
  match s.run with
  | some r => r.state == .active && !s.dueGranted && decide (r.lateInstant ≤ s.now)
  | none => false

/-- Whether next_due is at or before now with no operation granted for it (R49). -/
def Part.duePassed (s : Part) : Bool :=
  match s.run with
  | some r => r.state == .active && !s.dueGranted && decide (r.nextDue ≤ s.now)
  | none => false

/-- A number of consumptions that suffices to carry next_due past now: every interval is at least
8 eighths (R15, R17), which is one second. -/
def Part.dueFuel (s : Part) : Nat :=
  match s.run with
  | some r => (s.now - r.nextDue) / Config.ticksPerSecond + 2
  | none => 0

/-- After a consumption: next_due's wake time is looked at, and each due whose late limit has passed
is missed at once (R44, R47). -/
def missPassed : Nat → Part → Part
  | 0, s => s
  | n + 1, s =>
    let s := noteNextDue s
    if s.latePassed then missPassed n (consumeDue (.missed s.missReason) s) else s

/-- The end of a consumption (R44). -/
def afterConsumption (s : Part) : Part := missPassed s.dueFuel s

/-- The dues at or before now consumed as missed for one reason (R49). -/
def consumePassed (reason : MissReason) : Nat → Part → Part
  | 0, s => s
  | n + 1, s =>
    if s.duePassed then consumePassed reason n (consumeDue (.missed reason) s) else s

/-- A catch-up (R49): a pending SCHEDULE request is withdrawn, then the passed dues are consumed. -/
def catchUp (reason : MissReason) (s : Part) : Part :=
  consumePassed reason s.dueFuel (withdrawSchedule s)

end Sys2Proof.Machine
end

