-- ==== Sys2Proof/Machine/Capture.lean ====
section
/-! DEFINITION. The capture engine and the arbiter (chapter 6): the computation of a due or an
operation, the phases of a frame, the end of a frame and of an operation, and the grant. -/

namespace Sys2Proof.Machine

/-! ### Computations (R54, R55, R66) -/

/-- A_now: the A of the latest completed reading (R60, R79). -/
def Part.aNow (s : Part) : Option Int := s.meter.latest.map (·.a)

/-- Whether a level at a grant cuts a BURST to entry 0 (R51). -/
def Level.reducesBurst : Level → Bool
  | .thrift | .scarce => true
  | .normal | .critical => false

/-- The fit of an operation with `n` frames under an interval in eighths (R57, R58). -/
def Operation.fit (o : Operation) (interval n : Nat) : Fit :=
  fitOf (fitBudget interval o.profile.reserve o.profile.burstSpacing n) o.profile.effective

/-- The due's computation (R54): fit, base update, and the setting of every frame; E_base and A_prev
go into the run record at once (R65). -/
def computeDue (o : Operation) (r : Run) (p : Plan) (s : Part) : Part :=
  let reduced := p.bracketMode == .burst && o.level.reducesBurst
  let offsets := frameOffsets p r.ring reduced
  let f := o.fit (s.effectiveInterval p r.k) offsets.length
  let e := o.profile.effective
  let u := baseUpdate p o.profile.targetB (exposureMin e) (exposureMax e f) r.eBase r.aPrev s.aNow
    r.bLast s.lastBase
  let c : Computation :=
    { eBase := u.eBase, aNow := s.aNow, cAmb := p.cAmb, tight := f.tight
      rateLimited := u.rateLimited, high := u.high, low := u.low, feedbackUsed := u.feedbackUsed
      frames := offsets.map (frameSetting o.profile f u.eBase) }
  { s with
    run := some { r with eBase := some u.eBase, aPrev := u.aPrev }
    op := some { o with comp := some c, reduced := reduced } }

/-- I_fit of an EXTERNAL or MANUAL operation under its plan (R56). Where the run's plan is the named one
and its slot has been made EMPTY since the grant, the run has no I_k, and the plan held since the grant
gives the interval (assumption 16). -/
def Part.heldInterval (s : Part) (planIx : Fin 16) (p : Plan) : Nat :=
  match s.run with
  | some r =>
    if r.plan = planIx then
      match s.planAt r.plan with
      | some q => s.effectiveInterval q r.k
      | none => stretched p.intervalStart s.factor
    else stretched p.intervalStart s.factor
  | none => stretched p.intervalStart s.factor

/-- E_op before its clamp: the first case of R66 that applies. -/
def Part.operationBase (s : Part) (q : Request) (p : Plan) : Int :=
  let byRule := startValue p s.aNow s.lastBase
  match q.explicitE with
  | some e => e
  | none => match s.run with
    | some r => if r.plan = q.plan then r.eBase.getD byRule else byRule
    | none => byRule

/-- The computation of an EXTERNAL or MANUAL operation (R55, R66). It changes no run state. -/
def computeOperation (o : Operation) (p : Plan) (s : Part) : Part :=
  let offsets := frameOffsets p 0 o.reduced
  let f := o.fit (s.heldInterval o.request.plan p) offsets.length
  let e := o.profile.effective
  let h := holdWithin (exposureMin e) (exposureMax e f) (s.operationBase o.request p)
  let c : Computation :=
    { eBase := h.value, aNow := s.aNow, cAmb := p.cAmb, tight := f.tight, rateLimited := false
      high := h.high, low := h.low, feedbackUsed := false
      frames := offsets.map (frameSetting o.profile f h.value) }
  { s with op := some { o with comp := some c } }

/-- The setting of the operation's present frame. -/
def Operation.frame (o : Operation) : Option FrameSetting := o.comp.bind (·.frames[o.index]?)

/-! ### The phases of a frame (R91 to R96) -/

/-- FOCUS and SHUTTER made inactive (R95). -/
def releaseLines (s : Part) : Part :=
  { s with camera := { s.camera with focus := false, shutter := false } }

/-- EXPOSING is entered: both lines active out of rehearsal, and the entry is the frame's start time
(R95, R121). From here CAM_ACT is noted (R96). -/
def enterExposing (o : Operation) (s : Part) : Part :=
  let hold := (o.frame.map (·.hold)).getD o.profile.shutterPulse
  { s with
    op := some { o with phase := .exposing (s.after hold), startAt := some s.now
                        camActSeen := s.pins.camAct }
    camera := { s.camera with focus := !o.rehearsal, shutter := !o.rehearsal } }

/-- FOCUSING is entered where prefocus is above 0, and EXPOSING otherwise (R91, R95). -/
def enterFocusing (o : Operation) (s : Part) : Part :=
  if o.profile.prefocus = 0 then enterExposing o s
  else
    { s with
      op := some { o with phase := .focusing (s.after o.profile.prefocus) }
      camera := { s.camera with focus := !o.rehearsal } }

/-- The ticks until the last byte of a SET has been sent: nine bytes of ten bits at 19,200 baud,
153.6 ticks, first reached at tick 154 (R108, assumption 3). -/
def setTicks : Nat := 154

/-- SETTING is entered: a new tag, and SET is sent (R94, R108). -/
def enterSetting (o : Operation) (s : Part) : Part :=
  let tag := s.camera.lastTag + 1
  let msg : SetMessage :=
    match o.frame with
    | some f => ⟨tag, f.bulb, f.s, f.g⟩
    | none => ⟨tag, false, 0, 0⟩
  { s with
    op := some { o with phase := .setting none, tag := some tag, acked := false }
    camera := { s.camera with lastTag := tag, tx := some msg, txEnds := s.after setTicks } }

/-- A frame begins at SETTING or the first present phase after it (R91). In rehearsal SETTING ends
on entry and takes no tag (R121, R122). -/
def beginFrame (s : Part) : Part :=
  match s.op with
  | none => s
  | some o =>
    let o := { o with tag := none, acked := false, heldB := none, startAt := none
                      camActSeen := false }
    if o.profile.lineMode = .settings ∧ o.rehearsal = false then enterSetting o s
    else enterFocusing o s

/-- WAITING ends at the due: the due's computation is made and the first frame begins (R93). -/
def endWaiting (s : Part) : Part :=
  match s.op, s.run with
  | some o, some r =>
    match o.phase, s.planAt r.plan with
    | .waiting, some p => beginFrame (computeDue o r p s)
    | _, _ => s
  | _, _ => s

/-- WAITING is entered, and ends on entry where the due is at or before now (R93). -/
def enterWaiting (o : Operation) (s : Part) : Part :=
  let s := { s with op := some { o with phase := .waiting } }
  match s.run with
  | some r => if r.nextDue ≤ s.now then endWaiting s else s
  | none => s

/-- The operation passes on from WAKING: to WAITING, or to its computation and first frame (R91,
R55). -/
def leaveWaking (o : Operation) (s : Part) : Part :=
  match o.source, o.plan? with
  | .schedule, _ => enterWaiting o s
  | .external, some p | .manual, some p => beginFrame (computeOperation o p s)
  | .external, none | .manual, none => s

/-- WAKING ends, where the operation stands in it (R92). -/
def endWaking (s : Part) : Part :=
  match s.op with
  | some o => match o.phase with
    | .waking _ => leaveWaking o s
    | _ => s
  | none => s

/-! ### The end of a frame (R100, R112) -/

/-- Whether a failure cause counts toward camera health (R98). -/
def FailCause.counted : FailCause → Bool
  | .noReady | .nak _ | .noAck | .restart | .noActivity | .writeTimeout => true
  | .aborted | .power => false

/-- The flags of a TAKEN or FAILED record (R71, R169). -/
def Operation.recordFlags (o : Operation) : RecordFlags :=
  match o.comp, o.frame with
  | some c, some f =>
    { tight := c.tight, rateLimited := c.rateLimited, high := c.high || f.high
      low := c.low || f.low, reduced := o.reduced, rehearsal := o.rehearsal
      feedbackUsed := c.feedbackUsed, isOpen := false }
  | _, _ => { RecordFlags.clear with reduced := o.reduced, rehearsal := o.rehearsal }

/-- The exposure fields of a record: present once the computation has been made (R70). -/
def Operation.exposureFields (o : Operation) : Option ExposureFields :=
  match o.comp, o.frame with
  | some c, some f =>
    some { s := f.s, g := f.g, offset := f.offset, eBase := c.eBase
           hold := if f.bulb then f.hold else 0 }
  | _, _ => none

/-- The record of the operation's present frame (R100, R168). -/
def Operation.record (o : Operation) (outcome : FrameOutcome) (b : Option Int)
    (cause : Option FailCause) (now merged : Nat) : FrameRecord :=
  { number := 0, outcome := outcome, source := o.source, plan := o.request.plan
    window := o.window, due := o.request.due.getD o.request.raisedAt
    startAt := some (o.startAt.getD now), exposure := o.exposureFields, flags := o.recordFlags
    b := b, a := o.comp.bind (·.aNow), level := some o.level, volts := o.volts
    merged := if o.source = .external then some merged else none
    cause := cause, reason := none, missCount := 0, lastDue := none }

/-- The present frame's record appended; an EXTERNAL record takes the merged count, which returns to
0 (R86, R100). -/
def recordFrame (o : Operation) (outcome : FrameOutcome) (b : Option Int)
    (cause : Option FailCause) (s : Part) : Part :=
  let number := s.journal.numberFor
  let s := appendRecord (o.record outcome b cause s.now s.arbiter.merged) s
  let merged := if o.source = .external then 0 else s.arbiter.merged
  { s with
    op := some { o with lastRecord := some number }
    arbiter := { s.arbiter with merged := merged } }

/-- The consecutive failure count after a counted failure (R112). -/
def countFailure (count limit : Nat) : Nat := min (count + 1) limit

/-! ### The end of an operation (R101) -/

/-- Step 1: the due is consumed as TAKEN or FAILED; a catch-up that R12 deferred follows, and then
the end of the consumption (R44). -/
def consumeByOperation (o : Operation) (s : Part) : Part :=
  let feedback := match o.newest with
    | some (some b, offset) => some (b, offset)
    | _ => none
  let deferred := s.run.any (·.stepCatchUp)
  let s := consumeDue (.byOperation feedback) { s with op := some { o with settled := true } }
  let s := { s with run := s.run.map (fun r : Run => { r with stepCatchUp := false }) }
  afterConsumption (if deferred then catchUp .clockStep s else s)

/-- The recovery values and the first attempt of a recovery begun by an operation (R113, R114). -/
def recoveryOf (o : Operation) (s : Part) : Recovery :=
  { attempt := 1, phase := .off (s.after (eighths o.profile.recoveryOff))
    off := o.profile.recoveryOff, attempts := o.profile.recoveryAttempts
    wakeMode := o.profile.wakeMode, wakeLead := o.profile.wakeLead
    readyTimeout := o.profile.readyTimeout, plan := o.request.plan }

/-- Step 2: health becomes RECOVERING where the count has reached the operation's fault_limit on a
counted failure (R113). -/
def judgeHealth (o : Operation) (s : Part) : Part :=
  if o.lastCounted ∧ s.failCount = o.profile.faultLimit then
    { s with health := .recovering (recoveryOf o s) }
  else s

/-- Whether the camera is kept warm for the run's next_due (R104). -/
def Part.keepsWarm (s : Part) (prof : Profile) : Bool :=
  s.battery.level == .normal && s.health.isHealthy &&
  match s.run with
  | some r => s.serves r &&
      decide (r.nextDue ≤ s.now + eighths prof.wakeLead + eighths prof.keepWarmLimit)
  | none => false

/-- Step 3: the keep-warm decision, and OPERATION leaves (R104, R105). -/
def decidePower (o : Operation) (s : Part) : Part :=
  let warm := s.keepsWarm o.profile
  { s with holders :=
      { s.holders with keepWarm := s.holders.keepWarm || warm, operation := false } }

/-- Step 4: a MANUAL operation raises SHOOT_DONE (R101). -/
def announceShoot (o : Operation) (s : Part) : Part :=
  if o.source = .manual then raiseNotice .shootDone o.lastRecord s else s

/-- Step 5: the operation ceases to exist, lend_allowed is set, and a run in ENDING ends, which causes
a re-evaluation (R101, R37); in an outage or a reset that re-evaluation comes later (R37, R164). -/
def releaseOperation (s : Part) : Part :=
  let s := { s with op := none, lending := { s.lending with allowed := true } }
  match s.run with
  | some r =>
    if r.state = .ending then
      let s := finishRun s
      if s.awake && !s.hold then reEvaluate s else s
    else s
  | none => s

/-- The end of an operation, its five steps in order (R101). -/
def endOperation (s : Part) : Part :=
  match s.op with
  | none => s
  | some o =>
    let s := if o.source = .schedule then consumeByOperation o s else s
    releaseOperation (announceShoot o (decidePower o (judgeHealth o s)))

/-- The present frame ends FAILED: its record, the failure count, and the end of the operation
(R98, R100, R112). -/
def failFrame (cause : FailCause) (s : Part) : Part :=
  match s.op with
  | none => s
  | some o =>
    let counts := cause.counted && !o.rehearsal
    let o := { o with lastCounted := counts }
    let s := recordFrame o .failed none (some cause) (releaseLines s)
    endOperation
      { s with failCount :=
          if counts then countFailure s.failCount o.profile.faultLimit else s.failCount }

/-- The present frame ends TAKEN with brightness `b`: its record, the failure count, and then the
burst spacing or the end of the operation (R99, R100, R112). -/
def takeFrame (b : Option Int) (s : Part) : Part :=
  match s.op with
  | none => s
  | some o =>
    let offset := (o.frame.map (·.offset)).getD 0
    let frames := (o.comp.map (·.frames.length)).getD 0
    let o := { o with newest := some (b, offset), lastCounted := false }
    let s := recordFrame o .taken b none (releaseLines s)
    let s := { s with failCount := if o.rehearsal then s.failCount else 0 }
    if o.index + 1 < frames then
      { s with op := s.op.map (fun q : Operation =>
          { q with index := o.index + 1
                   phase := .spacing (s.after (eighths o.profile.burstSpacing))
                   tag := none, acked := false, heldB := none, startAt := none }) }
    else endOperation s

/-- The operation in flight is ended from outside its own course: the frame in progress ends FAILED
with the cause, and in burst spacing no frame is in progress (R102, R106, R157). -/
def cutOperation (cause : FailCause) (s : Part) : Part :=
  match s.op with
  | none => s
  | some o => match o.phase with
    | .spacing _ => endOperation s
    | _ => failFrame cause s

/-! ### WRITING (R96, R97, R102, R122) -/

/-- The write is complete (R96, R97): an aborted frame is recorded FAILED ABORTED (R102); a frame
that awaits no report, or whose report is held, ends TAKEN; otherwise the report wait starts. -/
def completeWrite (o : Operation) (s : Part) : Part :=
  if o.aborting then failFrame .aborted s
  else match o.profile.report, o.heldB with
    | .noReport, _ => takeFrame none s
    | .report, some b => takeFrame (some b) s
    | .report, none =>
      { s with op := some { o with
          phase := .writing (.report (s.after (eighths o.profile.reportWait))) } }

/-- WRITING is entered from EXPOSING, with both lines released (R95, R96, R122). -/
def enterWriting (o : Operation) (s : Part) : Part :=
  let s := releaseLines s
  let wait (w : WriteWait) : Part := { s with op := some { o with phase := .writing w } }
  if o.rehearsal then wait (.rehearsal (s.after (eighths 8)))
  else if s.pins.camAct then wait (.write (s.after (eighths o.profile.writeTimeout)))
  else if o.camActSeen then completeWrite o { s with op := some o }
  else wait (.activity (s.after o.profile.activityTimeout))

/-! ### The grant (R89, R90) -/

/-- The pending request of a source. -/
def Arbiter.slot (a : Arbiter) : Source → Option Request
  | .schedule => a.schedule
  | .external => a.external
  | .manual => a.manual

/-- The slot of a source emptied. -/
def Arbiter.clear (a : Arbiter) : Source → Arbiter
  | .schedule => { a with schedule := none }
  | .external => { a with external := none }
  | .manual => { a with manual := none }

/-- The level of a source in the general settings (R90). -/
def General.levelOf (g : General) : Source → Nat
  | .schedule => g.levelSchedule
  | .external => g.levelExternal
  | .manual => g.levelManual

/-- Whether a source's pending request may be granted with the port as it is: OWNED, or YIELDING and
SCHEDULE (R89). -/
def Part.portAdmits (s : Part) (src : Source) : Bool :=
  match s.lending.port with
  | .owned => true
  | .yielding => src == .schedule
  | .lent | .reclaiming => false

/-- The better of a candidate and a further source: the further one only at a higher level (R90). -/
def Part.pick (s : Part) (best : Option Source) (src : Source) : Option Source :=
  if (s.arbiter.slot src).isSome && s.portAdmits src then
    match best with
    | none => some src
    | some b =>
      if s.tables.general.levelOf b < s.tables.general.levelOf src then some src else some b
  else best

/-- The source that a grant takes now: highest level, then SCHEDULE, EXTERNAL, MANUAL (R90). -/
def Part.candidate (s : Part) : Option Source :=
  s.pick (s.pick (s.pick none .schedule) .external) .manual

/-- Whether a grant can be made at all (R89), outside an outage and a reset (R157, R164). -/
def Part.mayGrant (s : Part) : Bool :=
  s.op.isNone && s.health.isHealthy && s.battery.level != .critical && s.awake && !s.hold

/-- The operation formed by a grant, in WAKING with the deadline that its wake_mode gives (R90, R92,
R122). -/
def Part.formOperation (s : Part) (src : Source) (q : Request) : Operation :=
  let plan? := s.planAt q.plan
  let prof := s.profileOfPlan q.plan
  let timed := s.rehearsal || prof.wakeMode == .fixedTime
  let level := s.battery.level
  let burst := plan?.any (fun p => p.bracketMode == .burst)
  { source := src, request := q
    window := if src = .schedule then s.run.map (·.window) else none
    profile := prof, plan? := if src = .schedule then none else plan?
    level := level, volts := s.battery.latest.map (·.volts), rehearsal := s.rehearsal
    reduced := src != .schedule && burst && level.reducesBurst
    comp := none, index := 0
    phase := .waking (s.after (eighths (if timed then prof.wakeLead else prof.readyTimeout)))
    startAt := none, tag := none, acked := false, heldB := none, camActSeen := false
    aborting := false, newest := none, lastRecord := none, lastCounted := false, settled := false
    askReading := false }

/-- The holder set at a grant: OPERATION joins, then KEEP_WARM leaves, and LEND leaves where a
granted lend's wake period is abandoned (R90, R129). -/
def Part.holdersAtGrant (s : Part) : Holders :=
  { s.holders with
    operation := true, keepWarm := false
    lend := s.holders.lend && s.lending.wake.isNone }

/-- The grant of a source's pending request (R90). With CAM_PWR off the operation enters WAKING and
asks for a loaded reading, except in rehearsal and in RIDING (R92, R121, R142); with CAM_PWR on it
passes on at once. -/
def grant (src : Source) (s : Part) : Part :=
  match s.arbiter.slot src with
  | none => s
  | some q =>
    let wasOn := s.camPwr
    let o := s.formOperation src q
    let slots := s.arbiter.clear src
    let arb := if src = .external then { slots with lastExternal := some s.time.elapsed } else slots
    let s' := { s with
      arbiter := arb
      holders := s.holdersAtGrant
      lending := { s.lending with wake := none } }
    if wasOn then leaveWaking o { s' with op := some o }
    else
      { s' with op := some { o with
          askReading := !s.rehearsal && s.monitor.state == .supplied } }

/-- The arbiter tests its condition, and grants the request that qualifies (R89). -/
def arbiterTest (s : Part) : Part :=
  if s.mayGrant then
    match s.candidate with
    | some src => grant src s
    | none => s
  else s

end Sys2Proof.Machine
end

