-- ==== Sys2Proof/Machine/Lending.lean ====
section
/-! DEFINITION. Port lending (chapter 8): the grant condition, the wake period, the reclaim moment,
the end of a lend and the handover of camera power. -/

namespace Sys2Proof.Machine

/-- One minute in ticks. -/
def minuteTicks : Nat := 60 * Config.ticksPerSecond

/-- The codes of a CAMERA_TAKEN detail (section 12.4). -/
inductive TakenReason where
  | due
  | limit
  | critical
  | power
deriving DecidableEq, Repr

/-- The code of a CAMERA_TAKEN reason (section 12.4). -/
def TakenReason.code : TakenReason → Nat
  | .due => 1
  | .limit => 2
  | .critical => 3
  | .power => 4

/-- The profile whose wake_lead a lend takes at its grant (R29, R128). -/
def Part.lendProfile (s : Part) : Profile :=
  match s.run with
  | some r => s.profileOfPlan r.plan
  | none => s.tables.profiles.get 0

/-- Term 6 of R126: no run, or its next due far enough ahead. -/
def Part.dueFarEnough (s : Part) : Bool :=
  match s.run with
  | some r =>
    decide (s.now + eighths (s.tables.general.lendMin + s.tables.general.reclaimLead) +
      s.wakeLead r ≤ r.nextDue)
  | none => true

/-- The grant condition of a YIELDING port whose lend is not in its wake period (R126), outside an
outage and a reset (R157, R164). -/
def Part.lendable (s : Part) : Bool :=
  s.lending.port == .yielding && s.lending.wake.isNone && s.op.isNone &&
  s.arbiter.schedule.isNone && s.lending.allowed && s.battery.level != .critical &&
  !s.health.isRecovering && s.dueFarEnough && s.awake && !s.hold

/-- Whether the reclaim moment is to be taken now: the port LENT, the run ACTIVE in an ARMED engine,
and the moment at or before now (R130). -/
def Part.reclaimable (s : Part) : Bool :=
  match s.run with
  | some r => s.lending.port == .lent && s.awake && s.serves r && decide (s.reclaimMoment r ≤ s.now)
  | none => false

/-- The reclaim: the port becomes RECLAIMING and CAMERA_WANTED is raised (R130). -/
def reclaim (s : Part) : Part :=
  raiseNotice .cameraWanted (s.run.map (·.plan.val))
    { s with lending := { s.lending with port := .reclaiming } }

/-- The reclaim moment is evaluated, and taken where it has been reached (R130). -/
def reclaimTest (s : Part) : Part := if s.reclaimable then reclaim s else s

/-- The end of the lend's wake period, its five steps in order (R128). -/
def becomeLent (s : Part) : Part :=
  let s := { s with lending := { s.lending with port := .lent, busHost := true, wake := none } }
  let s := raiseNotice .cameraLent (s.run.map (·.plan.val)) s
  reclaimTest
    { s with lending :=
        { s.lending with timer := some (s.after (s.tables.general.lendLimit * minuteTicks)) } }

/-- The grant of a lend (R128): LEND joins, and the wake period runs unless CAM_PWR was on or its
wake_lead is 0. -/
def lendGrant (s : Part) : Part :=
  let wasOn := s.camPwr
  let lead := eighths s.lendProfile.wakeLead
  let s := { s with holders := { s.holders with lend := true } }
  if wasOn || lead == 0 then becomeLent s
  else { s with lending := { s.lending with wake := some (s.after lead) } }

/-- Port lending tests its grant condition (R126). -/
def lendTest (s : Part) : Part := if s.lendable then lendGrant s else s

/-- Step 1 of the handover: next_due's request is raised where its wake time has been reached (R134), by
the wake_lead stored now, also where an older and longer one had brought the wake time before now
already (the model's choice, assumption 25). -/
def raiseAtHandover (s : Part) : Part :=
  match s.run with
  | some r => if s.raisable r && decide (s.wakeTime r ≤ s.now) then fillSchedule r s else s
  | none => s

/-- LEND leaves the holder set. -/
def dropLend (s : Part) : Part := { s with holders := { s.holders with lend := false } }

/-- The handover of camera power: request, grant, release (R134). -/
def handover (s : Part) : Part := dropLend (arbiterTest (raiseAtHandover s))

/-- The port becomes OWNED with the bus switch on the part side, no lend timer and no wake period;
`allowed` is what lend_allowed becomes. -/
def ownPort (allowed : Bool) (s : Part) : Part :=
  { s with lending := { s.lending with
      port := .owned, busHost := false, wake := none, timer := none, allowed := allowed } }

/-- CAMERA_TAKEN with its reason as detail. -/
def raiseTaken (reason : TakenReason) (s : Part) : Part :=
  raiseNotice .cameraTaken (some reason.code) s

/-- The part takes the port back from the host: by the due, by the lend timer or at CRITICAL entry
(R131, R135, R136). -/
def takeBack (reason : TakenReason) (s : Part) : Part :=
  handover (raiseTaken reason (ownPort false s))

/-- Port lending at CRITICAL entry, with LEND and KEEP_WARM removed first (R136, R149, R150). -/
def criticalEntry (s : Part) : Part :=
  let s := dropLend (dropKeepWarm s)
  match s.lending.port with
  | .owned => s
  | .yielding => raiseTaken .critical (ownPort s.lending.allowed s)
  | .lent | .reclaiming => takeBack .critical s

/-- Under HOST_FIRST a due reached while RECLAIMING is missed as LENT, and the port returns to LENT
(R132). -/
def hostKeeps (s : Part) : Part :=
  let s := consumeDue (.missed .lent) s
  afterConsumption { s with lending := { s.lending with port := .lent } }

/-- A due reached while the port is RECLAIMING is settled by the lend policy (R131, R132). -/
def settleReclaim (s : Part) : Part :=
  match s.tables.general.lendPolicy with
  | .partFirst => takeBack .due s
  | .hostFirst => hostKeeps s

end Sys2Proof.Machine
end

