-- ==== Sys2Proof/Machine/Battery.lean ====
section
/-! DEFINITION. The battery supervisor (chapter 9): effective voltage, indicated level, the streaks,
the change of level, and the two kinds of reading. -/

namespace Sys2Proof.Machine

/-- The place of a level in the order from better to worse, which is also its code (R143, R183). -/
def Level.rank : Level → Nat
  | .normal => 0
  | .thrift => 1
  | .scarce => 2
  | .critical => 3

/-- The level one better (R145). -/
def Level.better : Level → Level
  | .normal | .thrift => .normal
  | .scarce => .thrift
  | .critical => .scarce

/-- V_eff of a reading (R143). -/
def effectiveMv (g : Supply) (kind : ReadingKind) (v : Nat) (t : Int) : Nat :=
  v + (if kind = .loaded then g.sagAllowance else 0) + g.coldSlope * (-t).toNat

/-- The level that a V_eff indicates (R143). -/
def indicatedLevel (g : Supply) (v : Nat) : Level :=
  if v < g.thrCritical then .critical
  else if v < g.thrScarce then .scarce
  else if v < g.thrThrift then .thrift
  else .normal

/-- Whether a V_eff is at or above the recovery threshold of a level below NORMAL (R145). -/
def clearsRecovery (g : Supply) (l : Level) (v : Nat) : Bool :=
  match l with
  | .normal => false
  | .thrift => decide (g.thrThrift + g.hysteresis ≤ v)
  | .scarce => decide (g.thrScarce + g.hysteresis ≤ v)
  | .critical => decide (g.thrCritical + g.hysteresis ≤ v)

/-- What one reading makes of the level machine: both streaks, and the level it confirms. -/
structure Judgement where
  worse : Nat
  better : Nat
  confirmed : Option Level
deriving DecidableEq, Repr

/-- One reading judged against both streaks of the level that stands (R144 to R146). -/
def judge (g : Supply) (l : Level) (worse better : Nat) (r : BatteryReading) : Judgement :=
  if l.rank < r.indicated.rank then
    if g.confirm ≤ worse + 1 then ⟨0, 0, some r.indicated⟩ else ⟨worse + 1, 0, none⟩
  else if clearsRecovery g l r.effective then
    if g.confirm ≤ better + 1 then ⟨0, 0, some l.better⟩ else ⟨0, better + 1, none⟩
  else ⟨0, 0, none⟩

/-- The sense inputs sampled as a reading of a kind (R140). -/
def Part.sample (s : Part) (kind : ReadingKind) : BatteryReading :=
  let v := clampNat 0 20000 s.pins.packMv
  let t := clampInt (-40) 85 s.pins.celsius
  let e := effectiveMv s.tables.supply kind v t
  ⟨v, t, kind, e, indicatedLevel s.tables.supply e⟩

/-- The holders that a new level excludes leave, and port lending acts on CRITICAL entry; a request
that the loss of power calls for is raised then (R147 step 4, R149, R85). A level that leaves CRITICAL
excludes no holder, and the arbiter waits for the selector. -/
def excludeHolders (old new : Level) (s : Part) : Part :=
  let s := if old = .normal ∧ new ≠ .normal then dropKeepWarm s else s
  let s := if new = .critical then criticalEntry s else s
  if old = .critical then s else arbiterTest (raiseSchedule s)

/-- The power level changes, its steps in order (R147): where it has left CRITICAL, the selector has
started its run and the SCHEDULE request of that run stands (R36) before the arbiter tests. -/
def changeLevel (new : Level) (s : Part) : Part :=
  let old := s.battery.level
  let s := { s with battery := { s.battery with level := new, worse := 0, better := 0 } }
  let s := reEvaluate (excludeHolders old new (raiseNotice .levelChanged (some new.rank) s))
  if old = .critical then lendTest (arbiterTest (raiseSchedule s)) else s

/-- A reading replaces the latest one and is judged (R140, R146). -/
def judgeReading (r : BatteryReading) (s : Part) : Part :=
  let j := judge s.tables.supply s.battery.level s.battery.worse s.battery.better r
  let s := { s with battery := { s.battery with
    latest := some r, worse := j.worse, better := j.better } }
  match j.confirmed with
  | some l => changeLevel l s
  | none => s

/-- A PERIODIC reading (R141). -/
def takePeriodic (s : Part) : Part := judgeReading (s.sample .periodic) s

/-- A periodic reading that is due at moment `d`: taken when SUPPLIED and deferred when RIDING, with
the next deadline one check_period after `d` (R141). -/
def periodicDue (d : Elapsed) (s : Part) : Part :=
  let next := d + BitVec.ofNat 48 (eighths s.tables.supply.checkPeriod)
  let s := { s with battery := { s.battery with lastDue := d, deadline := some next } }
  if s.monitor.state = .riding then { s with battery := { s.battery with deferred := true } }
  else takePeriodic s

/-- The LOADED reading that the operation asked for at its entry to WAKING, whose V its frame records
carry (R92, R100, R142). -/
def takeLoaded (s : Part) : Part :=
  match s.op with
  | some o =>
    if o.askReading then
      let r := s.sample .loaded
      judgeReading r { s with op := some { o with askReading := false, volts := some r.volts } }
    else s
  | none => s

end Sys2Proof.Machine
end

