-- ==== Sys2Proof/Machine/Settle.lean ====
section
/-! DEFINITION. The end of every step that changes the part: the raising rule, the arbiter, the
loaded reading of a new WAKING, and port lending look at the state the step has left. -/

namespace Sys2Proof.Machine

/-- Whether WAKING is timed by wake_lead: under FIXED_TIME, or in rehearsal (R92, R122). -/
def Operation.timedWake (o : Operation) : Bool := o.rehearsal || o.profile.wakeMode == .fixedTime

/-- A timed WAKING whose wake_lead is 0 ends on entry (R92). -/
def endZeroWake (s : Part) : Part :=
  match s.op with
  | some o => match o.phase with
    | .waking _ => if o.timedWake && o.profile.wakeLead == 0 then leaveWaking o s else s
    | _ => s
  | none => s

/-- The request for next_due is raised where R85 calls for it, and the arbiter tests its condition
(R85, R89). -/
def raiseAndGrant (s : Part) : Part := arbiterTest (raiseSchedule s)

/-- The tail of a step: raise and grant, the loaded reading and the end of an empty WAKING, raise and
grant again for what a level change left, the lend's grant condition, and the reclaim moment (R85,
R89, R92, R126, R130, R142). -/
def settle (s : Part) : Part :=
  reclaimTest (lendTest (raiseAndGrant (endZeroWake (takeLoaded (raiseAndGrant s)))))

/-- A step that the part takes in SUPPLIED and RIDING only (R156, R159). -/
def whileAwake (f : Part → Part) (s : Part) : Part := if s.awake then settle (f s) else s

end Sys2Proof.Machine
end

