-- ==== Sys2Proof/Machine/Meter.lean ====
section
/-! DEFINITION. The ambient meter (chapter 5): its start and stop, the end of a gate, the conversion
of a count, and the completion of a reading. -/

namespace Sys2Proof.Machine

/-- The count at which a gate is saturated (R72). -/
def saturatedCount : Nat := 1048575

/-- The meter starts (R73): the latest reading is discarded and a periodic reading begins at once,
with the periodic deadline one meter_period after now (R74). -/
def meterStart (s : Part) : Part :=
  let next := s.after (eighths s.tables.general.meterPeriod)
  beginReading
    { s with meter :=
        { s.meter with latest := none, lastDue := s.time.elapsed, deadline := next } }

/-- The meter stops and discards what it holds (R80, R81). -/
def meterStop (s : Part) : Part :=
  { s with meter := { s.meter with state := .stopped, latest := none } }

/-- The meter stops, and starts where it is enabled (R73, R81). -/
def meterRestart (s : Part) : Part :=
  let s := meterStop s
  if s.tables.general.meterEnabled then meterStart s else s

/-- The start gate set to a gate. -/
def setStartGate (g : Fin 3) (s : Part) : Part := { s with meter := { s.meter with startGate := g } }

/-- A periodic meter reading that is due at moment `d`: begun when IDLE, and otherwise folded into the
reading in progress (R74). -/
def meterPeriodicDue (d : Elapsed) (s : Part) : Part :=
  let next := d + BitVec.ofNat 48 (eighths s.tables.general.meterPeriod)
  readIfIdle { s with meter := { s.meter with lastDue := d, deadline := next } }

/-- The gate with which the reading goes on after `count` at gate `g`, or none where it finishes
(R76). `used` holds the gates already ended, `g` among them. -/
def nextGate (g : Fin 3) (used : BitVec 3) (count : Nat) : Option (Fin 3) :=
  let wanted : Option (Fin 3) :=
    if count = saturatedCount then
      match g with
      | 0 => none
      | 1 => some 0
      | 2 => some 1
    else if count < 1024 then
      match g with
      | 0 => some 1
      | 1 => some 2
      | 2 => none
    else none
  wanted.filter (fun n => !used.getLsbD n.val)

/-- The eighth of a count whose octave is `p`: the largest r in 0..n for which N × 32,768 is at least
M[r] × 2^p (R77 step 2). -/
def eighthOf (count p : Nat) : Nat → Nat
  | 0 => 0
  | n + 1 => if mantissa (n + 1) * 2 ^ p ≤ count * 32768 then n + 1 else eighthOf count p n

/-- The gate term 8 × (6 − 4g) of the conversion (R72). -/
def gateTerm (g : Fin 3) : Int := 8 * (6 - 4 * (g.val : Int))

/-- The ambient reading of a count at a gate (R77), −160 for a count of 0 (R78). -/
def ambientOf (count : Nat) (g : Fin 3) (cCal : Int) : Int :=
  if count = 0 then -160
  else
    let p := Nat.log2 count
    clampInt (-160) 160 (8 * p + eighthOf count p 7 + gateTerm g + cCal)

/-- The gate states of every window after a reading (R33). -/
def gatesAfter (a : Int) (s : Part) : Part :=
  { s with gates := Vector.ofFn (fun i => gateAfter (s.tables.windows.get i) (s.gates.get i) a) }

/-- A reading finishes with `count` at gate `g` (R79): its record replaces the latest, then the gate
states are updated, then the selector re-evaluates. -/
def finishReading (g : Fin 3) (count : Nat) (s : Part) : Part :=
  let rec_ : MeterReading :=
    { a := ambientOf count g s.tables.general.cCal, gate := g, count := count
      dark := count == 0, saturated := count == saturatedCount, completedAt := s.now }
  reEvaluate (gatesAfter rec_.a
    { s with meter := { s.meter with state := .idle, startGate := g, latest := some rec_ } })

/-- A gate ends after `pulses` more pulses (R72, R76). -/
def endGate (pulses : Nat) (m : Measuring) (s : Part) : Part :=
  let count := min (s.meter.count + pulses) saturatedCount
  let used := m.used ||| BitVec.ofNat 3 (2 ^ m.gate.val)
  match nextGate m.gate used count with
  | some g =>
    { s with meter :=
        { s.meter with state := .measuring ⟨g, used, s.after (gateTicks g)⟩, count := 0 } }
  | none => finishReading m.gate count { s with meter := { s.meter with count := count } }

end Sys2Proof.Machine
end

