-- ==== Sys2Proof/Machine/Health.lean ====
section
/-! DEFINITION. Camera health (chapter 7): the attempts of a recovery and their ends. -/

namespace Sys2Proof.Machine

/-- RECOVERY joins or leaves the holder set. -/
def holdRecovery (present : Bool) (s : Part) : Part :=
  { s with holders := { s.holders with recovery := present } }

/-- Attempt `n` of a recovery begins with its off phase (R114). -/
def startAttempt (n : Nat) (r : Recovery) (s : Part) : Part :=
  holdRecovery false
    { s with health := .recovering { r with attempt := n, phase := .off (s.after (eighths r.off)) } }

/-- A recovery in progress begins again at attempt 1 (R119). -/
def restartRecovery (s : Part) : Part :=
  match s.health with
  | .recovering r => startAttempt 1 r s
  | .healthy | .faulted => s

/-- An attempt succeeds, its four steps in order (R115). -/
def attemptSucceeds (r : Recovery) (s : Part) : Part :=
  let s := raiseNotice .cameraRecovered (some r.plan.val)
    { s with failCount := 0, health := .healthy }
  let s := arbiterTest s
  holdRecovery false (if s.op.isSome then s else lendTest s)

/-- The camera becomes FAULTED (R116). -/
def becomeFaulted (r : Recovery) (s : Part) : Part :=
  let s := { s with health := .faulted, holders := ⟨false, false, false, false⟩ }
  let s := if s.engine = .armed then setEngine .suspended s else s
  raiseNotice .cameraFault (some r.plan.val) s

/-- An attempt fails (R114). -/
def attemptFails (r : Recovery) (s : Part) : Part :=
  if r.attempt < r.attempts then startAttempt (r.attempt + 1) r s else becomeFaulted r s

/-- The off phase ends: RECOVERY joins, and the on phase waits by the recovery's wake_mode. With
FIXED_TIME and a wake_lead of 0 the attempt succeeds as the on phase begins (R114). -/
def beginOnPhase (r : Recovery) (s : Part) : Part :=
  let wait := match r.wakeMode with
    | .waitReady => r.readyTimeout
    | .fixedTime => r.wakeLead
  let r' : Recovery := { r with phase := .on (s.after (eighths wait)) }
  let s := holdRecovery true { s with health := .recovering r' }
  if r.wakeMode = .fixedTime ∧ r.wakeLead = 0 then attemptSucceeds r' s else s

end Sys2Proof.Machine
end

