-- ==== Sys2Proof/Machine/Clock.lean ====
section
/-! DEFINITION. The passing of time (chapter 1): counted ticks, the end of the calendar, the rate
trim, and the two ways a moment is reached. -/

namespace Sys2Proof.Machine

/-- Whether the operation is a SCHEDULE one in WAKING or WAITING, whose due's computation has not been
made (R5, R28). -/
def Part.awaitingDue (s : Part) : Bool :=
  match s.op with
  | some o => o.source == .schedule && !o.settled && match o.phase with
    | .waking _ | .waiting => true
    | .setting _ | .focusing _ | .exposing _ | .writing _ | .spacing _ => false
  | none => false

/-- The engine is disarmed and the run ends (R38, R41). -/
def disarm (s : Part) : Part := endRun (setEngine .disarmed s)

/-- The done mark where the clock stands past the end of its range: the end moment of the marked
occurrence is counted on from the jump to 0, so a mark whose end has passed goes with it, a whole-day
one among them, as the jump is its next midnight (R39; DEDUCED, assumption 9). -/
def markPastEnd (s : Part) : Part :=
  let rebased := s.doneMark.map (fun m => { m with stop := m.stop - Config.calendarSpan })
  { s with doneMark := rebased.filter (fun m => decide (s.now < m.stop)) }

/-- The clock has passed the end of its range and stands at what is left of the advance (R5): NOT_SET,
CLOCK_NEEDED, the SCHEDULE request withdrawn, the engine disarmed, and a SCHEDULE operation in WAKING
or WAITING ended as an ABORT would end it. A done mark whose end the clock has passed is removed
(R39). -/
def calendarEnds (s : Part) : Part :=
  let s := markPastEnd
    { s with time := { s.time with clock := .notSet, boundarySeen := 0, midnightSeen := 0 } }
  let s := disarm (withdrawSchedule (raiseNotice .clockNeeded (some Config.lastSecond) s))
  if s.awaitingDue then cutOperation .aborted s else s

/-- The ticks that a trim boundary lying within the next `n` ticks, before their end, adds beyond them:
the trim is added at once at the boundary, and what it adds is counted among the `n` (R6). -/
def TimeBase.trimBeyond (t : TimeBase) (n : Nat) : Nat :=
  let past := (t.elapsed + BitVec.ofNat 48 n).toNat % Config.trimSpacing
  if 0 < past ∧ (past < n ∨ past = n ∧ t.trimTaken = false) then t.trim.toNat - past else 0

/-- `n` ticks are counted on both counters (R1, R2, R3), with the trim of a boundary that lies within
them (R6); where they would pass the end of the range, R5 applies. What falls within ticks that a command
counts on to its own moment stays for the steps that follow (assumption 1); the trim's addition at a
trim boundary reaches what falls within it, in `addTrim`. Periods withheld before the last of the ticks
have passed. -/
def passTime (n : Nat) (s : Part) : Part :=
  let t := s.time
  let n := n + t.trimBeyond n
  let moved (instant : Nat) : Part :=
    { s with time := { t with
        instant := instant
        elapsed := t.elapsed + BitVec.ofNat 48 n
        withheld := if n = 0 then t.withheld else 0
        trimTaken := t.trimTaken && n == 0 } }
  if t.instant + n < Config.calendarSpan then moved (t.instant + n)
  else calendarEnds (moved ((t.instant + n) % Config.calendarSpan))

/-- The calendar clock reaches an instant: it moves on where the instant is still ahead. An instant
within a span that the trim adds is reached at the end of the span (R6). -/
def reachInstant (t : Nat) (s : Part) : Part := if s.now < t then passTime (t - s.now) s else s

/-- The elapsed counter reaches a deadline: it moves on where the deadline is still ahead (R2). -/
def reachElapsed (d : Elapsed) (s : Part) : Part :=
  if s.reached d then s else passTime (d - s.time.elapsed).toNat s

/-- Ticks from the elapsed count to the trim boundary that is next to be taken (R6). -/
def TimeBase.toBoundary (t : TimeBase) : Nat :=
  let past := t.elapsed.toNat % Config.trimSpacing
  if past = 0 ∧ t.trimTaken = false then 0 else Config.trimSpacing - past

end Sys2Proof.Machine
end

