-- ==== Sys2Proof/Machine/Restart.lean ====
section
/-! DEFINITION. Dips, outages, restores, the loss of the backup domain, cold start and the resets
(chapter 10). -/

namespace Sys2Proof.Machine

/-- Below this pack voltage a dip begins (R155). -/
def dipMv : Nat := 4000

/-- Above this pack voltage the pack is back (R155). -/
def returnMv : Nat := 4500

/-- An EXTERNAL or MANUAL request is withdrawn with its closed MISSED record; a MANUAL one also raises
SHOOT_DONE (R86, R88, R158). -/
def withdrawHeld (src : Source) (reason : MissReason) (s : Part) : Part :=
  match s.arbiter.slot src with
  | none => s
  | some q =>
    let number := s.journal.numberFor
    let merged := if src = .external then some s.arbiter.merged else none
    let s := appendRecord (missedRecord src q.plan none q.raisedAt merged reason false) s
    let cleared := s.arbiter.clear src
    let arb := if src = .external then { cleared with merged := 0 } else cleared
    let s := { s with arbiter := arb }
    if src = .manual then raiseNotice .shootDone (some number) s else s

/-- The holder set emptied (R106). -/
def emptyHolders (s : Part) : Part := { s with holders := ⟨false, false, false, false⟩ }

/-- The camera line's receiver begins afresh and nothing is being sent (R107, R108). Where a SET is being
sent as a reset is taken, the manual does not say what becomes of it, and the model cuts it off
(assumption 14). -/
def quietCameraLine (s : Part) : Part :=
  { s with camera := { s.camera with rx := [], tx := none } }

/-- The host link's receiver, its buffer and its reply are dropped (R164, R173, R174). -/
def clearLink (s : Part) : Part :=
  { s with link := { s.link with
      rx := [], handled := none, waiting := none, reply := none, softReset := false } }

/-- A recovery attempt in progress is abandoned, with health kept RECOVERING (R119, R157). -/
def abandonAttempt (s : Part) : Part :=
  match s.health with
  | .recovering r => { s with health := .recovering { r with phase := .stopped } }
  | .healthy | .faulted => s

/-- Port lending at outage entry (R137). -/
def lendingAtOutage (s : Part) : Part :=
  match s.lending.port with
  | .owned => s
  | .yielding => raiseTaken .power (ownPort s.lending.allowed s)
  | .lent | .reclaiming => raiseTaken .power (ownPort false s)

/-- The battery supervisor at outage entry (R141, R152). -/
def batteryAtOutage (s : Part) : Part :=
  { s with battery := { s.battery with deferred := false, deadline := none } }

/-- The oscillator periods for which the pack stays above 4,500 mV before a cold start: 4 eighths
(R163). -/
def coldStartTicks : Nat := 16384

/-- The timing of a cold start as the pack stands at a voltage: it runs while the pack stays above
4,500 mV, and begins anew when the pack has come back above it (R163). -/
def timeCold (mv : Nat) (s : Part) : Part :=
  let left := if returnMv < mv then some (s.monitor.coldIn.getD coldStartTicks) else none
  { s with monitor := { s.monitor with coldIn := left } }

/-- The backup domain is lost: both counters stop and the part takes nothing until power returns
(R163). The manual does not say which state the monitor stands in after a loss in RIDING or RESTORING:
the model's choice is OUTAGE, until the cold start. With the pack above 4,500 mV as the domain is lost,
its 4 eighths begin then (both assumption 19, a DESIGN CHOICE). -/
def loseBackup (s : Part) : Part :=
  let s := clearLink (quietCameraLine (releaseLines (emptyHolders { s with op := none })))
  timeCold s.pins.packMv
    { s with monitor := { s.monitor with state := .outage, lost := true, coldIn := none } }

/-- Outage entry, its steps in order (R157, R158). With the backup cell LOW already, the backup
domain is lost with the pack (R155, R163; DEDUCED, assumption 12). -/
def outageEntry (s : Part) : Part :=
  let s := { s with monitor :=
    { s.monitor with state := .outage, outageStart := s.time.elapsed } }
  let s := withdrawSchedule (cutOperation .power s)
  let s := withdrawHeld .manual .power (withdrawHeld .external .power s)
  let s := abandonAttempt (emptyHolders (releaseLines (lendingAtOutage s)))
  let s := clearLink (quietCameraLine (batteryAtOutage (meterStop s)))
  if s.monitor.cellLow then loseBackup s else s

/-- A done mark whose end has passed, be it the end of the marked occurrence or, for a whole-day window,
a midnight that fell in the outage, is removed (R39, R160). -/
def dropEndedMark (s : Part) : Part :=
  { s with doneMark := s.doneMark.filter (fun m => decide (s.now < m.stop)) }

/-- The boundaries and midnights up to now are not taken as events (R12, R35). -/
def skipBoundaries (s : Part) : Part :=
  { s with time := { s.time with boundarySeen := s.now, midnightSeen := s.now } }

/-- Both streaks become 0 (R152, R153). -/
def clearStreaks (s : Part) : Part :=
  { s with battery := { s.battery with worse := 0, better := 0 } }

/-- The battery supervisor's immediate periodic reading (R141, R153). -/
def immediateReading (s : Part) : Part := periodicDue s.time.elapsed s

/-- An ARMED or SUSPENDED engine becomes PAUSED (R43). -/
def pauseEngine (s : Part) : Part :=
  match s.engine with
  | .armed | .suspended => setEngine .paused s
  | .disarmed | .paused => s

/-- Whether a restore after this outage is warm (R160). -/
def Part.warm (s : Part) : Bool :=
  decide ((s.time.elapsed - s.monitor.outageStart).toNat ≤ s.tables.supply.warmWindow * minuteTicks)

/-- The blocks that an outage stopped start again (R160). -/
def restartBlocks (s : Part) : Part :=
  let s := { s with monitor := { s.monitor with state := .supplied }, rehearsal := false }
  restartRecovery (skipBoundaries (dropEndedMark (clearStreaks (meterRestart
    (quietCameraLine (clearLink s))))))

/-- The completion of a restore: warm or paused by the outage length, then the immediate reading
(R160 to R162). -/
def completeRestore (s : Part) : Part :=
  let warm := s.warm
  let s := restartBlocks s
  let s := if warm then catchUp .power s else catchUp .paused (pauseEngine s)
  let s := settle (noteNextDue (reEvaluate s))
  let kind : NoticeKind := if warm then .restoredWarm else .restoredPaused
  immediateReading (raiseNotice kind s.journal.newest s)

/-- The meter and the gates at a reset: start gate 1, and every gate state false (R33, R81, R83). -/
def meterAtReset (s : Part) : Part :=
  setStartGate 1 s |> meterRestart |> fun s => { s with gates := Vector.replicate 8 false }

/-- The capture engine and arbiter at a reset (R106, R164 step 2). -/
def captureAtReset (s : Part) : Part :=
  let s := cutOperation .aborted s
  let s := { s with arbiter :=
    { schedule := none, external := none, manual := none, merged := 0, lastExternal := none } }
  let s := quietCameraLine (releaseLines (emptyHolders s))
  { s with camera := { s.camera with lastTag := 0 }, rehearsal := false }

/-- Steps 1 to 3 of both resets (R164). -/
def resetBegins (s : Part) : Part :=
  ownPort true (captureAtReset (clearLink { s with hold := true }))

/-- Steps 9 and 10 of both resets: the selection, with the request for next_due raised after it where
the engine is ARMED, and the immediate reading (R164, R165). -/
def resetEnds (s : Part) : Part :=
  let s := reEvaluate s
  immediateReading (settle (noteNextDue { s with hold := false }))

/-- A deferred battery reading is dropped (R153). -/
def dropDeferred (s : Part) : Part := { s with battery := { s.battery with deferred := false } }

/-- The reset line, its ten steps in order (R164). -/
def resetByLine (s : Part) : Part :=
  let s := pauseEngine (restartRecovery (resetBegins s))
  let s := dropDeferred (clearStreaks (meterAtReset s))
  resetEnds { s with battery := { s.battery with level := .normal }, notices := [] }

/-- SOFT_RESET's step 5: a SUSPENDED engine becomes ARMED (R43, R165). -/
def rearmEngine (s : Part) : Part :=
  match s.engine with
  | .suspended => setEngine .armed s
  | .disarmed | .armed | .paused => s

/-- The reset of SOFT_RESET (R165). -/
def resetBySoft (s : Part) : Part :=
  let s := rearmEngine { resetBegins s with health := .healthy, failCount := 0 }
  resetEnds (dropDeferred (clearStreaks (meterAtReset s)))

/-- What a cold start makes of the part: every block takes its cold-start values, and the first battery
reading is taken (R163, R153). The levels on the input pins and the backup cell's report are the outside
world's. -/
def startCold (s : Part) : Part :=
  let fresh := { Part.coldStart with
    pins := s.pins
    monitor := { Part.coldStart.monitor with cellLow := s.monitor.cellLow } }
  immediateReading fresh

/-- COLD_START: taken after a loss of the backup domain, as the pack has stayed above 4,500 mV for
4 eighths (R163). Nothing happens where the domain is not lost or the pack has not returned. -/
def takeColdStart (s : Part) : Part :=
  if s.monitor.lost && s.monitor.coldIn.isSome then startCold s else s

end Sys2Proof.Machine
end

