-- ==== Sys2Proof/Machine/Formats.lean ====
section
/-! DEFINITION. The encodings of section 12.4: codes, the reply payload, and the reply data of
GET_STATUS, GET_CLOCK, READ_METER, READ_FRAMES and GET_NOTICES. -/

namespace Sys2Proof.Machine

def EngineState.code : EngineState → Nat
  | .disarmed => 0
  | .armed => 1
  | .paused => 2
  | .suspended => 3

def PortState.code : PortState → Nat
  | .owned => 0
  | .yielding => 1
  | .lent => 2
  | .reclaiming => 3

def Health.code : Health → Nat
  | .healthy => 0
  | .recovering _ => 1
  | .faulted => 2

def ClockState.code : ClockState → Nat
  | .notSet => 0
  | .set => 1

def Source.code : Source → Nat
  | .schedule => 0
  | .external => 1
  | .manual => 2

def FrameOutcome.code : FrameOutcome → Nat
  | .taken => 0
  | .failed => 1
  | .missed => 2

def FailCause.code : FailCause → Nat
  | .noReady => 1
  | .nak _ => 2
  | .noAck => 3
  | .restart => 4
  | .noActivity => 5
  | .writeTimeout => 6
  | .aborted => 7
  | .power => 8

/-- The NAK cause byte of a record, 0 for any other cause. -/
def FailCause.nakByte : FailCause → Byte
  | .nak b => b
  | .noReady | .noAck | .restart | .noActivity | .writeTimeout | .aborted | .power => 0

def MissReason.code : MissReason → Nat
  | .paused => 1
  | .cameraFault => 2
  | .recovering => 3
  | .lent => 4
  | .busy => 5
  | .power => 6
  | .clockStep => 7

/-- The refusal reasons' codes (R176). -/
def RefuseReason.code : RefuseReason → Nat
  | .clockNotSet => 1
  | .busy => 2
  | .lent => 3
  | .notLent => 4
  | .already => 5
  | .cameraFault => 6
  | .critical => 7
  | .rehearsal => 8
  | .recovering => 9
  | .writing => 10
  | .idle => 11

/-- A reply's payload: the status byte and what follows it (R176). -/
def Reply.payload : Reply → List Byte
  | .ok data => 0 :: data
  | .adjusted fields => 1 :: byte fields.length :: fields.map byte
  | .pending => [2]
  | .refused reason => [3, byte reason.code]
  | .badField index => [4, byte index]
  | .badLength => [5]
  | .unknownType => [6]

/-- Presence bits, bit 0 first. -/
def presence (bits : List Bool) : Byte :=
  byte (bits.foldr (fun b acc => boolCode b + 2 * acc) 0)

/-- The run summary of GET_STATUS (R177). Where no run exists its bytes are 0, but for the window, which
R183's table codes 0xFF where it is absent (the model's reading, assumption 24). -/
def putRunSummary : Option Run → List Byte
  | none => [0, 0, 0xFF] ++ List.replicate 14 0
  | some r =>
    [byte (if r.state = .active then 0 else 1), byte r.plan.val, byte r.window.val] ++
    putInstant r.nextDue ++ putNat 4 r.remaining ++ putNat 4 r.k

/-- The lend timer's deadline as GET_STATUS reports it: while LENT or RECLAIMING (R124, R177). -/
def Part.reportedTimer (s : Part) : Option Elapsed :=
  match s.lending.port with
  | .lent | .reclaiming => s.lending.timer
  | .owned | .yielding => none

/-- The reclaim moment as GET_STATUS reports it: while a run is ACTIVE in an ARMED engine (R177). -/
def Part.reportedReclaim (s : Part) : Option Nat :=
  match s.run with
  | some r => if s.serves r then some (s.reclaimMoment r) else none
  | none => none

/-- The reply data of GET_STATUS, 49 bytes (R177). -/
def statusData (s : Part) : List Byte :=
  [byte s.engine.code, byte s.time.clock.code, byte s.lending.port.code, byte s.health.code,
    byte s.failCount, byte s.battery.level.rank,
    byte (boolCode (s.monitor.state == .riding)), byte (boolCode s.monitor.cellLow),
    byte (boolCode s.rehearsal),
    presence [s.run.isSome, s.battery.latest.isSome, s.meter.latest.isSome,
      s.journal.newest.isSome, s.reportedTimer.isSome, s.reportedReclaim.isSome]] ++
  putRunSummary s.run ++
  putNat 2 ((s.battery.latest.map (·.volts)).getD 0) ++
  putInt 1 ((s.battery.latest.map (·.celsius)).getD 0) ++
  putInt 2 ((s.meter.latest.map (·.a)).getD 0) ++
  putNat 4 (s.journal.newest.getD 4294967295) ++
  [byte s.notices.length] ++
  putElapsed (s.reportedTimer.getD 0) ++
  putInstant (s.reportedReclaim.getD 0)

/-- The reply data of GET_CLOCK, 22 bytes (R10). -/
def clockData (s : Part) : List Byte :=
  let seconds := s.now / Config.ticksPerSecond
  [byte s.time.clock.code] ++ putNat 4 seconds ++ putNat 2 (s.now % Config.ticksPerSecond) ++
  putNat 2 (dayOf s.now) ++ putNat 4 (sodOf s.now) ++ [byte (weekdayOf (dayOf s.now))] ++
  putInt 2 s.time.trim ++ putElapsed s.time.elapsed

/-- The latest meter reading in READ_METER, zeros where none is held. -/
def putMeterReading : Option MeterReading → List Byte
  | none => List.replicate 13 0
  | some r =>
    putInt 2 r.a ++ [byte r.gate.val] ++ putNat 3 r.count ++
    [presence [r.dark, r.saturated]] ++ putInstant r.completedAt

/-- The reply data of READ_METER, 25 bytes (R82). -/
def meterData (s : Part) : List Byte :=
  let stateCode := match s.meter.state with
    | .stopped => 0
    | .idle => 1
    | .measuring _ => 2
  let gates : Option Measuring := match s.meter.state with
    | .measuring m => some m
    | .stopped | .idle => none
  let running := decide (s.meter.state ≠ .stopped)
  [byte (boolCode s.tables.general.meterEnabled), byte stateCode, byte s.meter.startGate.val,
    presence [gates.isSome, running, s.meter.latest.isSome],
    byte ((gates.map (·.gate.val)).getD 0), byte ((gates.map (·.used.toNat)).getD 0)] ++
  putElapsed (if running then s.meter.deadline else 0) ++
  putMeterReading s.meter.latest

/-- The flags byte of a frame record. -/
def RecordFlags.byte (f : RecordFlags) : Byte :=
  presence [f.tight, f.rateLimited, f.high, f.low, f.reduced, f.rehearsal, f.feedbackUsed, f.isOpen]

/-- The exposure fields of a record, zeros where absent. -/
def putExposure : Option ExposureFields → List Byte
  | none => List.replicate 8 0
  | some e =>
    putInt 1 e.s ++ putInt 1 e.g ++ putInt 1 e.offset ++ putInt 2 e.eBase ++ putNat 3 e.hold

/-- A frame record in its 48 bytes (R168, section 12.4). -/
def putRecord (r : FrameRecord) : List Byte :=
  putNat 4 r.number ++
  [byte r.outcome.code, byte r.source.code, byte r.plan.val] ++ putOptIndex r.window ++
  putInstant r.due ++ putInstant (r.startAt.getD 0) ++ putExposure r.exposure ++
  [r.flags.byte,
    presence [r.startAt.isSome, r.exposure.isSome, r.b.isSome, r.a.isSome, r.level.isSome,
      r.volts.isSome]] ++
  putInt 1 (r.b.getD 0) ++ putInt 2 (r.a.getD 0) ++
  [byte ((r.level.map Level.rank).getD 0)] ++ putNat 2 (r.volts.getD 0) ++
  [byte (r.merged.getD 0), byte ((r.cause.map FailCause.code).getD 0),
    (r.cause.map FailCause.nakByte).getD 0, byte ((r.reason.map MissReason.code).getD 0)] ++
  putNat 2 r.missCount ++ putInstant (r.lastDue.getD 0)

/-- The records that READ_FRAMES returns (R172). -/
def Journal.readFrom (j : Journal) (first n : Nat) : List FrameRecord :=
  (j.records.filter (fun r => decide (first ≤ r.number))).take n

/-- The GAP flag of READ_FRAMES: the ring holds a record and F is below the oldest (R172). -/
def Journal.gap (j : Journal) (first : Nat) : Bool :=
  match j.oldest with
  | some o => decide (first < o)
  | none => false

/-- The reply data of READ_FRAMES (R172). -/
def framesData (j : Journal) (first n : Nat) : List Byte :=
  let found := j.readFrom first n
  [presence [j.gap first, !j.records.isEmpty]] ++ putNat 4 (j.oldest.getD 4294967295) ++
  putNat 4 (j.newest.getD 4294967295) ++ [byte found.length] ++ found.flatMap putRecord

/-- A notice entry in its 18 bytes (R178, section 12.4). -/
def putNotice (n : Notice) : List Byte :=
  [byte n.kind.index, byte n.count] ++ putInstant n.first ++ putInstant n.last ++
  putNat 4 (n.detail.getD 4294967295)

/-- The reply data of GET_NOTICES (R180). -/
def noticesData (ns : List Notice) : List Byte :=
  [byte (ns.length - 4), byte (ns.take 4).length] ++ (ns.take 4).flatMap putNotice

/-! ### What is on the two wires (R108, R175, R176) -/

/-- The nine bytes of a SET on the camera line (R108, section 12.4). -/
def SetMessage.wire (m : SetMessage) : List Byte :=
  frameBytes 0x51#8 ([m.tag, byte (boolCode m.bulb)] ++ putInt 1 m.s ++ putInt 1 m.g)

/-- The bytes of a reply on the host link (R175, R176). -/
def SentReply.wire (r : SentReply) : List Byte := frameBytes r.code r.reply.payload

/-- The SET that is being sent, as the camera line carries it. -/
def Part.cameraWire (s : Part) : List Byte := (s.camera.tx.map SetMessage.wire).getD []

/-- The reply that is being sent, as the host link carries it. -/
def Part.hostWire (s : Part) : List Byte := (s.link.reply.map SentReply.wire).getD []

end Sys2Proof.Machine
end

