-- ==== Sys2Proof/Machine/Edits.lean ====
section
/-! DEFINITION. What the storing of a record does to work in progress (R23, R25 to R28, R31, R39,
R80), and what a clock step does (R9, R11, R12). -/

namespace Sys2Proof.Machine

/-! ### Plans (R26 to R28) -/

/-- Whether an operation for the run's due has made its computation (R27). -/
def Part.dueComputed (s : Part) : Bool :=
  match s.op with
  | some o => o.source == .schedule && !o.settled && o.comp.isSome
  | none => false

/-- Whether two bracket lists differ: in mode, in number or in any entry (R27). -/
def bracketsDiffer (p q : Plan) : Bool :=
  p.bracketMode != q.bracketMode || p.brackets != q.brackets

/-- The run's counters after a DEFINED write of `q` over `old` into its plan (R27). `computed` says
that an operation for the due has made its computation under the old list. Where the slot was EMPTY (the
plan of a run still in ENDING, R28), there is no old record to compare with: the limit and the list both
count as changed, and the due's consumption counts down under the new plan (the model's choice,
assumption 25). -/
def Run.takeUp (r : Run) (old : Option Plan) (q : Plan) (computed : Bool) : Run :=
  let limitChanged := match old with
    | some p => p.frameLimit != q.frameLimit
    | none => true
  let listChanged := match old with
    | some p => bracketsDiffer p q
    | none => true
  let r := if limitChanged then { r with remaining := q.frameLimit } else r
  if listChanged then
    if computed then { r with ringReset := true } else { r with ring := 0 }
  else r

/-- The run takes up a DEFINED write into its plan (R26, R27). -/
def takeUpPlan (slot : Fin 16) (old : Option Plan) (q : Plan) (s : Part) : Part :=
  match s.run with
  | some r =>
    if r.plan = slot then { s with run := some (r.takeUp old q s.dueComputed) } else s
  | none => s

/-- A held request withdrawn where it names a plan (R28). -/
def dropNaming (slot : Fin 16) (q : Option Request) : Option Request :=
  q.filter (fun r => r.plan != slot)

/-- The run whose plan has been made EMPTY ends: with its SCHEDULE operation cut short where that
operation stands in WAKING or WAITING (R28). -/
def endEmptiedRun (slot : Fin 16) (s : Part) : Part :=
  match s.run with
  | some r =>
    if r.plan = slot then
      let s := endRun s
      if s.awaitingDue then cutOperation .aborted s else s
    else s
  | none => s

/-- The uses of a slot made EMPTY end (R28). -/
def emptySlot (slot : Fin 16) (s : Part) : Part :=
  endEmptiedRun slot
    { s with arbiter :=
        { s.arbiter with
          external := dropNaming slot s.arbiter.external
          manual := dropNaming slot s.arbiter.manual } }

/-- The done mark is removed where the marked window names the plan (R39). -/
def dropMarkOfPlan (slot : Fin 16) (s : Part) : Part :=
  { s with doneMark :=
      s.doneMark.filter (fun m => (s.tables.windows.get m.window).plan != slot) }

/-- A plan slot is stored (R14, R26 to R28, R35, R39). -/
def storePlan (slot : Fin 16) (p : Option Plan) (s : Part) : Part :=
  let old := s.planAt slot
  let s := dropMarkOfPlan slot
    { s with tables := { s.tables with plans := s.tables.plans.set slot p } }
  reEvaluate (match p with
    | some q => takeUpPlan slot old q s
    | none => emptySlot slot s)

/-! ### Profiles, windows, settings -/

/-- A profile slot is stored (R29). -/
def storeProfile (slot : Fin 4) (p : Profile) (s : Part) : Part :=
  { s with tables := { s.tables with profiles := s.tables.profiles.set slot p } }

/-- The done mark is removed where it stands on the window (R39). -/
def dropMarkOfWindow (slot : Fin 8) (s : Part) : Part :=
  { s with doneMark := s.doneMark.filter (fun m => m.window != slot) }

/-- The boundaries up to now are not taken as events: the re-evaluation of the step that calls for this
stands for them, and the clock takes the next start_sod or end_sod that it reaches (R35). -/
def passBoundaries (s : Part) : Part := { s with time := { s.time with boundarySeen := s.now } }

/-- A window slot is stored: a new gate kind makes its gate state false, a boundary of the new record
is one that the clock reaches from now on, and the selector re-evaluates (R31, R35). -/
def storeWindow (slot : Fin 8) (w : Window) (s : Part) : Part :=
  let kept := (s.tables.windows.get slot).gate.kind == w.gate.kind
  let gates := if kept then s.gates else s.gates.set slot false
  reEvaluate (passBoundaries (dropMarkOfWindow slot
    { s with gates := gates, tables := { s.tables with windows := s.tables.windows.set slot w } }))

/-- The meter's periodic deadline after a meter_period write: one new period after the last periodic
reading was due, or at once where that has passed (R23, R74). -/
def retimeMeter (s : Part) : Part :=
  let d := s.meter.lastDue + BitVec.ofNat 48 (eighths s.tables.general.meterPeriod)
  match s.meter.state with
  | .stopped => s
  | .idle | .measuring _ =>
    if s.reached d then meterPeriodicDue s.time.elapsed s
    else { s with meter := { s.meter with deadline := d } }

/-- The meter is disabled: it stops, every gate state becomes false and the selector re-evaluates
(R80). -/
def disableMeter (s : Part) : Part :=
  reEvaluate { meterStop s with gates := Vector.replicate 8 false }

/-- The general settings are stored (R22, R23, R73, R80). -/
def storeGeneral (g : General) (s : Part) : Part :=
  let old := s.tables.general
  let s := { s with tables := { s.tables with general := g } }
  match old.meterEnabled, g.meterEnabled with
  | true, false => disableMeter s
  | false, true => meterStart (setStartGate 1 s)
  | _, _ => if old.meterPeriod = g.meterPeriod then s else retimeMeter s

/-- The battery supervisor's periodic deadline after a check_period write: one new period after the last
periodic reading was due, or at once where that has passed (R25). That a reading which RIDING defers
(R141) counts from the moment it was due, and not from the moment it is taken, is the model's choice:
R25 does not say, and R74 says it of the meter alone (DESIGN CHOICE, assumption 26). -/
def retimeBattery (s : Part) : Part :=
  let d := s.battery.lastDue + BitVec.ofNat 48 (eighths s.tables.supply.checkPeriod)
  if s.battery.deadline.isNone then s
  else if s.reached d then periodicDue s.time.elapsed s
  else { s with battery := { s.battery with deadline := some d } }

/-- The supply settings are stored (R24, R25). -/
def storeSupply (g : Supply) (s : Part) : Part :=
  let old := s.tables.supply
  let s := { s with tables := { s.tables with supply := g } }
  if old.checkPeriod = g.checkPeriod then s else retimeBattery s

/-! ### Clock steps (R9, R11, R12) -/

/-- A mark on a whole-day window ends at the next midnight, which a step back brings nearer (R39). -/
def retimeMark (s : Part) : Part :=
  { s with doneMark := s.doneMark.map (fun m =>
      if (s.tables.windows.get m.window).wholeDay then
        { m with stop := min m.stop (nextSecondOfDay s.now 0) }
      else m) }

/-- The clock set to whole seconds (R9). Boundaries and midnights up to the new instant are not taken
as events (R12). -/
def putClock (seconds : Nat) (s : Part) : Part :=
  retimeMark (skipBoundaries { s with time :=
    { s.time with instant := seconds * Config.ticksPerSecond, clock := .set } })

/-- next_due moved by case 2 of R11: it is computed at the step, with the late_limit then in force
(R47), and an operation in flight for it waits for the moved due (R12, assumption 20). -/
def moveDue (due : Nat) (r : Run) (s : Part) : Part :=
  let granted := s.dueGranted
  let op := s.op.map (fun o : Operation =>
    if granted then
      let q := { o.request with due := some due }
      { o with request := q }
    else o)
  { s with run := some { r with nextDue := due, lateLimit := s.tables.general.lateLimit
                                wakeReached := false, dueReached := false }
           op := op }

/-- The current effective interval in ticks of the run's plan at its present k (R11). -/
def Part.currentInterval (s : Part) (r : Run) : Option Nat :=
  (s.planAt r.plan).map (fun p => eighths (s.effectiveInterval p r.k))

/-- The run's next_due is settled against a clock that stood at `old` (R11). A due held by an
operation in flight is left to it, with the catch-up deferred (R12); a later step that brings the clock
back before the due takes the deferral back (the model's choice, assumption 24). -/
def settleDue (old : Nat) (s : Part) : Part :=
  match s.run with
  | none => s
  | some r =>
    if r.state = .ending then s
    else if r.nextDue ≤ s.now then
      if s.dueGranted then { s with run := some { r with stepCatchUp := true } }
      else catchUp .clockStep s
    else
      let s := { s with run := some { r with stepCatchUp := false } }
      match s.currentInterval r with
      | some i =>
        if s.now < old ∧ s.now + i < r.nextDue then
          moveDue (s.now + i) { r with stepCatchUp := false } s
        else s
      | none => s

/-- WAITING ends where the clock is at or past its due (R12, R93); a due ahead of the clock stands as
not reached (assumption 28). -/
def endReachedWaiting (s : Part) : Part :=
  match s.run with
  | some r =>
    let s := { s with run := some { r with dueReached := decide (r.nextDue ≤ s.now) } }
    if r.nextDue ≤ s.now then endWaiting s else s
  | none => s

/-- SET_CLOCK's effect on the part (R9, R11, R12): the pending SCHEDULE request is withdrawn, next_due
is settled where the clock was SET and its wake time looked at (R75), a reached WAITING ends, and the
selector re-evaluates. A wake time or due already taken that lies ahead of the new clock is taken again
(DESIGN CHOICE, assumption 28). -/
def stepClock (seconds : Nat) (s : Part) : Part :=
  let old := s.now
  let wasSet := s.time.clock
  let s := putClock seconds s
  match wasSet with
  | .notSet => reEvaluate s
  | .set => reEvaluate (endReachedWaiting (noteNextDue (settleDue old (withdrawSchedule s))))

end Sys2Proof.Machine
end

