-- ==== Sys2Proof/Machine/Requests.lean ====
section
/-! DEFINITION. The handling of the host requests (chapters 1 to 3, 5 to 8, 10 to 12): what each makes
of its payload, what it does to the part, and what it replies. -/

namespace Sys2Proof.Machine

/-- What handling a request gives: the part afterwards and the reply. -/
structure Handled where
  part : Part
  reply : Reply

/-- A request that changes nothing and gives a reply. -/
def only (reply : Reply) (s : Part) : Handled := ⟨s, reply⟩

/-- A refusal with a reason (R176). -/
def refuse (reason : RefuseReason) (s : Part) : Handled := only (.refused reason) s

/-- A request carried out, with the tail of its step. -/
def done (reply : Reply) (s : Part) : Handled := ⟨settle s, reply⟩

/-! ### Reading requests -/

/-- A request without payload that only reports (R10, R14, R82, R177). -/
def reportWhole (payload : List Byte) (data : Part → List Byte) (s : Part) : Handled :=
  if payload.length = 0 then only (.ok (data s)) s else only .badLength s

/-- A request that returns a record of a slot (R14, R21, R31). -/
def reportSlot (n : Nat) (payload : List Byte) (data : Fin n → List Byte) (s : Part) : Handled :=
  if payload.length ≠ 1 then only .badLength s
  else match finOf? n (fieldNat 0 1 payload) with
    | some i => only (.ok (data i)) s
    | none => only (.badField 255) s

/-- READ_FRAMES (R172). -/
def handleReadFrames (payload : List Byte) (s : Part) : Handled :=
  let n := fieldNat 4 1 payload
  if payload.length ≠ 5 then only .badLength s
  else if n < 1 ∨ 4 < n then only (.badField 1) s
  else only (.ok (framesData s.journal (fieldNat 0 4 payload) n)) s

/-! ### Clock and trim -/

/-- The reply data of SET_CLOCK: the clock as it stood before (R9). -/
def oldClockData (s : Part) : List Byte := putInstant s.now ++ [byte s.time.clock.code]

/-- SET_CLOCK (R9, R11, R12). BAD_FIELD names the seconds field, the request's only one, as index 0 (the
model's choice, assumption 24). -/
def handleSetClock (payload : List Byte) (s : Part) : Handled :=
  let seconds := fieldNat 0 4 payload
  if payload.length ≠ 4 then only .badLength s
  else if Config.lastSecond < seconds then only (.badField 0) s
  else done (.ok (oldClockData s)) (stepClock seconds s)

/-- SET_TRIM (R7). -/
def handleSetTrim (payload : List Byte) (s : Part) : Handled :=
  let asked := fieldInt 0 2 payload
  let trim := clampInt (-1023) 1023 asked
  if payload.length ≠ 2 then only .badLength s
  else
    ⟨{ s with time := { s.time with trim := trim } },
      if trim = asked then .ok [] else .adjusted [0]⟩

/-! ### Writing requests (R15) -/

/-- A write request: refused by its checks, or stored with the tail of its step (R15). -/
def handleWrite {ι α : Type} (checked : Checked ι α) (store : ι → α → Part → Part) (s : Part) :
    Handled :=
  match checked with
  | .refuse reply => only reply s
  | .store slot record changed => done (storedReply changed) (store slot record s)

/-- The notice mask stored as field 14 of the general settings (R179). -/
def putMask (mask : BitVec 14) (s : Part) : Part :=
  let g : General := { s.tables.general with mask := mask }
  { s with tables := { s.tables with general := g } }

/-- MASK_NOTICES (R179). -/
def handleMask (payload : List Byte) (s : Part) : Handled :=
  let mask := fieldNat 0 2 payload
  if payload.length ≠ 2 then only .badLength s
  else if 16384 ≤ mask then only (.badField 0) s
  else
    ⟨putMask (BitVec.ofNat 14 mask) s, .ok (putNat 2 s.tables.general.mask.toNat)⟩

/-- GET_NOTICES (R180). -/
def handleGetNotices (payload : List Byte) (s : Part) : Handled :=
  if payload.length = 0 then
    ⟨{ s with notices := s.notices.drop 4 }, .ok (noticesData s.notices)⟩
  else only .badLength s

/-! ### Control requests -/

/-- A request without payload. -/
def whenEmpty (payload : List Byte) (f : Part → Handled) (s : Part) : Handled :=
  if payload.length = 0 then f s else only .badLength s

/-- The engine state that ARM and RESUME lead to (R41, R42). -/
def Part.armedOrSuspended (s : Part) : EngineState :=
  match s.health with
  | .faulted => .suspended
  | .healthy | .recovering _ => .armed

/-- ARM (R41). -/
def handleArm (s : Part) : Handled :=
  match s.time.clock, s.engine with
  | .notSet, _ => refuse .clockNotSet s
  | .set, .disarmed => done (.ok []) (reEvaluate (setEngine s.armedOrSuspended s))
  | .set, .armed => done (.ok []) (reEvaluate s)
  | .set, .paused | .set, .suspended => refuse .busy s

/-- DISARM (R41, R38). -/
def handleDisarm (s : Part) : Handled :=
  match s.engine with
  | .disarmed => only (.ok []) s
  | .armed | .paused | .suspended => done (.ok []) (disarm s)

/-- RESUME (R42). -/
def handleResume (s : Part) : Handled :=
  match s.engine with
  | .paused => done (.ok []) (noteNextDue (reEvaluate (setEngine s.armedOrSuspended s)))
  | .disarmed | .armed | .suspended => refuse .busy s

/-- A MANUAL request raised (R84, R87). -/
def raiseManual (plan : Fin 16) (e : Option Int) (s : Part) : Part :=
  let q : Request :=
    { plan := plan, due := none, raisedAt := s.now, raisedElapsed := s.time.elapsed
      explicitE := e, lateLimit := s.tables.general.lateLimit }
  { s with arbiter := { s.arbiter with manual := some q } }

/-- The explicit E of a SHOOT, absent where the payload carries none (R87). -/
def shootE (payload : List Byte) : Option Int :=
  if payload.length = 3 then some (fieldInt 1 2 payload) else none

/-- SHOOT by the first line of R87's table that applies. -/
def handleShoot (payload : List Byte) (s : Part) : Handled :=
  let e := shootE payload
  if payload.length ≠ 1 ∧ payload.length ≠ 3 then only .badLength s
  else match finOf? 16 (fieldNat 0 1 payload) with
    | none => only (.badField 0) s
    | some plan =>
      if (s.planAt plan).isNone then only (.badField 0) s
      else if e.any (fun v => decide (v < -96 ∨ 128 < v)) then only (.badField 1) s
      else if s.arbiter.manual.isSome then refuse .busy s
      else if s.lending.port ≠ .owned then refuse .lent s
      else if s.engine = .suspended then refuse .cameraFault s
      else if s.battery.level = .critical then refuse .critical s
      else done .pending (raiseManual plan e s)

/-- EXPOSING ended by ABORT: the lines are released and the frame enters WRITING (R102). -/
def abortExposure (o : Operation) (s : Part) : Part := enterWriting { o with aborting := true } s

/-- ABORT by the phase in which the operation stands (R102). -/
def handleAbort (s : Part) : Handled :=
  match s.op with
  | none => refuse .idle s
  | some o => match o.phase with
    | .waking _ | .waiting | .setting _ | .focusing _ | .spacing _ =>
      done (.ok []) (cutOperation .aborted s)
    | .exposing _ => done (.ok []) (abortExposure o s)
    | .writing _ => refuse .writing s

/-- The port becomes YIELDING (R125). -/
def beginYield (s : Part) : Part := { s with lending := { s.lending with port := .yielding } }

/-- LEND by the first line of R125's table that applies. -/
def handleLend (s : Part) : Handled :=
  if s.battery.level = .critical then refuse .critical s
  else if s.rehearsal then refuse .rehearsal s
  else if s.health.isRecovering then refuse .recovering s
  else if s.lending.port ≠ .owned then refuse .already s
  else done .pending (beginYield s)

/-- RETURN by the port state (R133). -/
def handleReturn (s : Part) : Handled :=
  match s.lending.port with
  | .lent | .reclaiming => done (.ok []) (handover (ownPort false s))
  | .owned | .yielding => refuse .notLent s

/-- Health set afresh with count 0 (R118). -/
def healCamera (s : Part) : Part := { s with health := .healthy, failCount := 0 }

/-- CAMERA_RESET by the state of health (R118). -/
def handleCameraReset (s : Part) : Handled :=
  match s.health with
  | .healthy => done (.ok []) (healCamera s)
  | .faulted => done (.ok []) (noteNextDue (rearmEngine (healCamera s)))
  | .recovering _ => refuse .busy s

/-- Rehearsal put on or off. On, the camera line is not driven, so a SET still being sent for a frame that
an ABORT has ended stops (R108, R121). -/
def putRehearsal (on : Bool) (s : Part) : Part :=
  if on then { s with rehearsal := true, camera := { s.camera with tx := none } }
  else { s with rehearsal := false }

/-- SET_REHEARSAL (R120). A value that is neither on nor off is answered BAD_FIELD before the conditions
of R120 are tested (R175; the order is the model's choice, assumption 24). -/
def handleRehearsal (payload : List Byte) (s : Part) : Handled :=
  let code := fieldNat 0 1 payload
  if payload.length ≠ 1 then only .badLength s
  else if 1 < code then only (.badField 0) s
  else if s.op.isSome ∨ s.lending.port ≠ .owned ∨ s.health.isRecovering = true then
    refuse .busy s
  else
    done (.ok [byte (boolCode s.rehearsal)]) (dropKeepWarm (putRehearsal (code == 1) s))

/-- SOFT_RESET's first part: the reset is to be taken when its reply has been sent (R165). -/
def handleSoftReset (s : Part) : Handled :=
  ⟨{ s with link := { s.link with softReset := true } }, .ok []⟩

/-! ### The reply and the frame being handled (R174 to R176) -/

/-- The ticks in which `bytes` bytes of ten bits are sent at 57,600 baud, rounded up (assumption 3). -/
def linkTicks (bytes : Nat) : Nat := (bytes * 10 * 32768 + 57599) / 57600

/-- The TYPE of a reply: the request's with its high bit set (R175). -/
def replyCode (code : Byte) : Byte := code ||| 0x80#8

/-- The reply to the handled frame begins to be sent (R174, R175). -/
def startReply (frame : HostFrame) (reply : Reply) (s : Part) : Part :=
  { s with link := { s.link with
      handled := some frame
      reply := some ⟨replyCode frame.code, reply⟩
      replyEnds := s.after (linkTicks (reply.payload.length + 5)) } }

/-- A frame becomes the handled frame and its request is handled at once: the whole handling, and
then the reply (R174). -/
def serve (code : Byte) (payload : List Byte) (f : Part → Handled) (s : Part) : Part :=
  let h := f s
  startReply ⟨code, payload⟩ h.reply h.part

/-- The handling of a frame by its TYPE (R175). -/
def handleFrame (f : HostFrame) (s : Part) : Handled :=
  let p := f.payload
  match f.code.toNat with
  | 0x01 => reportWhole p statusData s
  | 0x02 => handleSetClock p s
  | 0x03 => reportWhole p clockData s
  | 0x04 => handleSetTrim p s
  | 0x10 => handleWrite (checkPlan p) storePlan s
  | 0x11 => reportSlot 16 p (fun i => putPlan i (s.planAt i)) s
  | 0x12 => handleWrite (checkProfile p) storeProfile s
  | 0x13 => reportSlot 4 p (fun i => putProfile i (s.tables.profiles.get i)) s
  | 0x14 => handleWrite (checkWindow p) storeWindow s
  | 0x15 => reportSlot 8 p (fun i => putWindow i (s.tables.windows.get i)) s
  | 0x16 => handleWrite (checkSupply p) (fun _ => storeSupply) s
  | 0x17 => reportWhole p (fun s => putSupply s.tables.supply) s
  | 0x18 => handleWrite (checkGeneral p) (fun _ => storeGeneral) s
  | 0x19 => reportWhole p (fun s => putGeneral s.tables.general) s
  | 0x20 => whenEmpty p handleArm s
  | 0x21 => whenEmpty p handleDisarm s
  | 0x22 => whenEmpty p handleResume s
  | 0x23 => handleShoot p s
  | 0x24 => whenEmpty p handleAbort s
  | 0x25 => whenEmpty p handleLend s
  | 0x26 => whenEmpty p handleReturn s
  | 0x27 => whenEmpty p handleCameraReset s
  | 0x28 => whenEmpty p handleSoftReset s
  | 0x29 => handleRehearsal p s
  | 0x30 => handleReadFrames p s
  | 0x31 => handleGetNotices p s
  | 0x32 => handleMask p s
  | 0x33 => reportWhole p meterData s
  | _ => only .unknownType s

/-- A frame becomes the handled frame (R174). -/
def handleNow (f : HostFrame) (s : Part) : Part := serve f.code f.payload (handleFrame f) s

/-- A complete frame is placed in the receive buffer by the table of R174, with its handling `now` where
the buffer is empty. -/
def queueFrame (f : HostFrame) (now : Part → Part) (s : Part) : Part :=
  if s.link.handled.isNone then now s
  else if s.link.waiting.isNone then { s with link := { s.link with waiting := some f } }
  else s

/-- A complete frame is placed in the receive buffer (R174). -/
def placeFrame (f : HostFrame) (s : Part) : Part := queueFrame f (handleNow f) s

/-- Bytes taken by the host-link receiver, each frame placed as it completes (R173, R174). -/
def receiveHost : List Byte → Part → Part
  | [], s => s
  | b :: bs, s =>
    let got := receiveByte s.link.rx b
    let s := { s with link := { s.link with rx := got.building } }
    receiveHost bs (match got.frame with
      | some f => placeFrame f s
      | none => s)

/-- The ticks after a host-link byte from which more than 20 ms, 655.36 ticks, have passed (R173). -/
def hostGapTicks : Nat := 656

/-- The moment from which the frame being built on the host link has a gap (R173). -/
def Part.hostGapEnds (s : Part) : Option Elapsed :=
  if s.link.rx.isEmpty then none else some (s.link.rxLast + BitVec.ofNat 48 hostGapTicks)

/-- The host-link receiver stands at `rx` with a byte just arrived (R173). -/
def putHostRx (rx : List Byte) (s : Part) : Part :=
  { s with link := { s.link with rx := rx, rxLast := s.time.elapsed } }

/-- A byte arrives on the host link now: the frame being built is dropped where a gap has passed in it,
and the byte is then judged afresh (R173). -/
def hearHost (s : Part) : Part :=
  putHostRx (if s.hostGapEnds.any s.reached then [] else s.link.rx) s

/-- Bytes arrive on the host link, one after another without a gap between them (R173). -/
def takeHostBytes (bytes : List Byte) (s : Part) : Part :=
  if bytes.isEmpty then s else receiveHost bytes (hearHost s)

/-- The byte that ends a gap on the host link: the counter comes to the gap, and the byte is judged
afresh (R173). -/
def hostGap (next : Byte) (s : Part) : Part :=
  putHostRx (afterGap next) (match s.hostGapEnds with
    | some d => reachElapsed d s
    | none => s)

/-- The last byte of the reply has been sent: the handled frame leaves the buffer, and the waiting
frame is handled (R174); after SOFT_RESET's reply the reset is taken instead (R165). -/
def replyDone (s : Part) : Part :=
  if s.link.softReset then settle (resetBySoft s)
  else
    let next := s.link.waiting
    let s := { s with link := { s.link with handled := none, waiting := none, reply := none } }
    match next with
    | some f => handleNow f s
    | none => s

end Sys2Proof.Machine
end

