-- ==== Sys2Proof/Machine/Events.lean ====
section
/-! DEFINITION. What the events of the camera line, of the inputs and of the two counters do: the
moments and deadlines that run in a state, and the shared operation behind each event. -/

namespace Sys2Proof.Machine

/-! ### Camera line (R107 to R111) -/

/-- The camera-line receiver has completed a frame or dropped one: it waits for SYNC. -/
def cameraIdle (s : Part) : Part := { s with camera := { s.camera with rx := [] } }

/-- A message of the camera line is taken, and ignored in rehearsal (R107, R121). -/
def cameraMessage (f : Part → Part) : Part → Part :=
  whileAwake (fun s => if s.rehearsal then cameraIdle s else f (cameraIdle s))

/-- READY where a recovery stands (R109, R114). -/
def readyInRecovery (s : Part) : Part :=
  match s.health with
  | .recovering r => match r.phase with
    | .on _ => if r.wakeMode = .waitReady then attemptSucceeds r s else s
    | .off _ | .stopped => s
  | .healthy | .faulted => s

/-- READY by the table of R109. -/
def takeReady (s : Part) : Part :=
  match s.op with
  | none => readyInRecovery s
  | some o => match o.phase with
    | .waking _ => if o.profile.wakeMode = .waitReady then leaveWaking o s else s
    | .waiting => s
    | .setting _ | .focusing _ | .exposing _ | .spacing _ => failFrame .restart s
    | .writing _ => failFrame (if o.aborting then .aborted else .restart) s

/-- Whether the operation's frame is in SETTING with this tag (R110). -/
def Operation.setsTag (o : Operation) (tag : Byte) : Bool :=
  match o.phase with
  | .setting _ => o.tag == some tag
  | .waking _ | .waiting | .focusing _ | .exposing _ | .writing _ | .spacing _ => false

/-- ACK (R94, R110). -/
def takeAck (tag : Byte) (s : Part) : Part :=
  match s.op with
  | some o => if o.setsTag tag then enterFocusing { o with acked := true } s else s
  | none => s

/-- NAK (R94, R110). -/
def takeNak (tag cause : Byte) (s : Part) : Part :=
  match s.op with
  | some o => if o.setsTag tag then failFrame (.nak cause) s else s
  | none => s

/-- Whether the operation's frame awaits a REPORT with this tag (R111). -/
def Operation.awaitsReport (o : Operation) (tag : Byte) : Bool :=
  o.profile.report == .report && o.acked && o.tag == some tag &&
  match o.phase with
  | .focusing _ | .exposing _ | .writing _ => true
  | .waking _ | .waiting | .setting _ | .spacing _ => false

/-- REPORT (R97, R111): the first one is held for the frame, or ends its report wait. -/
def takeReport (tag b : Byte) (s : Part) : Part :=
  let value := clampInt (-64) 64 b.toInt
  match s.op with
  | some o =>
    if o.awaitsReport tag then
      match o.phase with
      | .writing (.report _) => takeFrame (some value) s
      | _ => { s with op := some { o with heldB := o.heldB.or (some value) } }
    else s
  | none => s

/-- The last byte of the SET has been sent: setting_timeout starts (R94, R108). -/
def setGone (s : Part) : Part :=
  let sent := s.camera.tx
  let s := { s with camera := { s.camera with tx := none } }
  match s.op with
  | some o => match o.phase with
    | .setting none =>
      if o.tag = sent.map (·.tag) then
        { s with op := some { o with phase := .setting (some (s.after o.profile.settingTimeout)) } }
      else s
    | _ => s
  | none => s

/-- Bytes taken by the camera-line receiver whose frames are all discarded (R107). -/
def discardCamera : List Byte → List Byte → List Byte
  | rx, [] => rx
  | rx, b :: bs => discardCamera (receiveByte rx b).building bs

/-- The ticks after a camera-line byte from which more than 50 ms, 1,638.4 ticks, have passed (R107). -/
def cameraGapTicks : Nat := 1639

/-- The moment from which the frame being built on the camera line has a gap (R107). -/
def Part.cameraGapEnds (s : Part) : Option Elapsed :=
  if s.camera.rx.isEmpty then none else some (s.camera.rxLast + BitVec.ofNat 48 cameraGapTicks)

/-- The camera-line receiver stands at `rx` with a byte just arrived (R107). -/
def putCameraRx (rx : List Byte) (s : Part) : Part :=
  { s with camera := { s.camera with rx := rx, rxLast := s.time.elapsed } }

/-- Bytes whose frames are all discarded arrive on the camera line, without a gap between them; the
frame being built is dropped first where a gap has passed in it (R107). -/
def discardBytes (bytes : List Byte) (s : Part) : Part :=
  if bytes.isEmpty then s
  else
    let rx := if s.cameraGapEnds.any s.reached then [] else s.camera.rx
    putCameraRx (discardCamera rx bytes) s

/-- The byte that ends a gap on the camera line: the counter comes to the gap, and the byte is judged
afresh (R107). -/
def cameraGap (next : Byte) (s : Part) : Part :=
  putCameraRx (afterGap next) (match s.cameraGapEnds with
    | some d => reachElapsed d s
    | none => s)

/-! ### Inputs (R86, R96) -/

/-- CAM_ACT has taken a level (R96): noted in EXPOSING, and acted on in WRITING. -/
def takeCamAct (active : Bool) (s : Part) : Part :=
  match s.op with
  | some o => match o.phase, active with
    | .exposing _, true => { s with op := some { o with camActSeen := true } }
    | .writing (.activity _), true =>
      let wait : WriteWait := .write (s.after (eighths o.profile.writeTimeout))
      { s with op := some { o with phase := .writing wait } }
    | .writing (.write _), false => completeWrite o s
    | _, _ => s
  | none => s

/-- Whether an edge of a direction is of the kind named by trigger_edge. -/
def EdgeKind.matches_ (k : EdgeKind) (rising : Bool) : Bool :=
  match k with
  | .rising => rising
  | .falling => !rising

/-- Whether the last EXTERNAL grant was less than holdoff before now (R86). -/
def Part.heldOff (s : Part) : Bool :=
  match s.arbiter.lastExternal with
  | some g => decide ((s.time.elapsed - g).toNat < eighths s.tables.general.holdoff)
  | none => false

/-- One more merged edge, up to 255 (R86). -/
def mergeEdge (s : Part) : Part :=
  { s with arbiter := { s.arbiter with merged := min (s.arbiter.merged + 1) 255 } }

/-- An EXTERNAL request raised (R84, R86). -/
def raiseExternal (plan : Fin 16) (s : Part) : Part :=
  let q : Request :=
    { plan := plan, due := none, raisedAt := s.now, raisedElapsed := s.time.elapsed
      explicitE := none, lateLimit := s.tables.general.lateLimit }
  { s with arbiter := { s.arbiter with external := some q } }

/-- An edge of the kind named by trigger_edge, by the table of R86. -/
def takeEdge (s : Part) : Part :=
  match s.tables.general.triggerPlan with
  | none => s
  | some plan =>
    if (s.planAt plan).isNone then s
    else if s.arbiter.external.isSome || s.heldOff then mergeEdge s
    else raiseExternal plan s

/-! ### Deadlines on the elapsed counter -/

/-- A timer expires: the counter reaches its deadline, and the event acts where the timer still runs
then (R2). Nothing happens where no such timer runs. -/
def expireAt (due : Part → Option Elapsed) (f : Elapsed → Part → Part) : Part → Part :=
  whileAwake (fun s => match due s with
    | some d =>
      let s := reachElapsed d s
      if due s = some d then f d s else s
    | none => s)

/-- The end of a timed WAKING (R92, R122). -/
def Part.wakeEnds (s : Part) : Option Elapsed :=
  match s.op with
  | some o => match o.phase with
    | .waking d => if o.timedWake then some d else none
    | _ => none
  | none => none

/-- The ready_timeout of a WAKING (R92). -/
def Part.readyEnds (s : Part) : Option Elapsed :=
  match s.op with
  | some o => match o.phase with
    | .waking d => if o.timedWake then none else some d
    | _ => none
  | none => none

/-- The setting_timeout of SETTING, once the SET has been sent (R94, R108). -/
def Part.settingEnds (s : Part) : Option Elapsed :=
  match s.op with
  | some o => match o.phase with
    | .setting d => d
    | _ => none
  | none => none

/-- The end of FOCUSING (R95). -/
def Part.focusEnds (s : Part) : Option Elapsed :=
  match s.op with
  | some o => match o.phase with
    | .focusing d => some d
    | _ => none
  | none => none

/-- The end of EXPOSING (R95). -/
def Part.holdEnds (s : Part) : Option Elapsed :=
  match s.op with
  | some o => match o.phase with
    | .exposing d => some d
    | _ => none
  | none => none

/-- What WRITING waits for. -/
def Part.writeWait (s : Part) : Option WriteWait :=
  match s.op with
  | some o => match o.phase with
    | .writing w => some w
    | _ => none
  | none => none

/-- The activity timer (R96). -/
def Part.activityEnds (s : Part) : Option Elapsed :=
  match s.writeWait with
  | some (.activity d) => some d
  | _ => none

/-- The write timer (R96). -/
def Part.writeEnds (s : Part) : Option Elapsed :=
  match s.writeWait with
  | some (.write d) => some d
  | _ => none

/-- The report wait (R97). -/
def Part.reportEnds (s : Part) : Option Elapsed :=
  match s.writeWait with
  | some (.report d) => some d
  | _ => none

/-- The fixed WRITING of a rehearsal frame (R122). -/
def Part.rehearsalEnds (s : Part) : Option Elapsed :=
  match s.writeWait with
  | some (.rehearsal d) => some d
  | _ => none

/-- The burst spacing (R99). -/
def Part.spacingEnds (s : Part) : Option Elapsed :=
  match s.op with
  | some o => match o.phase with
    | .spacing d => some d
    | _ => none
  | none => none

/-- The present phase of a recovery attempt. -/
def Part.attempt (s : Part) : Option (Recovery × AttemptPhase) :=
  match s.health with
  | .recovering r => some (r, r.phase)
  | .healthy | .faulted => none

/-- The off phase of a recovery attempt (R114). -/
def Part.offEnds (s : Part) : Option Elapsed :=
  match s.attempt with
  | some (_, .off d) => some d
  | _ => none

/-- The ready_timeout of an on phase (R114). -/
def Part.attemptReadyEnds (s : Part) : Option Elapsed :=
  match s.attempt with
  | some (r, .on d) => if r.wakeMode = .waitReady then some d else none
  | _ => none

/-- The wake_lead of an on phase (R114). -/
def Part.attemptWakeEnds (s : Part) : Option Elapsed :=
  match s.attempt with
  | some (r, .on d) => if r.wakeMode = .fixedTime then some d else none
  | _ => none

/-- The lend's wake period (R128). -/
def Part.lendWakeEnds (s : Part) : Option Elapsed :=
  if s.lending.port = .yielding then s.lending.wake else none

/-- The meter's periodic deadline, while the meter runs (R74). -/
def Part.meterDue (s : Part) : Option Elapsed :=
  match s.meter.state with
  | .stopped => none
  | .idle | .measuring _ => some s.meter.deadline

/-- The reading in progress. -/
def Part.measuring (s : Part) : Option Measuring :=
  match s.meter.state with
  | .measuring m => some m
  | .stopped | .idle => none

/-- The end of the running gate (R72). -/
def Part.gateDue (s : Part) : Option Elapsed := s.measuring.map (·.gateEnds)

/-- The end of the SET's transmission (R108). -/
def Part.setSentAt (s : Part) : Option Elapsed := s.camera.tx.map (fun _ => s.camera.txEnds)

/-- The end of the reply's transmission, SOFT_RESET's among them (R165, R174). -/
def Part.replySentAt (s : Part) : Option Elapsed := s.link.reply.map (fun _ => s.link.replyEnds)

/-- The end of the SOFT_RESET reply's transmission (R165). -/
def Part.softResetAt (s : Part) : Option Elapsed :=
  if s.link.softReset then s.replySentAt else none

/-- The late deadline of a held request (R84, R88). -/
def Request.lateDeadline (q : Request) : Elapsed :=
  q.raisedElapsed + BitVec.ofNat 48 (eighths q.lateLimit)

/-- The source of a held request. -/
def heldSource : HeldSource → Source
  | .external => .external
  | .manual => .manual

/-- The late deadline of the pending EXTERNAL or MANUAL request (R88). -/
def Part.lateEnds (src : HeldSource) (s : Part) : Option Elapsed :=
  (s.arbiter.slot (heldSource src)).map Request.lateDeadline

/-- A WRITING timer expires, with an aborted frame recorded ABORTED whatever WRITING's outcome (R96,
R102). -/
def writingFails (cause : FailCause) (s : Part) : Part :=
  failFrame (if s.op.any (·.aborting) then .aborted else cause) s

/-- The hold of EXPOSING has elapsed (R95). -/
def endHold (s : Part) : Part :=
  match s.op with
  | some o => enterWriting o s
  | none => s

/-- The prefocus time has elapsed (R95). -/
def endFocus (s : Part) : Part :=
  match s.op with
  | some o => enterExposing o s
  | none => s

/-- The brightness of a rehearsal frame (R123). -/
def Operation.synthesized (o : Operation) : Option Int :=
  match o.profile.report, o.comp, o.frame with
  | .report, some c, some f => synthesizedB o.profile.targetB f.eFrame c.cAmb c.aNow
  | _, _, _ => none

/-- The fixed WRITING of a rehearsal frame has ended (R122). -/
def endRehearsalWrite (s : Part) : Part :=
  match s.op with
  | some o => if o.aborting then failFrame .aborted s else takeFrame o.synthesized s
  | none => s

/-- The off phase of an attempt has ended (R114). -/
def endOffPhase (s : Part) : Part :=
  match s.health with
  | .recovering r => beginOnPhase r s
  | .healthy | .faulted => s

/-- The wait of an on phase has ended, under either wake_mode (R114). -/
def endOnPhase (success : Bool) (s : Part) : Part :=
  match s.health with
  | .recovering r => if success then attemptSucceeds r s else attemptFails r s
  | .healthy | .faulted => s

/-! ### Moments of the calendar -/

/-- A calendar moment is reached: the clock comes to it, and the event acts. Nothing happens where no
such moment stands, or where it lies beyond the end of the calendar. -/
def arriveAt (moment : Part → Option Nat) (f : Part → Part) : Part → Part :=
  whileAwake (fun s => match moment s with
    | some t => if t < Config.calendarSpan then f (reachInstant t s) else s
    | none => s)

/-- The wake time that is still to be taken (R85). -/
def Part.wakeMoment (s : Part) : Option Nat :=
  match s.run with
  | some r => if s.serves r && !r.wakeReached then some (s.wakeTime r) else none
  | none => none

/-- The due that is still to be reached (R93). -/
def Part.dueMoment (s : Part) : Option Nat :=
  match s.run with
  | some r => if r.dueReached then none else some r.nextDue
  | none => none

/-- The late limit of a due that no operation holds (R47). -/
def Part.lateMoment (s : Part) : Option Nat :=
  match s.run with
  | some r => if r.state == .active && !s.dueGranted then some r.lateInstant else none
  | none => none

/-- The reclaim moment of a LENT port (R130). -/
def Part.reclaimDue (s : Part) : Option Nat :=
  match s.run with
  | some r => if s.lending.port == .lent && s.serves r then some (s.reclaimMoment r) else none
  | none => none

/-- The window boundary that is next to be taken (R35). -/
def Part.boundaryMoment (s : Part) : Option Nat :=
  nextBoundary s.tables.windows.toList s.time.boundarySeen

/-- The midnight that is next to be taken (R35). -/
def Part.midnightMoment (s : Part) : Option Nat := some (nextSecondOfDay s.time.midnightSeen 0)

/-- The moment at which the done mark ends: the end of the marked occurrence, which for a whole-day
window is the next midnight (R39). -/
def Part.markMoment (s : Part) : Option Nat := s.doneMark.map (·.stop)

/-- The wake time is taken (R75, R85). -/
def takeWake (s : Part) : Part :=
  match s.run with
  | some r => takeWakeTime r s
  | none => s

/-- The due is reached (R93, R131, R132): it ends WAITING, or settles a RECLAIMING port. -/
def takeDue (s : Part) : Part :=
  match s.run with
  | none => s
  | some r =>
    let s := noteNextDue { s with run := some { r with dueReached := true } }
    if s.lending.port = .reclaiming ∧ s.serves r = true then settleReclaim s else endWaiting s

/-- The due is missed at its late limit, for the reason of R47's table. -/
def missDue (s : Part) : Part := afterConsumption (consumeDue (.missed s.missReason) s)

/-- A window boundary is taken (R35). -/
def takeBoundary (s : Part) : Part := reEvaluate (passBoundaries s)

/-- Midnight is taken (R35). -/
def takeMidnight (s : Part) : Part :=
  reEvaluate { s with time := { s.time with midnightSeen := s.now } }

/-- The end of the marked occurrence removes the mark, and the selector re-evaluates (R39, assumption
9). -/
def endMark (s : Part) : Part := reEvaluate { s with doneMark := none }

/-! ### Supply and time base, taken in every supply state (R159) -/

/-- The tail of a step where the part is awake. -/
def settleIfAwake (s : Part) : Part := if s.awake then settle s else s

/-- The pack voltage sense has taken a value. -/
def putPack (mv : Nat) (s : Part) : Part := { s with pins := { s.pins with packMv := mv } }

/-- The supply monitor enters a state with a deadline one ride_through from now (R155). -/
def timeMonitor (state : SupplyState) (s : Part) : Part :=
  { s with monitor := { s.monitor with
      state := state, deadline := s.after (eighths s.tables.supply.rideThrough) } }

/-- The supply monitor enters a state without timing it (R155). -/
def putMonitor (state : SupplyState) (s : Part) : Part :=
  { s with monitor := { s.monitor with state := state } }

/-- The deferred battery reading is taken at the return to SUPPLIED (R141). -/
def takeDeferred (s : Part) : Part :=
  if s.battery.deferred then takePeriodic (dropDeferred s) else s

/-- The pack has fallen to a voltage (R155, R163). -/
def packFalls (mv : Nat) (s : Part) : Part :=
  let s := putPack mv s
  if s.monitor.lost then timeCold mv s
  else match s.monitor.state with
    | .supplied => if mv < dipMv then timeMonitor .riding s else s
    | .restoring => if mv ≤ returnMv then putMonitor .outage s else s
    | .riding | .outage => s

/-- The pack has risen to a voltage (R155, R163). -/
def packRises (mv : Nat) (s : Part) : Part :=
  let s := putPack mv s
  if s.monitor.lost then timeCold mv s
  else match s.monitor.state with
    | .riding => if returnMv < mv then settle (takeDeferred (putMonitor .supplied s)) else s
    | .outage => if returnMv < mv then timeMonitor .restoring s else s
    | .supplied | .restoring => s

/-- A deadline of the supply monitor is reached in the state that it times (R155). -/
def monitorExpires (state : SupplyState) (f : Part → Part) (s : Part) : Part :=
  if s.monitor.lost = false ∧ s.monitor.state = state then f (reachElapsed s.monitor.deadline s)
  else s

/-- The backup cell's report has changed (R155, R163). -/
def cellReports (low : Bool) (s : Part) : Part :=
  let s := { s with monitor := { s.monitor with cellLow := low } }
  if low && !s.monitor.lost && s.monitor.state != .supplied then loseBackup s else s

/-- The withheld periods have run out (R6). -/
def endWithholding (s : Part) : Part := { s with time := { s.time with withheld := 0 } }

/-- The clock is counted past the end of its range (R5). -/
def passCalendarEnd (s : Part) : Part :=
  if s.monitor.lost then s
  else settleIfAwake (passTime (Config.calendarSpan - s.now) s)

end Sys2Proof.Machine
end

