-- ==== Sys2Proof/Machine/HostRequests.lean ====
section
/-! DEFINITION. The meanings of the host requests (chapters 1 to 3, 5 to 8, 10 to 12). Each is the
request's frame placed in the receive buffer of a part in SUPPLIED or RIDING, with the handling and the
reply where the buffer is empty (R174); in OUTAGE and RESTORING the host link is silent (R159). -/

namespace Sys2Proof.Machine

/-- The outcome of a step. -/
abbrev Outcome : Type := Host.Outcome State Fault Refusal

/-- A step that goes on, with the part changed and the queue as it stands. -/
def advance (f : Part → Part) (s : State) : Outcome := .next { s with part := f s.part }

/-- The frame of a request has completed while the host link is alive (R159): with the buffer empty it is
handled at once, by `f`; with a handled frame present it waits its turn; and with a waiting frame too it
is discarded without a reply (R174). -/
def request (code : Byte) (payload : List Byte) (f : Part → Handled) (p : Part) : Part :=
  if p.awake then queueFrame ⟨code, payload⟩ (serve code payload f) p else p

/-- GET_STATUS (R177). -/
def execGetStatus (payload : List Byte) (s : State) : Outcome :=
  advance (request 0x01#8 payload (reportWhole payload statusData)) s

/-- SET_CLOCK (R9, R11, R12). -/
def execSetClock (payload : List Byte) (s : State) : Outcome :=
  advance (request 0x02#8 payload (handleSetClock payload)) s

/-- GET_CLOCK (R10). -/
def execGetClock (payload : List Byte) (s : State) : Outcome :=
  advance (request 0x03#8 payload (reportWhole payload clockData)) s

/-- SET_TRIM (R7). -/
def execSetTrim (payload : List Byte) (s : State) : Outcome :=
  advance (request 0x04#8 payload (handleSetTrim payload)) s

/-- WRITE_PLAN (R15 to R18, R26 to R28). -/
def execWritePlan (payload : List Byte) (s : State) : Outcome :=
  advance (request 0x10#8 payload (handleWrite (checkPlan payload) storePlan)) s

/-- READ_PLAN (R14). -/
def execReadPlan (payload : List Byte) (s : State) : Outcome :=
  advance (request 0x11#8 payload (fun p => reportSlot 16 payload (fun i => putPlan i (p.planAt i)) p)) s

/-- WRITE_PROFILE (R15, R19, R29). -/
def execWriteProfile (payload : List Byte) (s : State) : Outcome :=
  advance (request 0x12#8 payload (handleWrite (checkProfile payload) storeProfile)) s

/-- READ_PROFILE (R21). -/
def execReadProfile (payload : List Byte) (s : State) : Outcome :=
  advance (request 0x13#8 payload (fun p => reportSlot 4 payload (fun i => putProfile i (p.tables.profiles.get i)) p)) s

/-- WRITE_WINDOW (R15, R31). -/
def execWriteWindow (payload : List Byte) (s : State) : Outcome :=
  advance (request 0x14#8 payload (handleWrite (checkWindow payload) storeWindow)) s

/-- READ_WINDOW (R31). -/
def execReadWindow (payload : List Byte) (s : State) : Outcome :=
  advance (request 0x15#8 payload (fun p => reportSlot 8 payload (fun i => putWindow i (p.tables.windows.get i)) p)) s

/-- WRITE_SUPPLY (R15, R24, R25). -/
def execWriteSupply (payload : List Byte) (s : State) : Outcome :=
  advance (request 0x16#8 payload (handleWrite (checkSupply payload) (fun _ => storeSupply))) s

/-- READ_SUPPLY (R14). -/
def execReadSupply (payload : List Byte) (s : State) : Outcome :=
  advance (request 0x17#8 payload (reportWhole payload (fun p => putSupply p.tables.supply))) s

/-- WRITE_GENERAL (R15, R22, R23). -/
def execWriteGeneral (payload : List Byte) (s : State) : Outcome :=
  advance (request 0x18#8 payload (handleWrite (checkGeneral payload) (fun _ => storeGeneral))) s

/-- READ_GENERAL (R14). -/
def execReadGeneral (payload : List Byte) (s : State) : Outcome :=
  advance (request 0x19#8 payload (reportWhole payload (fun p => putGeneral p.tables.general))) s

/-- ARM (R41). -/
def execArm (payload : List Byte) (s : State) : Outcome :=
  advance (request 0x20#8 payload (whenEmpty payload handleArm)) s

/-- DISARM (R41). -/
def execDisarm (payload : List Byte) (s : State) : Outcome :=
  advance (request 0x21#8 payload (whenEmpty payload handleDisarm)) s

/-- RESUME (R42). -/
def execResume (payload : List Byte) (s : State) : Outcome :=
  advance (request 0x22#8 payload (whenEmpty payload handleResume)) s

/-- SHOOT (R87). -/
def execShoot (payload : List Byte) (s : State) : Outcome :=
  advance (request 0x23#8 payload (handleShoot payload)) s

/-- ABORT (R102). -/
def execAbort (payload : List Byte) (s : State) : Outcome :=
  advance (request 0x24#8 payload (whenEmpty payload handleAbort)) s

/-- LEND (R125). -/
def execLend (payload : List Byte) (s : State) : Outcome :=
  advance (request 0x25#8 payload (whenEmpty payload handleLend)) s

/-- RETURN (R133). -/
def execGiveBack (payload : List Byte) (s : State) : Outcome :=
  advance (request 0x26#8 payload (whenEmpty payload handleReturn)) s

/-- CAMERA_RESET (R118). -/
def execCameraReset (payload : List Byte) (s : State) : Outcome :=
  advance (request 0x27#8 payload (whenEmpty payload handleCameraReset)) s

/-- SOFT_RESET: the request, answered before the reset is taken (R165). -/
def execSoftReset (payload : List Byte) (s : State) : Outcome :=
  advance (request 0x28#8 payload (whenEmpty payload handleSoftReset)) s

/-- SET_REHEARSAL (R120). -/
def execSetRehearsal (payload : List Byte) (s : State) : Outcome :=
  advance (request 0x29#8 payload (handleRehearsal payload)) s

/-- READ_FRAMES (R172). -/
def execReadFrames (payload : List Byte) (s : State) : Outcome :=
  advance (request 0x30#8 payload (handleReadFrames payload)) s

/-- GET_NOTICES (R180). -/
def execGetNotices (payload : List Byte) (s : State) : Outcome :=
  advance (request 0x31#8 payload (handleGetNotices payload)) s

/-- MASK_NOTICES (R179). -/
def execMaskNotices (payload : List Byte) (s : State) : Outcome :=
  advance (request 0x32#8 payload (handleMask payload)) s

/-- READ_METER (R82). -/
def execReadMeter (payload : List Byte) (s : State) : Outcome :=
  advance (request 0x33#8 payload (reportWhole payload meterData)) s

/-- A handled frame whose TYPE is no request code (R175). -/
def execUnknownType (code : Byte) (payload : List Byte) (s : State) : Outcome :=
  advance (request code payload (only .unknownType)) s

end Sys2Proof.Machine
end

