-- ==== Sys2Proof/Machine/HostLink.lean ====
section
/-! DEFINITION. The meanings of the host-link events (R165, R173, R174). -/

namespace Sys2Proof.Machine

/-- Bytes arrive that complete a frame at its second CRC byte (R173, R174). -/
def execHostFrameComplete (bytes : List Byte) (s : State) : Outcome :=
  advance (fun p => if p.awake then takeHostBytes bytes p else p) s

/-- More than 20 ms has passed within a frame: it is discarded, and the byte that ends the gap is judged
afresh (R173). -/
def execHostInterByteGap (next : Byte) (s : State) : Outcome :=
  advance (fun p => if p.awake then hostGap next p else p) s

/-- A LEN byte above 250 discards the frame being built (R173). -/
def execHostLenAbove250 (_len : Byte) (s : State) : Outcome :=
  advance (fun p => if p.awake then putHostRx [] p else p) s

/-- The last byte of a reply has been sent (R174). -/
def replyLeaves (p : Part) : Part :=
  if p.awake then match p.replySentAt with
    | some d => replyDone (reachElapsed d p)
    | none => p
  else p

/-- The last byte of a reply has been sent (R174). -/
def execReplySent (s : State) : Outcome :=
  advance replyLeaves s

/-- SOFT_RESET is taken as the last byte of its reply has been sent (R165). -/
def softResetTaken (p : Part) : Part :=
  if p.awake then match p.softResetAt with
    | some d => settle (resetBySoft (reachElapsed d p))
    | none => p
  else p

/-- SOFT_RESET is taken as the last byte of its reply has been sent (R165). -/
def execSoftResetTaken (s : State) : Outcome :=
  advance softResetTaken s

end Sys2Proof.Machine
end

