-- ==== Sys2Proof/Machine/CameraEvents.lean ====
section
/-! DEFINITION. The meanings of the camera-line messages and events (R107 to R111), and of the
camera activity and trigger inputs (R86, R96). -/

namespace Sys2Proof.Machine

/-- READY (R109). -/
def execReady (s : State) : Outcome :=
  advance (cameraMessage takeReady) s

/-- ACK (R110). -/
def execAck (tag : Byte) (s : State) : Outcome :=
  advance (cameraMessage (takeAck tag)) s

/-- NAK (R110). -/
def execNak (tag cause : Byte) (s : State) : Outcome :=
  advance (cameraMessage (takeNak tag cause)) s

/-- REPORT (R111). -/
def execReport (tag b : Byte) (s : State) : Outcome :=
  advance (cameraMessage (takeReport tag b)) s

/-- More than 50 ms has passed within a camera-line frame (R107). -/
def execCameraLineGap (next : Byte) (s : State) : Outcome :=
  advance (fun p => if p.awake then cameraGap next p else p) s

/-- A LEN byte above 250 discards the camera-line frame being built (R107). -/
def execCameraLineLenAbove250 (_len : Byte) (s : State) : Outcome :=
  advance (fun p => if p.awake then putCameraRx [] p else p) s

/-- A camera-line frame completes and is discarded (R107). -/
def execCameraFrameDiscarded (bytes : List Byte) (s : State) : Outcome :=
  advance (fun p => if p.awake then discardBytes bytes p else p) s

/-- The last byte of the SET has been sent (R108). -/
def execSetSent (s : State) : Outcome :=
  advance (expireAt Part.setSentAt (fun _ => setGone)) s

/-- The CAM_ACT input has taken a level; rehearsal ignores it (R96, R121). -/
def camActBecomes (active : Bool) (p : Part) : Part :=
  let p := { p with pins := { p.pins with camAct := active } }
  if p.awake && !p.rehearsal then settle (takeCamAct active p) else p

/-- A change of CAM_ACT (R96). -/
def execCamActChange (active : Bool) (s : State) : Outcome :=
  advance (camActBecomes active) s

/-- The trigger input has taken a level (R86). -/
def triggerBecomes (rising : Bool) (p : Part) : Part :=
  let p := { p with pins := { p.pins with trigger := rising } }
  if p.tables.general.triggerEdge.matches_ rising then whileAwake takeEdge p else p

/-- An edge of the trigger input (R86). -/
def execTriggerEdge (rising : Bool) (s : State) : Outcome :=
  advance (triggerBecomes rising) s

end Sys2Proof.Machine
end

