-- ==== Sys2Proof/Machine/TimeEvents.lean ====
section
/-! DEFINITION. The meanings of the events of the two counters (R8): the end of a withholding and of
the calendar range, the calendar moments of the sequence, and the timers of operations, lends, the meter, the battery supervisor and
recovery. -/

namespace Sys2Proof.Machine

/-- The end of the gate of the reading in progress (R76). -/
def gateEnds (pulses : Nat) (p : Part) : Part :=
  match p.measuring with
  | some m => endGate pulses m p
  | none => p

/-- What the pack voltage and temperature senses show. -/
def putSense (millivolts : Nat) (celsius : Int) (p : Part) : Part :=
  { p with pins := { p.pins with packMv := millivolts, celsius := celsius } }

/-- The withheld oscillator periods have run out (R6). -/
def execWithholdEnd (s : State) : Outcome :=
  advance endWithholding s

/-- The clock passes the end of the calendar range (R5). -/
def execCalendarEnd (s : State) : Outcome :=
  advance passCalendarEnd s

/-- The wake time of next_due (R75, R85). -/
def execWakeTime (s : State) : Outcome :=
  advance (arriveAt Part.wakeMoment takeWake) s

/-- The run's next_due is reached (R93, R131, R132). -/
def execDueReached (s : State) : Outcome :=
  advance (arriveAt Part.dueMoment takeDue) s

/-- A due's late limit passes without a grant (R47). -/
def execDueLateLimit (s : State) : Outcome :=
  advance (arriveAt Part.lateMoment missDue) s

/-- A held request's late deadline (R88). -/
def execRequestLateDeadline (source : HeldSource) (s : State) : Outcome :=
  advance (expireAt (Part.lateEnds source) (fun _ => withdrawHeld (heldSource source) .busy)) s

/-- The reclaim moment of a LENT port (R130). -/
def execReclaimMoment (s : State) : Outcome :=
  advance (arriveAt Part.reclaimDue reclaimTest) s

/-- A window boundary (R35). -/
def execWindowBoundary (s : State) : Outcome :=
  advance (arriveAt Part.boundaryMoment takeBoundary) s

/-- Midnight (R35). -/
def execMidnight (s : State) : Outcome :=
  advance (arriveAt Part.midnightMoment takeMidnight) s

/-- The end moment of a marked occurrence (R39). -/
def execOccurrenceEnd (s : State) : Outcome :=
  advance (arriveAt Part.markMoment endMark) s

/-- wake_lead has elapsed in WAKING (R92). -/
def execWakeLeadElapsed (s : State) : Outcome :=
  advance (expireAt Part.wakeEnds (fun _ => endWaking)) s

/-- ready_timeout has elapsed in WAKING (R92). -/
def execReadyTimeout (s : State) : Outcome :=
  advance (expireAt Part.readyEnds (fun _ => failFrame .noReady)) s

/-- setting_timeout has elapsed (R94). -/
def execSettingTimeout (s : State) : Outcome :=
  advance (expireAt Part.settingEnds (fun _ => failFrame .noAck)) s

/-- The prefocus time has elapsed (R95). -/
def execPrefocusElapsed (s : State) : Outcome :=
  advance (expireAt Part.focusEnds (fun _ => endFocus)) s

/-- The hold of EXPOSING has elapsed (R95). -/
def execHoldElapsed (s : State) : Outcome :=
  advance (expireAt Part.holdEnds (fun _ => endHold)) s

/-- activity_timeout has elapsed without CAM_ACT (R96). -/
def execActivityTimeout (s : State) : Outcome :=
  advance (expireAt Part.activityEnds (fun _ => writingFails .noActivity)) s

/-- The write timer has expired (R96). -/
def execWriteTimeout (s : State) : Outcome :=
  advance (expireAt Part.writeEnds (fun _ => writingFails .writeTimeout)) s

/-- The report wait has expired (R97). -/
def execReportWaitExpiry (s : State) : Outcome :=
  advance (expireAt Part.reportEnds (fun _ => takeFrame none)) s

/-- The burst spacing has elapsed (R99). -/
def execBurstSpacingEnd (s : State) : Outcome :=
  advance (expireAt Part.spacingEnds (fun _ => beginFrame)) s

/-- The fixed WRITING of a rehearsal frame has ended (R122). -/
def execRehearsalWriteEnd (s : State) : Outcome :=
  advance (expireAt Part.rehearsalEnds (fun _ => endRehearsalWrite)) s

/-- The lend's wake period has ended (R128). -/
def execLendWakeEnd (s : State) : Outcome :=
  advance (expireAt Part.lendWakeEnds (fun _ => becomeLent)) s

/-- The lend timer has expired (R135). -/
def execLendTimerExpiry (s : State) : Outcome :=
  advance (expireAt Part.reportedTimer (fun _ => takeBack .limit)) s

/-- The meter's periodic deadline (R74). -/
def execMeterPeriodicDeadline (s : State) : Outcome :=
  advance (expireAt Part.meterDue meterPeriodicDue) s

/-- The running gate ends after `pulses` more pulses (R76). -/
def execGateEnd (pulses : Nat) (s : State) : Outcome :=
  advance (expireAt Part.gateDue (fun _ => gateEnds pulses)) s

/-- The battery supervisor's periodic deadline, with what the sense inputs show then (R141). -/
def execBatteryPeriodicDeadline (millivolts : Nat) (celsius : Int) (s : State) : Outcome :=
  advance (expireAt (fun p => p.battery.deadline)
    (fun d p => periodicDue d (putSense millivolts celsius p))) s

/-- The off phase of a recovery attempt ends (R114). -/
def execRecoveryOffEnd (s : State) : Outcome :=
  advance (expireAt Part.offEnds (fun _ => endOffPhase)) s

/-- ready_timeout has elapsed in an on phase (R114). -/
def execRecoveryReadyTimeout (s : State) : Outcome :=
  advance (expireAt Part.attemptReadyEnds (fun _ => endOnPhase false)) s

/-- wake_lead has elapsed in an on phase under FIXED_TIME (R114). -/
def execRecoveryWakeElapsed (s : State) : Outcome :=
  advance (expireAt Part.attemptWakeEnds (fun _ => endOnPhase true)) s

end Sys2Proof.Machine
end

