-- ==== Sys2Proof/Machine/SupplyEvents.lean ====
section
/-! DEFINITION. The meanings of the supply events, of cold start and of the reset line (chapter 10). -/

namespace Sys2Proof.Machine

/-- The pack voltage has fallen (R155). -/
def execPackFall (millivolts : Nat) (s : State) : Outcome :=
  advance (packFalls millivolts) s

/-- The pack voltage has risen (R155). -/
def execPackRise (millivolts : Nat) (s : State) : Outcome :=
  advance (packRises millivolts) s

/-- The ride-through deadline: outage entry (R155, R157). -/
def execRideThroughDeadline (s : State) : Outcome :=
  advance (monitorExpires .riding outageEntry) s

/-- The restore deadline: the restore completes (R155, R160). -/
def execRestoreDeadline (s : State) : Outcome :=
  advance (monitorExpires .restoring (fun p => settleIfAwake (completeRestore p))) s

/-- The backup cell sense changes (R155, R163). -/
def execBackupCellChange (low : Bool) (s : State) : Outcome :=
  advance (cellReports low) s

/-- Cold start (R163). -/
def execColdStart (s : State) : Outcome :=
  advance takeColdStart s

/-- The reset line becomes active: taken in SUPPLIED and RIDING only (R159, R164). -/
def resetLineActive (p : Part) : Part := if p.awake then settle (resetByLine p) else p

/-- The reset line becomes active (R164). -/
def execResetLine (s : State) : Outcome :=
  advance resetLineActive s

end Sys2Proof.Machine
end

