-- ==== Sys2Proof/Machine/TrimBoundary.lean ====
section
/-! DEFINITION. The events that time brings, with whether their moment has been reached, and the trim
boundary, whose addition reaches every event that falls within it (R6). -/

namespace Sys2Proof.Machine

/-- An event that time brings: whether its moment has been reached, its command, and that command's
meaning. -/
structure Timed where
  reached : Bool
  event : Instr
  take : State → Outcome

/-- A deadline on the elapsed counter as a timed event. -/
def Part.byElapsed (s : Part) (due : Option Elapsed) (event : Instr) (take : State → Outcome) :
    Timed :=
  ⟨due.any s.reached, event, take⟩

/-- A calendar moment as a timed event. -/
def Part.byInstant (s : Part) (moment : Option Nat) (event : Instr) (take : State → Outcome) :
    Timed :=
  ⟨moment.any (fun t => decide (t ≤ s.now) && decide (t < Config.calendarSpan)), event, take⟩

/-- The end of a reply's transmission, by what follows it (R165, R174). -/
def Part.replyEvents (s : Part) : List Timed :=
  [s.byElapsed s.softResetAt .softResetTaken execSoftResetTaken,
    s.byElapsed s.replySentAt .replySent execReplySent]

/-- The timers of the operation (chapter 6). -/
def Part.operationEvents (s : Part) : List Timed :=
  [s.byElapsed s.setSentAt .setSent execSetSent,
    s.byElapsed s.wakeEnds .wakeLeadElapsed execWakeLeadElapsed,
    s.byElapsed s.readyEnds .readyTimeout execReadyTimeout,
    s.byElapsed s.settingEnds .settingTimeout execSettingTimeout,
    s.byElapsed s.focusEnds .prefocusElapsed execPrefocusElapsed,
    s.byElapsed s.holdEnds .holdElapsed execHoldElapsed,
    s.byElapsed s.activityEnds .activityTimeout execActivityTimeout,
    s.byElapsed s.writeEnds .writeTimeout execWriteTimeout,
    s.byElapsed s.reportEnds .reportWaitExpiry execReportWaitExpiry,
    s.byElapsed s.rehearsalEnds .rehearsalWriteEnd execRehearsalWriteEnd,
    s.byElapsed s.spacingEnds .burstSpacingEnd execBurstSpacingEnd]

/-- The timers of recovery, lending, the meter and the battery supervisor. The sensor's pulses and
the sense inputs are the outside world's: a gate that ends here has counted what the counter holds,
and a battery reading samples the pins as they stand. -/
def Part.blockEvents (s : Part) : List Timed :=
  [s.byElapsed s.offEnds .recoveryOffEnd execRecoveryOffEnd,
    s.byElapsed s.attemptReadyEnds .recoveryReadyTimeout execRecoveryReadyTimeout,
    s.byElapsed s.attemptWakeEnds .recoveryWakeElapsed execRecoveryWakeElapsed,
    s.byElapsed s.lendWakeEnds .lendWakeEnd execLendWakeEnd,
    s.byElapsed s.reportedTimer .lendTimerExpiry execLendTimerExpiry,
    s.byElapsed s.gateDue (.gateEnd 0) (execGateEnd 0),
    s.byElapsed s.meterDue .meterPeriodicDeadline execMeterPeriodicDeadline,
    s.byElapsed s.battery.deadline (.batteryPeriodicDeadline s.pins.packMv s.pins.celsius)
      (execBatteryPeriodicDeadline s.pins.packMv s.pins.celsius)]

/-- The calendar moments of the sequence (chapters 3, 6 and 8). -/
def Part.sequenceEvents (s : Part) : List Timed :=
  [s.byInstant s.boundaryMoment .windowBoundary execWindowBoundary,
    s.byInstant s.midnightMoment .midnight execMidnight,
    s.byInstant s.markMoment .occurrenceEnd execOccurrenceEnd,
    s.byInstant s.wakeMoment .wakeTime execWakeTime,
    s.byInstant s.reclaimDue .reclaimMoment execReclaimMoment,
    s.byInstant s.dueMoment .dueReached execDueReached,
    s.byInstant s.lateMoment .dueLateLimit execDueLateLimit,
    s.byElapsed (s.lateEnds .external) (.requestLateDeadline .external)
      (execRequestLateDeadline .external),
    s.byElapsed (s.lateEnds .manual) (.requestLateDeadline .manual)
      (execRequestLateDeadline .manual)]

/-- The deadlines of the supply monitor, taken in every supply state (R155, R159). -/
def Part.supplyEvents (s : Part) : List Timed :=
  [⟨s.monitor.state == .riding && s.reached s.monitor.deadline, .rideThroughDeadline,
      execRideThroughDeadline⟩,
    ⟨s.monitor.state == .restoring && s.reached s.monitor.deadline, .restoreDeadline,
      execRestoreDeadline⟩]

/-- Every event that time may bring now but the trim boundary and the cold start. -/
def Part.ownEvents (s : Part) : List Timed :=
  if s.awake then
    s.supplyEvents ++ s.replyEvents ++ s.operationEvents ++ s.blockEvents ++ s.sequenceEvents
  else s.supplyEvents

/-! ### The trim boundary (R6) -/

/-- The part after a command's meaning. -/
def takenBy (f : State → Outcome) (s : Part) : Part :=
  match f ⟨s, []⟩ with
  | .next t => t.part
  | .fault _ | .refused _ => s

/-- The part as it stood `n` ticks of the elapsed counter ago: what was reached by then is judged in
it. -/
def Part.ago (n : Nat) (s : Part) : Part :=
  { s with time := { s.time with elapsed := s.time.elapsed - BitVec.ofNat 48 n } }

/-- The events whose moment had been reached `ago` ticks before the elapsed count are taken, one after
another, in the order of the list. What an event starts counts from the elapsed count itself and is not
reached again here. -/
def takeReached (ago : Nat) : Nat → Part → Part
  | 0, s => s
  | fuel + 1, s =>
    match (s.ago ago).ownEvents.find? (·.reached) with
    | some e => takeReached ago fuel (takenBy e.take s)
    | none => s

/-- More events than the list holds, and so more than an addition of at most 1,023 ticks can reach. -/
def additionFuel : Nat := 64

/-- A trim of `n` ticks is added at once to both counters (R6). Where it would pass the end of the
range, everything that falls inside the span up to the end is reached first, as if tick by tick, with
the elapsed count at the end of the addition and the clock at the last instant of its range, and then R5
applies (the order of those events, and the clock they see, are the model's choice, assumption 25).
What falls inside the rest of the span is reached at the end of the addition, and is taken by the steps
that follow (assumption 2). -/
def addTrim (n : Nat) (s : Part) : Part :=
  if s.now + n < Config.calendarSpan then passTime n s
  else
    let past := s.now + n - Config.calendarSpan
    let s := { s with time := { s.time with
      instant := Config.calendarSpan - 1
      elapsed := s.time.elapsed + BitVec.ofNat 48 n
      trimTaken := false } }
    let s := takeReached (past + 1) additionFuel s
    calendarEnds { s with time := { s.time with instant := past } }

/-- The trim is applied at a trim boundary (R6): a trim below 0 withholds that many periods, and one of
0 or more withholds none and is added at once. -/
def applyTrim (s : Part) : Part :=
  let s := { s with time :=
    { s.time with trimTaken := true, withheld := (-s.time.trim).toNat } }
  if 0 ≤ s.time.trim then addTrim s.time.trim.toNat s else s

/-- The next trim boundary is reached and the trim applied (R6). -/
def takeTrimBoundary (s : Part) : Part :=
  if s.monitor.lost then s
  else settleIfAwake (applyTrim (passTime s.time.toBoundary s))

/-- The elapsed counter reaches a trim boundary (R6). -/
def execTrimBoundary (s : State) : Outcome :=
  advance takeTrimBoundary s

end Sys2Proof.Machine
end

