-- ==== Sys2Proof/Machine/Dispatch.lean ====
section
/-! DEFINITION. The meaning of every command, one arm per constructor. -/

namespace Sys2Proof.Machine

def exec (i : Instr) (s : State) : Host.Outcome State Fault Refusal :=
  match i with
  | .getStatus payload => Sys2Proof.Machine.execGetStatus payload s
  | .setClock payload => Sys2Proof.Machine.execSetClock payload s
  | .getClock payload => Sys2Proof.Machine.execGetClock payload s
  | .setTrim payload => Sys2Proof.Machine.execSetTrim payload s
  | .writePlan payload => Sys2Proof.Machine.execWritePlan payload s
  | .readPlan payload => Sys2Proof.Machine.execReadPlan payload s
  | .writeProfile payload => Sys2Proof.Machine.execWriteProfile payload s
  | .readProfile payload => Sys2Proof.Machine.execReadProfile payload s
  | .writeWindow payload => Sys2Proof.Machine.execWriteWindow payload s
  | .readWindow payload => Sys2Proof.Machine.execReadWindow payload s
  | .writeSupply payload => Sys2Proof.Machine.execWriteSupply payload s
  | .readSupply payload => Sys2Proof.Machine.execReadSupply payload s
  | .writeGeneral payload => Sys2Proof.Machine.execWriteGeneral payload s
  | .readGeneral payload => Sys2Proof.Machine.execReadGeneral payload s
  | .arm payload => Sys2Proof.Machine.execArm payload s
  | .disarm payload => Sys2Proof.Machine.execDisarm payload s
  | .resume payload => Sys2Proof.Machine.execResume payload s
  | .shoot payload => Sys2Proof.Machine.execShoot payload s
  | .abort payload => Sys2Proof.Machine.execAbort payload s
  | .lend payload => Sys2Proof.Machine.execLend payload s
  | .giveBack payload => Sys2Proof.Machine.execGiveBack payload s
  | .cameraReset payload => Sys2Proof.Machine.execCameraReset payload s
  | .softReset payload => Sys2Proof.Machine.execSoftReset payload s
  | .softResetTaken => Sys2Proof.Machine.execSoftResetTaken s
  | .setRehearsal payload => Sys2Proof.Machine.execSetRehearsal payload s
  | .readFrames payload => Sys2Proof.Machine.execReadFrames payload s
  | .getNotices payload => Sys2Proof.Machine.execGetNotices payload s
  | .maskNotices payload => Sys2Proof.Machine.execMaskNotices payload s
  | .readMeter payload => Sys2Proof.Machine.execReadMeter payload s
  | .unknownType code payload => Sys2Proof.Machine.execUnknownType code payload s
  | .hostFrameComplete bytes => Sys2Proof.Machine.execHostFrameComplete bytes s
  | .hostInterByteGap next => Sys2Proof.Machine.execHostInterByteGap next s
  | .replySent => Sys2Proof.Machine.execReplySent s
  | .ready => Sys2Proof.Machine.execReady s
  | .ack tag => Sys2Proof.Machine.execAck tag s
  | .nak tag cause => Sys2Proof.Machine.execNak tag cause s
  | .report tag b => Sys2Proof.Machine.execReport tag b s
  | .cameraLineGap next => Sys2Proof.Machine.execCameraLineGap next s
  | .setSent => Sys2Proof.Machine.execSetSent s
  | .camActChange active => Sys2Proof.Machine.execCamActChange active s
  | .triggerEdge rising => Sys2Proof.Machine.execTriggerEdge rising s
  | .trimBoundary => Sys2Proof.Machine.execTrimBoundary s
  | .withholdEnd => Sys2Proof.Machine.execWithholdEnd s
  | .calendarEnd => Sys2Proof.Machine.execCalendarEnd s
  | .wakeTime => Sys2Proof.Machine.execWakeTime s
  | .dueReached => Sys2Proof.Machine.execDueReached s
  | .dueLateLimit => Sys2Proof.Machine.execDueLateLimit s
  | .requestLateDeadline source => Sys2Proof.Machine.execRequestLateDeadline source s
  | .reclaimMoment => Sys2Proof.Machine.execReclaimMoment s
  | .windowBoundary => Sys2Proof.Machine.execWindowBoundary s
  | .midnight => Sys2Proof.Machine.execMidnight s
  | .occurrenceEnd => Sys2Proof.Machine.execOccurrenceEnd s
  | .wakeLeadElapsed => Sys2Proof.Machine.execWakeLeadElapsed s
  | .readyTimeout => Sys2Proof.Machine.execReadyTimeout s
  | .settingTimeout => Sys2Proof.Machine.execSettingTimeout s
  | .prefocusElapsed => Sys2Proof.Machine.execPrefocusElapsed s
  | .holdElapsed => Sys2Proof.Machine.execHoldElapsed s
  | .activityTimeout => Sys2Proof.Machine.execActivityTimeout s
  | .writeTimeout => Sys2Proof.Machine.execWriteTimeout s
  | .reportWaitExpiry => Sys2Proof.Machine.execReportWaitExpiry s
  | .burstSpacingEnd => Sys2Proof.Machine.execBurstSpacingEnd s
  | .rehearsalWriteEnd => Sys2Proof.Machine.execRehearsalWriteEnd s
  | .lendWakeEnd => Sys2Proof.Machine.execLendWakeEnd s
  | .lendTimerExpiry => Sys2Proof.Machine.execLendTimerExpiry s
  | .meterPeriodicDeadline => Sys2Proof.Machine.execMeterPeriodicDeadline s
  | .gateEnd pulses => Sys2Proof.Machine.execGateEnd pulses s
  | .batteryPeriodicDeadline millivolts celsius => Sys2Proof.Machine.execBatteryPeriodicDeadline millivolts celsius s
  | .recoveryOffEnd => Sys2Proof.Machine.execRecoveryOffEnd s
  | .recoveryReadyTimeout => Sys2Proof.Machine.execRecoveryReadyTimeout s
  | .recoveryWakeElapsed => Sys2Proof.Machine.execRecoveryWakeElapsed s
  | .packFall millivolts => Sys2Proof.Machine.execPackFall millivolts s
  | .packRise millivolts => Sys2Proof.Machine.execPackRise millivolts s
  | .rideThroughDeadline => Sys2Proof.Machine.execRideThroughDeadline s
  | .restoreDeadline => Sys2Proof.Machine.execRestoreDeadline s
  | .backupCellChange low => Sys2Proof.Machine.execBackupCellChange low s
  | .coldStart => Sys2Proof.Machine.execColdStart s
  | .resetLine => Sys2Proof.Machine.execResetLine s
  | .hostLenAbove250 len => Sys2Proof.Machine.execHostLenAbove250 len s
  | .cameraLineLenAbove250 len => Sys2Proof.Machine.execCameraLineLenAbove250 len s
  | .cameraFrameDiscarded bytes => Sys2Proof.Machine.execCameraFrameDiscarded bytes s

end Sys2Proof.Machine
end

