-- ==== Sys2Proof/Machine/Timer.lean ====
section
/-! DEFINITION. What the part does by itself while no command waits: the event whose moment has been
reached is taken, one at a time, and otherwise one oscillator period passes (assumption 2). -/

namespace Sys2Proof.Machine

/-- The trim boundary as the event at the head of the list, where it has been reached (R6), and behind it
every other event that time may bring now, in the order in which the model takes those reached together
(assumption 2). -/
def Part.timedEvents (s : Part) : List Timed :=
  if s.monitor.lost then [⟨s.monitor.coldIn == some 0, .coldStart, execColdStart⟩]
  else ⟨decide (s.time.toBoundary = 0), .trimBoundary, execTrimBoundary⟩ :: s.ownEvents

/-- The event whose moment has been reached, where there is one. -/
def Part.nextEvent (s : Part) : Option Instr := (s.timedEvents.find? (·.reached)).map (·.event)

/-- One oscillator period: withheld by the trim, or counted on both counters (R1, R6). With the backup
domain lost both counters stand still, and the period counts toward the cold start where the pack has
returned (R163). -/
def tick (s : Part) : Part :=
  if s.monitor.lost then { s with monitor := { s.monitor with coldIn := s.monitor.coldIn.map (· - 1) } }
  else if 0 < s.time.withheld then
    { s with time := { s.time with withheld := s.time.withheld - 1 } }
  else settleIfAwake (passTime 1 s)

/-- What the part does while no command waits (assumption 2). -/
def idle (s : State) : Outcome :=
  match s.part.nextEvent with
  | some e => exec e s
  | none => advance tick s

end Sys2Proof.Machine
end

