-- ==== Sys2Proof/Machine/Step.lean ====
section
/-! DEFINITION. One step of the machine, and the command that a table word stands for put in front. -/

namespace Sys2Proof.Machine

/-- One step: the command at the front of the queue is taken, or the part runs by itself where none
waits (assumption 2). -/
def step (s : State) : Host.Outcome State Fault Refusal :=
  match s.pending with
  | c :: rest => exec c { s with pending := rest }
  | [] => idle s

/-- The command that a table word spells, put at the front of the queue. The table gives no row any
bits, so no word spells one and the state is unchanged (assumption 21). -/
def State.withFetchWord (s : State) (nbits w : Nat) : State :=
  match decodeTableWord nbits w with
  | some c => { s with pending := c :: s.pending }
  | none => s

end Sys2Proof.Machine
end

