-- ==== Sys2Proof/Safety.lean ====
section
/-! DEFINITION. What a safe state of the ZT260 is, in the terms the statements use: the laws of the
device that the chapters state (R89, R95, R124, R166, R168, R178), each as a decidable property of
the part, and the ways in which a journal may change; and, beside them, what the statements spell out
of operations: the checks of the write requests, the fields of what they store, what a frame's end
records, and the bytes of replies. -/

namespace Sys2Proof.Machine

/-! ### The journal (R166, R167) -/

/-- Frame numbers that follow one another from a first one. -/
def numberedFrom : Nat → List FrameRecord → Bool
  | _, [] => true
  | n, r :: rs => r.number == n && numberedFrom (n + 1) rs

/-- Only the newest record may be open, and an open one is a MISSED record of source SCHEDULE. -/
def onlyNewestOpen : List FrameRecord → Bool
  | [] => true
  | [r] => !r.flags.isOpen || (r.outcome == .missed && r.source == .schedule)
  | r :: rs => !r.flags.isOpen && onlyNewestOpen rs

/-- The law of the device on the journal (R166): at most 256 records, consecutive numbers that end
just below the next frame number, and no open record but the newest. -/
def Journal.Lawful (j : Journal) : Prop :=
  j.records.length ≤ journalCapacity ∧ j.records.length < j.nextNumber ∧
  j.nextNumber ≤ lastFrameNumber + 1 ∧
  numberedFrom (j.nextNumber - j.records.length) j.records = true ∧
  onlyNewestOpen j.records = true

/-- How a journal may change while the backup domain lives: closed records are appended, misses of a
run are recorded, and the open record may be closed (R36, R48, R88, R100, R158). -/
inductive Journal.Grows : Journal → Journal → Prop where
  | same (j : Journal) : Journal.Grows j j
  | append {j k : Journal} (rec : FrameRecord) (closed : rec.flags.isOpen = false) :
      Journal.Grows j k → Journal.Grows j (k.append rec)
  | miss {j k : Journal} (r : Run) (due : Nat) (reason : MissReason) :
      Journal.Grows j k → Journal.Grows j (k.miss r due reason)
  | close {j k : Journal} : Journal.Grows j k → Journal.Grows j k.close

/-! ### The notice set (R178) -/

/-- The law of the device on notices (R178): at most one entry for each kind, each with a count of
1..255. -/
def noticesLawful (ns : List Notice) : Prop :=
  (ns.map (·.kind)).Nodup ∧ ∀ n ∈ ns, 1 ≤ n.count ∧ n.count ≤ 255

/-! ### The camera port (R89, R124) -/

/-- Whether the bus switch stands on the host side in a port state (R124). -/
def PortState.hostSide : PortState → Bool
  | .owned | .yielding => false
  | .lent | .reclaiming => true

/-- The port law: the bus switch and the lend timer follow the port state, a wake period runs only in
YIELDING and with no operation, and an operation exists only while the port is OWNED or YIELDING
(R89, R124, R128, R129). -/
def Part.PortLawful (s : Part) : Prop :=
  s.lending.busHost = s.lending.port.hostSide ∧
  s.lending.timer.isSome = s.lending.port.hostSide ∧
  (s.lending.wake.isSome = true → s.lending.port = .yielding ∧ s.op = none) ∧
  (s.op.isSome = true → s.lending.port.hostSide = false)

/-! ### The camera's discrete lines (R95, R121) -/

/-- Whether an operation stands in EXPOSING. -/
def Operation.isExposing (o : Operation) : Bool :=
  match o.phase with
  | .exposing _ => true
  | .waking _ | .waiting | .setting _ | .focusing _ | .writing _ | .spacing _ => false

/-- Whether an operation stands in FOCUSING or EXPOSING. -/
def Operation.holdsFocus (o : Operation) : Bool :=
  match o.phase with
  | .focusing _ | .exposing _ => true
  | .waking _ | .waiting | .setting _ | .writing _ | .spacing _ => false

/-- The line law: SHUTTER is active only in EXPOSING and FOCUS only in FOCUSING or EXPOSING, neither in
rehearsal; an operation runs wholly in rehearsal or wholly out of it (R95, R120, R121), and none
exists while the part is not awake (R157); and no SET is sent in rehearsal or while the part is not
awake (R108, R121). -/
def Part.LinesLawful (s : Part) : Prop :=
  (s.camera.shutter = true → s.op.any Operation.isExposing = true ∧ s.rehearsal = false) ∧
  (s.camera.focus = true → s.op.any Operation.holdsFocus = true ∧ s.rehearsal = false) ∧
  (∀ o ∈ s.op, o.rehearsal = s.rehearsal) ∧
  (s.awake = false → s.op = none) ∧
  (s.rehearsal = true ∨ s.awake = false → s.camera.tx = none)

/-! ### Readings (R79, R97, R168) -/

/-- An ambient reading within −160..+160, or none. -/
def ambientInRange (a : Option Int) : Prop := ∀ v ∈ a, -160 ≤ v ∧ v ≤ 160

/-- A brightness within −64..+64, or none. -/
def brightnessInRange (b : Option Int) : Prop := ∀ v ∈ b, -64 ≤ v ∧ v ≤ 64

/-- The law of the device on readings: every A that is held lies in −160..+160 and every B in −64..+64,
in the meter, in the run's A_prev and B_last, in the operation and in every frame record (R44, R65,
R79, R97, R111, R123, R168). -/
def Part.ReadingsLawful (s : Part) : Prop :=
  ambientInRange (s.meter.latest.map (·.a)) ∧
  (∀ r ∈ s.run, ambientInRange r.aPrev ∧ brightnessInRange (r.bLast.map (·.1))) ∧
  (∀ o ∈ s.op, brightnessInRange o.heldB ∧ brightnessInRange (o.newest.bind (·.1)) ∧
    ambientInRange (o.comp.bind (·.aNow))) ∧
  ∀ r ∈ s.journal.records, brightnessInRange r.b ∧ ambientInRange r.a

/-! ### Stored records (R17 to R19, R22, R24, R31) -/

/-- A plan within the ranges of its table, with its list and its target as R17 and R18 call for. -/
def Plan.Lawful (slot : Fin 16) (p : Plan) : Prop :=
  (8 ≤ p.intervalStart ∧ p.intervalStart ≤ 691200) ∧ (8 ≤ p.intervalEnd ∧ p.intervalEnd ≤ 691200) ∧
  p.rampFrames ≤ 65535 ∧ p.frameLimit ≤ 16777215 ∧ (-96 ≤ p.eInit ∧ p.eInit ≤ 128) ∧
  (-256 ≤ p.cAmb ∧ p.cAmb ≤ 255) ∧ p.gainK ≤ 16 ∧ p.deadband ≤ 32 ∧
  (1 ≤ p.stepLimit ∧ p.stepLimit ≤ 24) ∧ (∀ o ∈ p.brackets, -48 ≤ o ∧ o ≤ 48) ∧
  (p.bracketMode = .single → p.brackets = []) ∧
  (p.bracketMode ≠ .single → 1 ≤ p.brackets.length ∧ p.brackets.length ≤ 7) ∧
  p.chainTarget.isSome = p.endAction.chains ∧ p.chainTarget ≠ some slot

/-- A profile within the ranges of its table and the relations of R19. -/
def Profile.Lawful (p : Profile) : Prop :=
  (-96 ≤ p.sMin ∧ p.sMin ≤ p.sKnee ∧ p.sKnee ≤ p.sMax ∧ p.sMax ≤ 64) ∧
  (-96 ≤ p.sBulb ∧ p.sBulb ≤ 65) ∧ (p.gKnee ≤ p.gMax ∧ p.gMax ≤ 64) ∧
  (-32 ≤ p.targetB ∧ p.targetB ≤ 32) ∧ p.wakeLead ≤ 240 ∧
  (8 ≤ p.readyTimeout ∧ p.readyTimeout ≤ 240) ∧ (328 ≤ p.settingTimeout ∧ p.settingTimeout ≤ 65535) ∧
  p.prefocus ≤ 65535 ∧ (33 ≤ p.shutterPulse ∧ p.shutterPulse ≤ 65535) ∧
  (328 ≤ p.activityTimeout ∧ p.activityTimeout ≤ 65535) ∧
  (8 ≤ p.writeTimeout ∧ p.writeTimeout ≤ 2400) ∧ (1 ≤ p.reportWait ∧ p.reportWait ≤ 80) ∧
  p.reserve ≤ 2400 ∧ p.keepWarmLimit ≤ 4800 ∧ (1 ≤ p.burstSpacing ∧ p.burstSpacing ≤ 240) ∧
  (1 ≤ p.faultLimit ∧ p.faultLimit ≤ 15) ∧ (8 ≤ p.recoveryOff ∧ p.recoveryOff ≤ 480) ∧
  (1 ≤ p.recoveryAttempts ∧ p.recoveryAttempts ≤ 7) ∧
  (p.lineMode = .noSettings → p.report = .noReport)

/-- A window within the ranges of its table (R31). -/
def Window.Lawful (w : Window) : Prop :=
  w.startSod ≤ 86399 ∧ w.endSod ≤ 86399 ∧
  (∀ d ∈ w.dates, d.1 ≤ 36524 ∧ d.2 ≤ 36524) ∧
  (match w.gate with
    | .noGate => True
    | .above x => -160 ≤ x ∧ x ≤ 160
    | .below x => -160 ≤ x ∧ x ≤ 160)

/-- General settings within the ranges of their table (R22). -/
def General.Lawful (g : General) : Prop :=
  g.levelSchedule ≤ 2 ∧ g.levelExternal ≤ 2 ∧ g.levelManual ≤ 2 ∧ g.lateLimit ≤ 240 ∧
  g.holdoff ≤ 65535 ∧ (64 ≤ g.meterPeriod ∧ g.meterPeriod ≤ 4800) ∧
  (-128 ≤ g.cCal ∧ g.cCal ≤ 127) ∧ (1 ≤ g.lendLimit ∧ g.lendLimit ≤ 240) ∧
  (8 ≤ g.lendMin ∧ g.lendMin ≤ 4800) ∧ (8 ≤ g.reclaimLead ∧ g.reclaimLead ≤ 2400)

/-- An interval factor is 1, 2, 4 or 8 (R24). -/
def lawfulFactor (n : Nat) : Prop := n = 1 ∨ n = 2 ∨ n = 4 ∨ n = 8

/-- Supply settings within the ranges of their table, with the thresholds strictly descending
(R24). -/
def Supply.Lawful (g : Supply) : Prop :=
  (4500 ≤ g.thrCritical ∧ g.thrCritical < g.thrScarce ∧ g.thrScarce < g.thrThrift ∧
    g.thrThrift ≤ 16000) ∧
  g.hysteresis ≤ 1000 ∧ (1 ≤ g.confirm ∧ g.confirm ≤ 8) ∧ g.coldSlope ≤ 20 ∧
  g.sagAllowance ≤ 1000 ∧ (8 ≤ g.checkPeriod ∧ g.checkPeriod ≤ 4800) ∧
  lawfulFactor g.fThrift ∧ lawfulFactor g.fScarce ∧
  (1 ≤ g.rideThrough ∧ g.rideThrough ≤ 16) ∧ (1 ≤ g.warmWindow ∧ g.warmWindow ≤ 1440)

/-- The record law: whatever is stored lies in the ranges of its table and keeps its relations. -/
def Tables.Lawful (t : Tables) : Prop :=
  (∀ i, ∀ p ∈ t.plans.get i, p.Lawful i) ∧ (∀ i, (t.profiles.get i).Lawful) ∧
  (∀ i, (t.windows.get i).Lawful) ∧ t.general.Lawful ∧ t.supply.Lawful

/-! ### The time base (R3, R6, R7) -/

/-- The calendar clock stands within its range, the trim within −1,023..+1,023, and no more periods are
withheld than a trim can withhold (R3, R6, R7). -/
def TimeBase.Lawful (t : TimeBase) : Prop :=
  t.instant < Config.calendarSpan ∧ (-1023 ≤ t.trim ∧ t.trim ≤ 1023) ∧ t.withheld ≤ 1023

/-! ### What an operation of the sequence leaves alone -/

/-- The entry of a kind, where the set holds one. -/
def entryOf (kind : NoticeKind) (ns : List Notice) : Option Notice := ns.find? (·.kind == kind)

/-- The kinds that the tail of a step never raises: they come from the end of the calendar, from
recovery, from a restore and from cold start alone. -/
def NoticeKind.rare : NoticeKind → Bool
  | .cameraFault | .cameraRecovered | .restoredWarm | .restoredPaused | .coldStart
  | .clockNeeded => true
  | .planDone | .runStarted | .runEnded | .cameraWanted | .cameraLent | .cameraTaken
  | .levelChanged | .shootDone => false

/-- The frame of the operations of the sequence, the capture engine, lending and the battery
supervisor. With `judges` false, the consecutive failure count and camera health stand as well. -/
structure Kept (judges : Bool) (s t : Part) : Prop where
  time : t.time = s.time
  tables : t.tables = s.tables
  gates : t.gates = s.gates
  engine : t.engine = s.engine
  rehearsal : t.rehearsal = s.rehearsal
  monitor : t.monitor = s.monitor
  link : t.link = s.link
  pins : t.pins = s.pins
  hold : t.hold = s.hold
  journal : s.journal.Grows t.journal
  notices : noticesLawful s.notices → noticesLawful t.notices
  rare : ∀ k : NoticeKind, k.rare = true → entryOf k t.notices = entryOf k s.notices
  health : judges = false → t.health = s.health ∧ t.failCount = s.failCount
  meter : t.meter = { s.meter with state := t.meter.state, count := t.meter.count }
  measuring : s.meter.state ≠ .idle → t.meter = s.meter
  cadence : t.battery.deadline = s.battery.deadline ∧ t.battery.lastDue = s.battery.lastDue ∧
    t.battery.deferred = s.battery.deferred

/-- The part changed, and the queue as it stands. -/
def State.put (s : State) (p : Part) : State := { s with part := p }

/-! ### Parts in which little goes on -/

/-- No operation, no request held from outside and no lend. -/
def Part.Still (s : Part) : Prop :=
  s.op = none ∧ s.arbiter.external = none ∧ s.arbiter.manual = none ∧ s.lending.port = .owned

/-- No run, no request pending and no lend; an operation may be in flight. -/
def Part.Alone (s : Part) : Prop :=
  s.run = none ∧ s.arbiter.schedule = none ∧ s.arbiter.external = none ∧ s.arbiter.manual = none ∧
  s.lending.port = .owned

/-! ### Computations (R54 to R59, R65 to R67) -/

/-- What a computation makes of an operation with profile values `prof`: the fit `f` of its frames, a
base within the fit's limits, and the setting of every frame at its offset (R57 to R59, R67 to R69). -/
def Computation.Fits (c : Computation) (prof : Profile) (f : Fit) (offsets : List Int) : Prop :=
  c.tight = f.tight ∧ c.frames = offsets.map (frameSetting prof f c.eBase)

/-- The computation `c` that operation `o` makes for its due, becoming `q`, from the run `r`, its stored
plan `p` and the part `s` at that moment, with `n` the run after it: ROTATE takes the entry at the ring
index and BURST every entry, or entry 0 where the grant found THRIFT or SCARCE; I_fit is the run's
current effective interval; and the base update reads the latest meter reading and the run (R51, R54,
R56, R60, R65). -/
def DueComputation (o : Operation) (r : Run) (p : Plan) (s : Part) (q : Operation)
    (c : Computation) (n : Run) : Prop :=
  let cut : Bool := p.bracketMode == .burst && (o.level == .thrift || o.level == .scarce)
  let offsets : List Int :=
    match p.bracketMode with
    | .single => [0]
    | .rotate => [p.brackets.getD r.ring 0]
    | .burst => if cut then [p.brackets.getD 0 0] else p.brackets
  let interval := min (intervalAt p r.k * s.factor) 691200
  let e := o.profile.effective
  let f := fitOf (fitBudget interval o.profile.reserve o.profile.burstSpacing offsets.length) e
  let aNow := s.meter.latest.map (·.a)
  let u := baseUpdate p o.profile.targetB e.sMin (f.cap + e.gMax) r.eBase r.aPrev aNow r.bLast
    s.lastBase
  q.reduced = cut ∧ c.aNow = aNow ∧ c.cAmb = p.cAmb ∧ c.eBase = u.eBase ∧
  c.rateLimited = u.rateLimited ∧ c.high = u.high ∧ c.low = u.low ∧
  c.feedbackUsed = u.feedbackUsed ∧ c.Fits o.profile f offsets ∧
  n.eBase = some u.eBase ∧ n.aPrev = u.aPrev

/-- The computation `c` that an EXTERNAL or MANUAL operation `o` makes under its plan `p` in the part
`s`: I_fit is the current effective interval of a run whose plan is the named one, and otherwise the
plan's interval_start stretched by the factor (an EMPTY slot of such a run: assumption 16); E_op is an
explicit E, else the E_base of such a run, else the plan's starting value, clamped; neither
RATE_LIMITED nor FEEDBACK_USED is set (R55, R56, R66). -/
def HeldComputation (o : Operation) (p : Plan) (s : Part) (c : Computation) : Prop :=
  let offsets : List Int :=
    match p.bracketMode with
    | .single => [0]
    | .rotate => [p.brackets.getD 0 0]
    | .burst => if o.reduced then [p.brackets.getD 0 0] else p.brackets
  let named := s.run.filter (fun r => r.plan == o.request.plan)
  let interval := (named.bind (fun r =>
    (s.planAt r.plan).map (fun stored => intervalAt stored r.k))).getD p.intervalStart
  let e := o.profile.effective
  let f := fitOf (fitBudget (min (interval * s.factor) 691200) o.profile.reserve
    o.profile.burstSpacing offsets.length) e
  let aNow := s.meter.latest.map (·.a)
  let base := o.request.explicitE.getD
    ((named.bind (·.eBase)).getD (startValue p aNow s.lastBase))
  c.aNow = aNow ∧ c.cAmb = p.cAmb ∧ c.eBase = max e.sMin (min (f.cap + e.gMax) base) ∧
  (c.high = true ↔ f.cap + e.gMax < base) ∧ (c.low = true ↔ base < e.sMin) ∧
  c.rateLimited = false ∧ c.feedbackUsed = false ∧ c.Fits o.profile f offsets

/-! ### The ends of a frame (R98 to R101, R112, R113) -/

/-- The record that the end of a frame of operation `o` appends, with its outcome, its B and its cause,
at instant `now` and with `merged` edges merged (R100, R168, R169): due or raise time, start time, the
exposure fields, A and flags of the computation where it had been made, level and V of the grant. -/
structure EndRecord (o : Operation) (outcome : FrameOutcome) (b : Option Int)
    (cause : Option FailCause) (now merged : Nat) (rec : FrameRecord) : Prop where
  kind : rec.outcome = outcome ∧ rec.source = o.source ∧ rec.plan = o.request.plan
  window : rec.window = o.window
  due : rec.due =
    match o.request.due with
    | some due => due
    | none => o.request.raisedAt
  startAt : rec.startAt =
    match o.startAt with
    | some entered => some entered
    | none => some now
  computed : ∀ c f, o.comp = some c → c.frames[o.index]? = some f →
    rec.exposure = some ⟨f.s, f.g, f.offset, c.eBase, if f.bulb = true then f.hold else 0⟩ ∧
    rec.a = c.aNow ∧
    rec.flags =
      { tight := c.tight, rateLimited := c.rateLimited, high := c.high || f.high
        low := c.low || f.low, reduced := o.reduced, rehearsal := o.rehearsal
        feedbackUsed := c.feedbackUsed, isOpen := false }
  uncomputed : o.comp = none → rec.exposure = none ∧ rec.a = none ∧
    rec.flags =
      { tight := false, rateLimited := false, high := false, low := false, reduced := o.reduced
        rehearsal := o.rehearsal, feedbackUsed := false, isOpen := false }
  readings : rec.b = b ∧ rec.level = some o.level ∧ rec.volts = o.volts
  merged : rec.merged = if o.source = .external then some merged else none
  cause : rec.cause = cause ∧ rec.reason = none ∧ rec.missCount = 0 ∧ rec.lastDue = none

/-- What the end of a frame by a failure leaves: its record first in the journal, the count and the
health that R112 and R113 give, and, with nothing else going on, no operation and no line active. -/
structure FrameFails (cause : FailCause) (o : Operation) (s t : Part) : Prop where
  kept : Kept true s t
  record : (s.journal.append (o.record .failed none (some cause) s.now s.arbiter.merged)).Grows
    t.journal
  count : t.failCount =
    if cause.counted && !o.rehearsal then min (s.failCount + 1) o.profile.faultLimit
    else s.failCount
  health : t.health =
    if cause.counted = true ∧ o.rehearsal = false ∧ t.failCount = o.profile.faultLimit then
      .recovering
        { attempt := 1, phase := .off (s.after (4096 * o.profile.recoveryOff))
          off := o.profile.recoveryOff, attempts := o.profile.recoveryAttempts
          wakeMode := o.profile.wakeMode, wakeLead := o.profile.wakeLead
          readyTimeout := o.profile.readyTimeout, plan := o.request.plan }
    else s.health
  alone : s.Alone → t.op = none ∧ t.camera.focus = false ∧ t.camera.shutter = false ∧
    t.holders.operation = false ∧ t.lending = { s.lending with allowed := true }

/-- What the end of a frame as TAKEN leaves: its record first in the journal, the count 0 outside
rehearsal, health as it was, and the spacing before a further frame or, with nothing else going on,
no operation. -/
structure FrameTaken (b : Option Int) (o : Operation) (s t : Part) : Prop where
  kept : Kept true s t
  record : (s.journal.append (o.record .taken b none s.now s.arbiter.merged)).Grows t.journal
  count : t.failCount = if o.rehearsal then s.failCount else 0
  health : t.health = s.health
  spacing : o.index + 1 < ((o.comp.map (·.frames.length)).getD 0) →
    s.lending.port.hostSide = false → o.askReading = false →
    ∃ q, t.op = some q ∧ q.index = o.index + 1 ∧ q.source = o.source ∧ q.comp = o.comp ∧
      q.phase = .spacing (s.after (eighths o.profile.burstSpacing)) ∧
      t.camera.focus = false ∧ t.camera.shutter = false
  alone : ((o.comp.map (·.frames.length)).getD 0) ≤ o.index + 1 → s.Alone →
    t.op = none ∧ t.camera.focus = false ∧ t.camera.shutter = false ∧
    t.holders.operation = false ∧ t.lending = { s.lending with allowed := true }

/-- Whether an operation stands in WAKING. -/
def Phase.isWaking : Phase → Bool
  | .waking _ => true
  | .waiting | .setting _ | .focusing _ | .exposing _ | .writing _ | .spacing _ => false

/-- Whether a phase belongs to a frame that has begun: SETTING, FOCUSING, EXPOSING or WRITING (R91). -/
def Phase.isUnderway : Phase → Bool
  | .setting _ | .focusing _ | .exposing _ | .writing _ => true
  | .waking _ | .waiting | .spacing _ => false

/-! ### Replies (R177, R183) -/

/-- The reply data of GET_STATUS, field by field as section 12.4's table lays them out: every field at
its offset, a presence bit for each field that may be absent, and the bytes of an absent field 0, but
for the window of an absent run (0xFF, assumption 24) and an absent frame number (0xFFFFFFFF). -/
structure StatusFields (s : Part) (d : List Byte) : Prop where
  length : d.length = 49
  states : slice 0 4 d =
    [match s.engine with
      | .disarmed => 0#8
      | .armed => 1#8
      | .paused => 2#8
      | .suspended => 3#8,
     if s.time.clock = .set then 1#8 else 0#8,
     match s.lending.port with
      | .owned => 0#8
      | .yielding => 1#8
      | .lent => 2#8
      | .reclaiming => 3#8,
     match s.health with
      | .healthy => 0#8
      | .recovering _ => 1#8
      | .faulted => 2#8]
  count : slice 4 1 d = [byte s.failCount]
  level : slice 5 1 d =
    [match s.battery.level with
      | .normal => 0#8
      | .thrift => 1#8
      | .scarce => 2#8
      | .critical => 3#8]
  flags : slice 6 3 d =
    [if s.monitor.state = .riding then 1#8 else 0#8, if s.monitor.cellLow = true then 1#8 else 0#8,
     if s.rehearsal = true then 1#8 else 0#8]
  presence : ∃ b : Byte, slice 9 1 d = [b] ∧ b.getLsbD 0 = s.run.isSome ∧
    b.getLsbD 1 = s.battery.latest.isSome ∧ b.getLsbD 2 = s.meter.latest.isSome ∧
    b.getLsbD 3 = !s.journal.records.isEmpty ∧
    b.getLsbD 4 = (s.lending.timer.isSome &&
      (s.lending.port == .lent || s.lending.port == .reclaiming)) ∧
    b.getLsbD 5 = (s.engine == .armed && s.run.any (·.state == .active)) ∧
    b.getLsbD 6 = false ∧ b.getLsbD 7 = false
  run : ∀ r, s.run = some r →
    slice 10 3 d = [if r.state = .active then 0#8 else 1#8, byte r.plan.val, byte r.window.val] ∧
    slice 13 6 d = putNat 4 (r.nextDue / 32768) ++ putNat 2 (r.nextDue % 32768) ∧
    slice 19 4 d = putNat 4 r.remaining ∧ slice 23 4 d = putNat 4 r.k
  noRun : s.run = none → slice 10 17 d = [0#8, 0#8, 0xFF#8] ++ List.replicate 14 0#8
  supply : ∀ b, s.battery.latest = some b →
    slice 27 2 d = putNat 2 b.volts ∧ slice 29 1 d = [BitVec.ofInt 8 b.celsius]
  noSupply : s.battery.latest = none → slice 27 3 d = [0#8, 0#8, 0#8]
  ambient : ∀ m, s.meter.latest = some m →
    slice 30 2 d = [(BitVec.ofInt 16 m.a).extractLsb' 8 8, (BitVec.ofInt 16 m.a).extractLsb' 0 8]
  noAmbient : s.meter.latest = none → slice 30 2 d = [0#8, 0#8]
  newest : ∀ x, s.journal.records.getLast? = some x → slice 32 4 d = putNat 4 x.number
  noFrame : s.journal.records = [] → slice 32 4 d = [0xFF#8, 0xFF#8, 0xFF#8, 0xFF#8]
  notices : slice 36 1 d = [byte s.notices.length]
  lend : ∀ e, s.lending.timer = some e → s.lending.port.hostSide = true →
    slice 37 6 d = putNat 6 e.toNat
  noLend : s.lending.port.hostSide = false → slice 37 6 d = List.replicate 6 0#8
  reclaim : ∀ r, s.run = some r → r.state = .active → s.engine = .armed →
    let moment := r.nextDue -
      4096 * (s.tables.general.reclaimLead + (s.profileOfPlan r.plan).wakeLead)
    slice 43 6 d = putNat 4 (moment / 32768) ++ putNat 2 (moment % 32768)
  noReclaim : s.engine ≠ .armed ∨ (∀ r ∈ s.run, r.state = .ending) →
    slice 43 6 d = List.replicate 6 0#8

/-- A signed number in two bytes, two's complement, high byte first (R183). -/
def signedPair (x : Int) : List Byte :=
  [(BitVec.ofInt 16 x).extractLsb' 8 8, (BitVec.ofInt 16 x).extractLsb' 0 8]

/-- A calendar instant: its seconds in four bytes, then its ticks in two (R183). -/
def instantBytes (t : Nat) : List Byte := putNat 4 (t / 32768) ++ putNat 2 (t % 32768)

/-- The reply data of GET_CLOCK, field by field as section 12.4's table lays them out (R10): day 0 is a
Saturday, and weekdays are coded from 0 for Sunday. -/
structure ClockFields (s : Part) (d : List Byte) : Prop where
  length : d.length = 22
  state : slice 0 1 d = [if s.time.clock = .set then 1#8 else 0#8]
  clock : slice 1 6 d = instantBytes s.now
  day : slice 7 2 d = putNat 2 (s.now / 32768 / 86400)
  secondOfDay : slice 9 4 d = putNat 4 (s.now / 32768 % 86400)
  weekday : slice 13 1 d = [byte ((s.now / 32768 / 86400 + 6) % 7)]
  trim : slice 14 2 d = signedPair s.time.trim
  elapsed : slice 16 6 d = putNat 6 s.time.elapsed.toNat

/-- The reply data of READ_METER, field by field as section 12.4's table lays them out (R82), with the
bytes of an absent field 0. -/
structure MeterFields (s : Part) (d : List Byte) : Prop where
  length : d.length = 25
  head : slice 0 3 d =
    [if s.tables.general.meterEnabled = true then 1#8 else 0#8,
     match s.meter.state with
      | .stopped => 0#8
      | .idle => 1#8
      | .measuring _ => 2#8,
     byte s.meter.startGate.val]
  presence : ∃ b : Byte, slice 3 1 d = [b] ∧
    (b.getLsbD 0 = true ↔ ∃ m, s.meter.state = .measuring m) ∧
    (b.getLsbD 1 = true ↔ s.meter.state ≠ .stopped) ∧ b.getLsbD 2 = s.meter.latest.isSome ∧
    ∀ i, 3 ≤ i → b.getLsbD i = false
  reading : ∀ m, s.meter.state = .measuring m →
    slice 4 2 d = [byte m.gate.val, m.used.setWidth 8]
  noReading : (∀ m, s.meter.state ≠ .measuring m) → slice 4 2 d = [0#8, 0#8]
  deadline : s.meter.state ≠ .stopped → slice 6 6 d = putNat 6 s.meter.deadline.toNat
  noDeadline : s.meter.state = .stopped → slice 6 6 d = List.replicate 6 0#8
  latest : ∀ r, s.meter.latest = some r →
    slice 12 2 d = signedPair r.a ∧ slice 14 1 d = [byte r.gate.val] ∧
    slice 15 3 d = putNat 3 r.count ∧ slice 19 6 d = instantBytes r.completedAt ∧
    ∃ b : Byte, slice 18 1 d = [b] ∧ b.getLsbD 0 = r.dark ∧ b.getLsbD 1 = r.saturated ∧
      ∀ i, 2 ≤ i → b.getLsbD i = false
  noLatest : s.meter.latest = none → slice 12 13 d = List.replicate 13 0#8

/-- The 48 bytes in which READ_FRAMES returns a record, field by field as section 12.4's table lays them
out (R168, R169): a presence bit for each field that may be absent, and the bytes of an absent field 0,
but for an absent window (0xFF). -/
structure RecordFields (r : FrameRecord) (d : List Byte) : Prop where
  length : d.length = 48
  number : slice 0 4 d = putNat 4 r.number
  kind : slice 4 2 d =
    [match r.outcome with
      | .taken => 0#8
      | .failed => 1#8
      | .missed => 2#8,
     match r.source with
      | .schedule => 0#8
      | .external => 1#8
      | .manual => 2#8]
  plan : slice 6 1 d = [byte r.plan.val]
  window : slice 7 1 d =
    [match r.window with
      | some w => byte w.val
      | none => 0xFF#8]
  due : slice 8 6 d = instantBytes r.due
  startAt : slice 14 6 d = instantBytes (r.startAt.getD 0)
  exposure : ∀ e, r.exposure = some e →
    slice 20 3 d = [BitVec.ofInt 8 e.s, BitVec.ofInt 8 e.g, BitVec.ofInt 8 e.offset] ∧
    slice 23 2 d = signedPair e.eBase ∧ slice 25 3 d = putNat 3 e.hold
  noExposure : r.exposure = none → slice 20 8 d = List.replicate 8 0#8
  flags : ∃ b : Byte, slice 28 1 d = [b] ∧ b.getLsbD 0 = r.flags.tight ∧
    b.getLsbD 1 = r.flags.rateLimited ∧ b.getLsbD 2 = r.flags.high ∧
    b.getLsbD 3 = r.flags.low ∧ b.getLsbD 4 = r.flags.reduced ∧
    b.getLsbD 5 = r.flags.rehearsal ∧ b.getLsbD 6 = r.flags.feedbackUsed ∧
    b.getLsbD 7 = r.flags.isOpen
  presence : ∃ b : Byte, slice 29 1 d = [b] ∧ b.getLsbD 0 = r.startAt.isSome ∧
    b.getLsbD 1 = r.exposure.isSome ∧ b.getLsbD 2 = r.b.isSome ∧ b.getLsbD 3 = r.a.isSome ∧
    b.getLsbD 4 = r.level.isSome ∧ b.getLsbD 5 = r.volts.isSome ∧ b.getLsbD 6 = false ∧
    b.getLsbD 7 = false
  readings : slice 30 1 d = [BitVec.ofInt 8 (r.b.getD 0)] ∧ slice 31 2 d = signedPair (r.a.getD 0)
  level : slice 33 1 d =
    [match r.level with
      | some .normal | none => 0#8
      | some .thrift => 1#8
      | some .scarce => 2#8
      | some .critical => 3#8]
  volts : slice 34 2 d = putNat 2 (r.volts.getD 0)
  merged : slice 36 1 d = [byte (r.merged.getD 0)]
  cause : slice 37 2 d =
    match r.cause with
    | none => [0#8, 0#8]
    | some .noReady => [1#8, 0#8]
    | some (.nak b) => [2#8, b]
    | some .noAck => [3#8, 0#8]
    | some .restart => [4#8, 0#8]
    | some .noActivity => [5#8, 0#8]
    | some .writeTimeout => [6#8, 0#8]
    | some .aborted => [7#8, 0#8]
    | some .power => [8#8, 0#8]
  reason : slice 39 1 d =
    [match r.reason with
      | none => 0#8
      | some .paused => 1#8
      | some .cameraFault => 2#8
      | some .recovering => 3#8
      | some .lent => 4#8
      | some .busy => 5#8
      | some .power => 6#8
      | some .clockStep => 7#8]
  misses : slice 40 2 d = putNat 2 r.missCount ∧ slice 42 6 d = instantBytes (r.lastDue.getD 0)

/-- The reply data of READ_FRAMES over a journal with the records `found` to return, as section 12.4
lays them out (R172): the GAP bit and the bit of a ring that holds a record, the oldest and the newest
number, each 0xFFFFFFFF where absent, how many records are returned, and the records themselves. -/
structure FramesFields (j : Journal) (gap : Bool) (found : List FrameRecord) (d : List Byte) :
    Prop where
  length : d.length = 10 + 48 * found.length
  flags : ∃ b : Byte, slice 0 1 d = [b] ∧ b.getLsbD 0 = gap ∧ b.getLsbD 1 = !j.records.isEmpty ∧
    ∀ i, 2 ≤ i → b.getLsbD i = false
  oldest : slice 1 4 d =
    match j.records.head? with
    | some r => putNat 4 r.number
    | none => [0xFF#8, 0xFF#8, 0xFF#8, 0xFF#8]
  newest : slice 5 4 d =
    match j.records.getLast? with
    | some r => putNat 4 r.number
    | none => [0xFF#8, 0xFF#8, 0xFF#8, 0xFF#8]
  count : slice 9 1 d = [byte found.length]
  records : ∀ i r, found[i]? = some r → RecordFields r (slice (10 + 48 * i) 48 d)

/-- The five effective values that READ_PROFILE adds to a stored profile `p`, after its 42 bytes: under
SETTINGS the stored ones; under NONE s_min is the larger of s_min and s_bulb, but s_max where s_bulb is
above it, s_knee is raised to that, and both g values are 0 (R20, R21). -/
structure EffectiveFields (p : Profile) (d : List Byte) : Prop where
  length : d.length = 50
  settings : p.lineMode = .settings → slice 42 8 d =
    signedPair p.sMin ++ signedPair p.sMax ++ signedPair p.sKnee ++ [byte p.gMax, byte p.gKnee]
  noSettings : p.lineMode = .noSettings →
    let least := if p.sMax < p.sBulb then p.sMax else max p.sMin p.sBulb
    slice 42 8 d =
      signedPair least ++ signedPair p.sMax ++ signedPair (max p.sKnee least) ++ [0#8, 0#8]

/-! ### Write requests (R15 to R19, R22, R24, R31)

The checks of R15 for each record, in its order, each with the reply that its failure draws; and what a
payload that passes them stores. A check is reached only where those before it pass, so a field is read
only where the payload holds it. -/

/-- The reply of the first check of a list that fails, where one does (R15). -/
def firstFailed (checks : List (Reply × Bool)) : Option Reply :=
  (checks.find? (fun c => !c.2)).map (·.1)

/-- The checks of WRITE_PLAN (R15 to R18): the state field, which decides the length, the length, the
slot, the enumerations, and the relations in the order of the fields that they name. -/
def planChecks (p : List Byte) : List (Reply × Bool) :=
  let slot := fieldNat 0 1 p
  let state := fieldNat 1 1 p
  let mode := fieldNat 26 1 p
  let n := fieldNat 27 1 p
  let action := fieldNat (28 + n) 1 p
  let target := fieldNat (29 + n) 1 p
  [(.badLength, decide (2 ≤ p.length)), (.badField 0, decide (state ≤ 1)),
   (.badLength, p.length == if state = 0 then 2 else 30 + n), (.badField 255, decide (slot < 16))] ++
  if state = 0 then [] else
    [(.badField 1, decide (fieldNat 2 1 p < 4)), (.badField 7, decide (fieldNat 18 1 p < 3)),
     (.badField 13, decide (mode < 3)), (.badField 15, decide (action < 4)),
     (.badField 2, decide (fieldNat 3 1 p < 4)),
     (.badField 14, mode == 0 || decide (1 ≤ n ∧ n ≤ 7)),
     (.badField 16, decide (action < 2) || decide (target < 16 ∧ target ≠ slot))]

/-- The checks of WRITE_PROFILE (R15, R19), with the relations on the clamped values. -/
def profileChecks (p : List Byte) : List (Reply × Bool) :=
  let s (at_ : Nat) : Int := max (-96) (min 64 (fieldInt at_ 2 p))
  let g (at_ : Nat) : Nat := min 64 (fieldNat at_ 1 p)
  [(.badLength, p.length == 42), (.badField 255, decide (fieldNat 0 1 p < 4)),
   (.badField 0, decide (fieldNat 1 1 p < 2)), (.badField 1, decide (fieldNat 2 1 p < 2)),
   (.badField 9, decide (fieldNat 15 1 p < 2)), (.badField 2, decide (s 3 ≤ s 5)),
   (.badField 5, decide (s 3 ≤ s 9 ∧ s 9 ≤ s 5)), (.badField 7, decide (g 12 ≤ g 11))]

/-- Where the weekday mask of a WRITE_WINDOW stands: after the days of a date range, if one is carried.
The presence byte 0 carries one (assumption 5). -/
def maskOffset (p : List Byte) : Nat := if fieldNat 10 1 p = 0 then 15 else 11

/-- The checks of WRITE_WINDOW (R15, R31): the two fields that decide the length, in their order, the
length, the slot, the enumerations and the mask, and the plan number. -/
def windowChecks (p : List Byte) : List (Reply × Bool) :=
  let m := maskOffset p
  let kind := fieldNat (m + 1) 1 p
  let rest := m + (if kind = 0 then 2 else 4)
  [(.badLength, decide (11 ≤ p.length)), (.badField 3, decide (fieldNat 10 1 p ≤ 1)),
   (.badLength, decide (m + 2 ≤ p.length)), (.badField 7, decide (kind ≤ 2)),
   (.badLength, p.length ==
      15 + (if fieldNat 10 1 p = 0 then 4 else 0) + (if kind = 0 then 0 else 2)),
   (.badField 255, decide (fieldNat 0 1 p < 8)), (.badField 0, decide (fieldNat 1 1 p < 2)),
   (.badField 6, decide (fieldNat m 1 p < 128)),
   (.badField 10, decide (fieldNat (rest + 1) 1 p < 2)),
   (.badField 9, decide (fieldNat rest 1 p < 16))]

/-- The checks of WRITE_GENERAL (R15, R22): trigger_plan is none, 0xFF, or a plan number. -/
def generalChecks (p : List Byte) : List (Reply × Bool) :=
  [(.badLength, p.length == 21), (.badField 5, decide (fieldNat 6 1 p < 2)),
   (.badField 7, decide (fieldNat 9 1 p < 2)), (.badField 13, decide (fieldNat 18 1 p < 2)),
   (.badField 14, decide (fieldNat 19 2 p < 16384)),
   (.badField 4, decide (fieldNat 5 1 p < 16 ∨ fieldNat 5 1 p = 255))]

/-- The checks of WRITE_SUPPLY (R15, R24), with the threshold ordering on the clamped values. -/
def supplyChecks (p : List Byte) : List (Reply × Bool) :=
  let thr (at_ : Nat) : Nat := max 4500 (min 16000 (fieldNat at_ 2 p))
  [(.badLength, p.length == 19), (.badField 1, decide (thr 2 < thr 0)),
   (.badField 2, decide (thr 4 < thr 2))]

/-- The indices that an ADJUSTED reply carries: just those of the altered fields, in increasing order,
each once (R15). -/
def Adjusted (changed : List Nat) (altered : Nat → Prop) : Prop :=
  changed.Pairwise (· < ·) ∧ ∀ k, k ∈ changed ↔ altered k

/-- The plan that a DEFINED payload stores (R17, R18): numbers clamped to their ranges, the list kept
under ROTATE and BURST alone, and the target under CHAIN and CHAIN_NOTIFY alone. -/
structure PlanFields (p : List Byte) (q : Plan) (changed : List Nat) : Prop where
  mode : ([.fixed, .ambient, .feedback, .blend] : List ExposureMode)[fieldNat 2 1 p]? = some q.mode
  profile : q.profile.val = fieldNat 3 1 p
  intervals : q.intervalStart = max 8 (min 691200 (fieldNat 4 4 p)) ∧
    q.intervalEnd = max 8 (min 691200 (fieldNat 8 4 p))
  counts : q.rampFrames = fieldNat 12 2 p ∧ q.frameLimit = min 16777215 (fieldNat 14 4 p)
  startRule :
    ([.fromPlan, .fromAmbient, .inherit] : List StartRule)[fieldNat 18 1 p]? = some q.startRule
  base : q.eInit = max (-96) (min 128 (fieldInt 19 2 p)) ∧
    q.cAmb = max (-256) (min 255 (fieldInt 21 2 p))
  feedback : q.gainK = min 16 (fieldNat 23 1 p) ∧ q.deadband = min 32 (fieldNat 24 1 p) ∧
    q.stepLimit = max 1 (min 24 (fieldNat 25 1 p))
  bracketMode :
    ([.single, .rotate, .burst] : List BracketMode)[fieldNat 26 1 p]? = some q.bracketMode
  brackets : q.brackets =
    if fieldNat 26 1 p = 0 then []
    else (slice 28 (fieldNat 27 1 p) p).map (fun b => max (-48) (min 48 b.toInt))
  endAction : ([.stopNotify, .stopSilent, .chain, .chainNotify] :
    List EndAction)[fieldNat (28 + fieldNat 27 1 p) 1 p]? = some q.endAction
  chainTarget : q.chainTarget.map (·.val) =
    if fieldNat (28 + fieldNat 27 1 p) 1 p < 2 then none
    else some (fieldNat (29 + fieldNat 27 1 p) 1 p)
  adjusted : Adjusted changed (fun k =>
    k = 3 ∧ q.intervalStart ≠ fieldNat 4 4 p ∨ k = 4 ∧ q.intervalEnd ≠ fieldNat 8 4 p ∨
    k = 6 ∧ q.frameLimit ≠ fieldNat 14 4 p ∨ k = 8 ∧ q.eInit ≠ fieldInt 19 2 p ∨
    k = 9 ∧ q.cAmb ≠ fieldInt 21 2 p ∨ k = 10 ∧ q.gainK ≠ fieldNat 23 1 p ∨
    k = 11 ∧ q.deadband ≠ fieldNat 24 1 p ∨ k = 12 ∧ q.stepLimit ≠ fieldNat 25 1 p ∨
    k = 14 ∧ q.brackets ≠ (slice 28 (fieldNat 27 1 p) p).map (·.toInt))

/-- The profile that a payload stores (R19): numbers clamped to their ranges, and report NONE forced
under line_mode NONE. -/
structure ProfileFields (p : List Byte) (q : Profile) (changed : List Nat) : Prop where
  lineMode : q.lineMode = if fieldNat 1 1 p = 0 then .settings else .noSettings
  report : q.report = if fieldNat 1 1 p = 0 ∧ fieldNat 2 1 p = 1 then .report else .noReport
  wakeMode : q.wakeMode = if fieldNat 15 1 p = 0 then .waitReady else .fixedTime
  shutter : q.sMin = max (-96) (min 64 (fieldInt 3 2 p)) ∧
    q.sMax = max (-96) (min 64 (fieldInt 5 2 p)) ∧ q.sBulb = max (-96) (min 65 (fieldInt 7 2 p)) ∧
    q.sKnee = max (-96) (min 64 (fieldInt 9 2 p))
  gain : q.gMax = min 64 (fieldNat 11 1 p) ∧ q.gKnee = min 64 (fieldNat 12 1 p)
  targetB : q.targetB = max (-32) (min 32 (fieldInt 13 2 p))
  waking : q.wakeLead = min 240 (fieldNat 16 2 p) ∧
    q.readyTimeout = max 8 (min 240 (fieldNat 18 2 p))
  frame : q.settingTimeout = max 328 (min 65535 (fieldNat 20 2 p)) ∧ q.prefocus = fieldNat 22 2 p ∧
    q.shutterPulse = max 33 (min 65535 (fieldNat 24 2 p)) ∧
    q.activityTimeout = max 328 (min 65535 (fieldNat 26 2 p)) ∧
    q.writeTimeout = max 8 (min 2400 (fieldNat 28 2 p)) ∧
    q.reportWait = max 1 (min 80 (fieldNat 30 2 p))
  spacing : q.reserve = min 2400 (fieldNat 32 2 p) ∧
    q.keepWarmLimit = min 4800 (fieldNat 34 2 p) ∧
    q.burstSpacing = max 1 (min 240 (fieldNat 36 2 p))
  recovery : q.faultLimit = max 1 (min 15 (fieldNat 38 1 p)) ∧
    q.recoveryOff = max 8 (min 480 (fieldNat 39 2 p)) ∧
    q.recoveryAttempts = max 1 (min 7 (fieldNat 41 1 p))
  adjusted : Adjusted changed (fun k =>
    k = 1 ∧ fieldNat 1 1 p = 1 ∧ fieldNat 2 1 p = 1 ∨ k = 2 ∧ q.sMin ≠ fieldInt 3 2 p ∨
    k = 3 ∧ q.sMax ≠ fieldInt 5 2 p ∨ k = 4 ∧ q.sBulb ≠ fieldInt 7 2 p ∨
    k = 5 ∧ q.sKnee ≠ fieldInt 9 2 p ∨ k = 6 ∧ q.gMax ≠ fieldNat 11 1 p ∨
    k = 7 ∧ q.gKnee ≠ fieldNat 12 1 p ∨ k = 8 ∧ q.targetB ≠ fieldInt 13 2 p ∨
    k = 10 ∧ q.wakeLead ≠ fieldNat 16 2 p ∨ k = 11 ∧ q.readyTimeout ≠ fieldNat 18 2 p ∨
    k = 12 ∧ q.settingTimeout ≠ fieldNat 20 2 p ∨ k = 14 ∧ q.shutterPulse ≠ fieldNat 24 2 p ∨
    k = 15 ∧ q.activityTimeout ≠ fieldNat 26 2 p ∨ k = 16 ∧ q.writeTimeout ≠ fieldNat 28 2 p ∨
    k = 17 ∧ q.reportWait ≠ fieldNat 30 2 p ∨ k = 18 ∧ q.reserve ≠ fieldNat 32 2 p ∨
    k = 19 ∧ q.keepWarmLimit ≠ fieldNat 34 2 p ∨ k = 20 ∧ q.burstSpacing ≠ fieldNat 36 2 p ∨
    k = 21 ∧ q.faultLimit ≠ fieldNat 38 1 p ∨ k = 22 ∧ q.recoveryOff ≠ fieldNat 39 2 p ∨
    k = 23 ∧ q.recoveryAttempts ≠ fieldNat 41 1 p)

/-- The window that a payload stores (R31): seconds of day, days and x clamped to their ranges, the mask
and the plan as written. -/
structure WindowFields (p : List Byte) (w : Window) (changed : List Nat) : Prop where
  enabled : w.enabled = true ↔ fieldNat 1 1 p = 1
  seconds : w.startSod = min 86399 (fieldNat 2 4 p) ∧ w.endSod = min 86399 (fieldNat 6 4 p)
  dates : w.dates =
    if fieldNat 10 1 p = 0 then some (min 36524 (fieldNat 11 2 p), min 36524 (fieldNat 13 2 p))
    else none
  weekdays : w.weekdays.toNat = fieldNat (maskOffset p) 1 p
  gate :
    let x := max (-160) (min 160 (fieldInt (maskOffset p + 2) 2 p))
    ([.noGate, .above x, .below x] : List AmbientGate)[fieldNat (maskOffset p + 1) 1 p]? = some w.gate
  plan :
    let rest := maskOffset p + (if fieldNat (maskOffset p + 1) 1 p = 0 then 2 else 4)
    w.plan.val = fieldNat rest 1 p ∧ (w.essential = true ↔ fieldNat (rest + 1) 1 p = 1)
  adjusted : Adjusted changed (fun k =>
    k = 1 ∧ w.startSod ≠ fieldNat 2 4 p ∨ k = 2 ∧ w.endSod ≠ fieldNat 6 4 p ∨
    k = 4 ∧ fieldNat 10 1 p = 0 ∧ 36524 < fieldNat 11 2 p ∨
    k = 5 ∧ fieldNat 10 1 p = 0 ∧ 36524 < fieldNat 13 2 p ∨
    k = 8 ∧ fieldNat (maskOffset p + 1) 1 p ≠ 0 ∧
      (fieldInt (maskOffset p + 2) 2 p < -160 ∨ 160 < fieldInt (maskOffset p + 2) 2 p))

/-- The general settings that a payload stores (R22): numbers clamped to their ranges, the mask as
written. -/
structure GeneralFields (p : List Byte) (g : General) (changed : List Nat) : Prop where
  levels : g.levelSchedule = min 2 (fieldNat 0 1 p) ∧ g.levelExternal = min 2 (fieldNat 1 1 p) ∧
    g.levelManual = min 2 (fieldNat 2 1 p)
  lateLimit : g.lateLimit = min 240 (fieldNat 3 2 p)
  trigger : g.triggerPlan.map (·.val) =
      (if fieldNat 5 1 p = 255 then none else some (fieldNat 5 1 p)) ∧
    g.triggerEdge = (if fieldNat 6 1 p = 0 then .rising else .falling) ∧ g.holdoff = fieldNat 7 2 p
  meter : (g.meterEnabled = true ↔ fieldNat 9 1 p = 1) ∧
    g.meterPeriod = max 64 (min 4800 (fieldNat 10 2 p)) ∧ g.cCal = fieldInt 12 1 p
  lend : g.lendLimit = max 1 (min 240 (fieldNat 13 1 p)) ∧
    g.lendMin = max 8 (min 4800 (fieldNat 14 2 p)) ∧
    g.reclaimLead = max 8 (min 2400 (fieldNat 16 2 p)) ∧
    g.lendPolicy = if fieldNat 18 1 p = 0 then .hostFirst else .partFirst
  mask : g.mask.toNat = fieldNat 19 2 p
  adjusted : Adjusted changed (fun k =>
    k = 0 ∧ g.levelSchedule ≠ fieldNat 0 1 p ∨ k = 1 ∧ g.levelExternal ≠ fieldNat 1 1 p ∨
    k = 2 ∧ g.levelManual ≠ fieldNat 2 1 p ∨ k = 3 ∧ g.lateLimit ≠ fieldNat 3 2 p ∨
    k = 8 ∧ g.meterPeriod ≠ fieldNat 10 2 p ∨ k = 10 ∧ g.lendLimit ≠ fieldNat 13 1 p ∨
    k = 11 ∧ g.lendMin ≠ fieldNat 14 2 p ∨ k = 12 ∧ g.reclaimLead ≠ fieldNat 16 2 p)

/-- The supply settings that a payload stores (R24): numbers clamped to their ranges, and each factor
the largest of 1, 2, 4 and 8 that does not exceed it. -/
structure SupplyFields (p : List Byte) (g : Supply) (changed : List Nat) : Prop where
  thresholds : g.thrThrift = max 4500 (min 16000 (fieldNat 0 2 p)) ∧
    g.thrScarce = max 4500 (min 16000 (fieldNat 2 2 p)) ∧
    g.thrCritical = max 4500 (min 16000 (fieldNat 4 2 p))
  judging : g.hysteresis = min 1000 (fieldNat 6 2 p) ∧ g.confirm = max 1 (min 8 (fieldNat 8 1 p)) ∧
    g.coldSlope = min 20 (fieldNat 9 1 p) ∧ g.sagAllowance = min 1000 (fieldNat 10 2 p) ∧
    g.checkPeriod = max 8 (min 4800 (fieldNat 12 2 p))
  factors :
    let forced (n : Nat) : Nat := if n < 2 then 1 else if n < 4 then 2 else if n < 8 then 4 else 8
    g.fThrift = forced (fieldNat 14 1 p) ∧ g.fScarce = forced (fieldNat 15 1 p)
  outage : g.rideThrough = max 1 (min 16 (fieldNat 16 1 p)) ∧
    g.warmWindow = max 1 (min 1440 (fieldNat 17 2 p))
  adjusted : Adjusted changed (fun k =>
    k = 0 ∧ g.thrThrift ≠ fieldNat 0 2 p ∨ k = 1 ∧ g.thrScarce ≠ fieldNat 2 2 p ∨
    k = 2 ∧ g.thrCritical ≠ fieldNat 4 2 p ∨ k = 3 ∧ g.hysteresis ≠ fieldNat 6 2 p ∨
    k = 4 ∧ g.confirm ≠ fieldNat 8 1 p ∨ k = 5 ∧ g.coldSlope ≠ fieldNat 9 1 p ∨
    k = 6 ∧ g.sagAllowance ≠ fieldNat 10 2 p ∨ k = 7 ∧ g.checkPeriod ≠ fieldNat 12 2 p ∨
    k = 8 ∧ g.fThrift ≠ fieldNat 14 1 p ∨ k = 9 ∧ g.fScarce ≠ fieldNat 15 1 p ∨
    k = 10 ∧ g.rideThrough ≠ fieldNat 16 1 p ∨ k = 11 ∧ g.warmWindow ≠ fieldNat 17 2 p)

/-! ### Grants (R51, R90) -/

/-- What a grant of the request `q` of source `src` fixes in its operation: source, plan and request
fields, the profile that the plan names as stored, for EXTERNAL and MANUAL the plan as stored and a
reduced burst at THRIFT and SCARCE, the window of a SCHEDULE operation's run, the level, rehearsal and
the V of the latest reading held (R51, R90, R100). -/
structure GrantForms (src : Source) (q : Request) (s : Part) (o : Operation) : Prop where
  source : o.source = src
  request : o.request = q
  profile : o.profile = s.profileOfPlan q.plan
  plan : o.plan? = if src = .schedule then none else s.planAt q.plan
  window : o.window = if src = .schedule then s.run.map (·.window) else none
  level : o.level = s.battery.level
  rehearsal : o.rehearsal = s.rehearsal
  volts : o.volts = s.battery.latest.map (·.volts)
  reduced : o.reduced = true ↔ src ≠ .schedule ∧
    (s.battery.level = .thrift ∨ s.battery.level = .scarce) ∧
    ∃ p, s.planAt q.plan = some p ∧ p.bracketMode = .burst
  unasked : o.comp = none ∧ o.index = 0 ∧ o.settled = false

/-! ### Requests -/

/-- The code, the payload and the payload length of a request whose length is fixed (R175, section
12.4). -/
def fixedRequest : Instr → Option (Byte × List Byte × Nat)
  | .getStatus p => some (0x01#8, p, 0)
  | .setClock p => some (0x02#8, p, 4)
  | .getClock p => some (0x03#8, p, 0)
  | .setTrim p => some (0x04#8, p, 2)
  | .readPlan p => some (0x11#8, p, 1)
  | .writeProfile p => some (0x12#8, p, 42)
  | .readProfile p => some (0x13#8, p, 1)
  | .readWindow p => some (0x15#8, p, 1)
  | .writeSupply p => some (0x16#8, p, 19)
  | .readSupply p => some (0x17#8, p, 0)
  | .writeGeneral p => some (0x18#8, p, 21)
  | .readGeneral p => some (0x19#8, p, 0)
  | .arm p => some (0x20#8, p, 0)
  | .disarm p => some (0x21#8, p, 0)
  | .resume p => some (0x22#8, p, 0)
  | .abort p => some (0x24#8, p, 0)
  | .lend p => some (0x25#8, p, 0)
  | .giveBack p => some (0x26#8, p, 0)
  | .cameraReset p => some (0x27#8, p, 0)
  | .softReset p => some (0x28#8, p, 0)
  | .setRehearsal p => some (0x29#8, p, 1)
  | .readFrames p => some (0x30#8, p, 5)
  | .getNotices p => some (0x31#8, p, 0)
  | .maskNotices p => some (0x32#8, p, 2)
  | .readMeter p => some (0x33#8, p, 0)
  | _ => none

/-- The frame that a request command stands for (R174, R175). -/
def requestFrame : Instr → Option HostFrame
  | .writePlan p => some ⟨0x10#8, p⟩
  | .writeWindow p => some ⟨0x14#8, p⟩
  | .shoot p => some ⟨0x23#8, p⟩
  | .unknownType code p => some ⟨code, p⟩
  | c => (fixedRequest c).map (fun f => ⟨f.1, f.2.1⟩)

/-- The commands that the part takes in every supply state: time, the supply and the backup cell
(R159). -/
def takenAsleep : Instr → Bool
  | .trimBoundary | .withholdEnd | .calendarEnd | .packFall _ | .packRise _ | .rideThroughDeadline
  | .restoreDeadline | .backupCellChange _ | .coldStart => true
  | _ => false

end Sys2Proof.Machine
end

