-- ==== Sys2Proof/WellFormed.lean ====
section
/-! DEFINITION. Which commands can arrive: the bounds that the framing rules put on what a command
carries. The meanings do not rest on them; they say which terms stand for something the outside
world can send. -/

namespace Sys2Proof

open Machine

/-- The request codes of R175. -/
def requestCodes : List Nat :=
  [0x01, 0x02, 0x03, 0x04, 0x10, 0x11, 0x12, 0x13, 0x14, 0x15, 0x16, 0x17, 0x18, 0x19, 0x20, 0x21,
    0x22, 0x23, 0x24, 0x25, 0x26, 0x27, 0x28, 0x29, 0x30, 0x31, 0x32, 0x33]

/-- A payload that a frame can carry (R173). -/
def fitsFrame (payload : List Byte) : Bool := decide (payload.length ≤ longestPayload)

/-- A TYPE that is no request code (R175). -/
def unknownCode (code : Byte) : Bool := !requestCodes.contains code.toNat

/-- A LEN byte above 250 (R107, R173). -/
def tooLong (len : Byte) : Bool := decide (longestPayload < len.toNat)

/-- Bytes that can complete a frame: at least the second CRC byte, at most a whole frame (R173). -/
def completes (bytes : List Byte) : Bool := decide (1 ≤ bytes.length) && decide (bytes.length ≤ 255)

/-- Whether a camera-line frame has a TYPE and a payload length that the part takes (R107). -/
def cameraTypeTaken (type : Byte) (len : Nat) : Bool :=
  (type == 0x61#8 && len == 0) || (type == 0x62#8 && len == 1) ||
  (type == 0x63#8 && len == 2) || (type == 0x64#8 && len == 2)

/-- A whole camera-line frame that R107 discards: its CRC differs, or its TYPE or its payload length is
not one the part takes. -/
def discardedFrame (bytes : List Byte) : Bool :=
  let len := fieldNat 1 1 bytes
  let body := slice 1 (len + 2) bytes
  bytes.getD 0 0 == syncByte && decide (len ≤ longestPayload) && bytes.length == len + 5 &&
  !(fieldNat (len + 3) 2 bytes == (crc16 body).toNat && cameraTypeTaken (bytes.getD 2 0) len)

/-- Whether a command is one the outside world, or the part's own counters, can bring. -/
def Instr.wellFormed : Instr → Bool
  | .getStatus p | .setClock p | .getClock p | .setTrim p | .writePlan p | .readPlan p
  | .writeProfile p | .readProfile p | .writeWindow p | .readWindow p | .writeSupply p
  | .readSupply p | .writeGeneral p | .readGeneral p | .arm p | .disarm p | .resume p | .shoot p
  | .abort p | .lend p | .giveBack p | .cameraReset p | .softReset p | .setRehearsal p
  | .readFrames p | .getNotices p | .maskNotices p | .readMeter p => fitsFrame p
  | .unknownType code p => unknownCode code && fitsFrame p
  | .hostFrameComplete bytes => completes bytes
  | .hostLenAbove250 len | .cameraLineLenAbove250 len => tooLong len
  | .cameraFrameDiscarded bytes => discardedFrame bytes
  | .softResetTaken | .hostInterByteGap _ | .replySent | .ready | .ack _ | .nak _ _ | .report _ _
  | .cameraLineGap _ | .setSent | .camActChange _ | .triggerEdge _ | .trimBoundary | .withholdEnd
  | .calendarEnd | .wakeTime | .dueReached | .dueLateLimit | .requestLateDeadline _
  | .reclaimMoment | .windowBoundary | .midnight | .occurrenceEnd | .wakeLeadElapsed
  | .readyTimeout | .settingTimeout | .prefocusElapsed | .holdElapsed | .activityTimeout
  | .writeTimeout | .reportWaitExpiry | .burstSpacingEnd | .rehearsalWriteEnd | .lendWakeEnd
  | .lendTimerExpiry | .meterPeriodicDeadline | .gateEnd _ | .batteryPeriodicDeadline _ _
  | .recoveryOffEnd | .recoveryReadyTimeout | .recoveryWakeElapsed | .packFall _ | .packRise _
  | .rideThroughDeadline | .restoreDeadline | .backupCellChange _ | .coldStart | .resetLine => true

end Sys2Proof
end

