-- ==== Sys2Proof/Certificates/Slice0/Obligations.lean ====
section
/-! DEFINITION. The statements for the provers, in the order of OBLIGATIONS.json. Each docstring names
the rules of spec/ that the statement follows; a statement that rests on a choice of the model names
the log entry. -/

open Sys2Proof Sys2Proof.Machine

/-! ### The step and its queue -/

/-- One step takes the command at the front of the queue and answers what `exec` answers for it
with the queue's rest; and every command of the table goes on to a next state, whatever it
carries and wherever the part stands, and leaves the queue as it is: no command is refused and
none faults. -/
def Obligations.CommandsGoOnFromTheFrontOfTheQueue : Prop :=
  (∀ (c : Instr) (rest : List Instr) (p : Part),
     step { part := p, pending := c :: rest } = exec c { part := p, pending := rest }) ∧
  (∀ (c : Instr) (s : State), ∃ p : Part, exec c s = .next (s.put p))

/-- The model's choice (assumption 2): with no command waiting the part runs by itself. A reached
event is taken first; with none reached, a withheld period only counts down (R6), with the backup
domain lost both counters stand still and a period only counts toward the cold start where the
pack has returned (R163, assumption 19), and otherwise one tick is counted on both counters (R1).
R2: a deadline some ticks from now is set on the elapsed counter modulo 2^48. It counts as reached
where it lies at the counter or less than half the range behind it (DEDUCED, assumption 27). -/
def Obligations.IdlePartRunsByItself : Prop :=
  ∀ p : Part,
    (∀ n, p.after n = p.time.elapsed + BitVec.ofNat 48 n) ∧
    (∀ d, p.reached d = true ↔ (p.time.elapsed - d).toNat < 140737488355328) ∧
    (∀ e, p.nextEvent = some e → step { part := p, pending := [] } = exec e ⟨p, []⟩) ∧
    (p.nextEvent = none → p.monitor.lost = true → step ⟨p, []⟩ = .next
      ⟨{ p with monitor := { p.monitor with coldIn := p.monitor.coldIn.map (· - 1) } }, []⟩) ∧
    (p.nextEvent = none → p.monitor.lost = false → 0 < p.time.withheld →
      step ⟨p, []⟩ =
        .next ⟨{ p with time := { p.time with withheld := p.time.withheld - 1 } }, []⟩) ∧
    (p.nextEvent = none → p.monitor.lost = false → p.time.withheld = 0 →
      p.now + 1 < Config.calendarSpan →
      ∃ t : Part, step ⟨p, []⟩ = .next ⟨t, []⟩ ∧
        Kept false
          { p with time :=
              { p.time with instant := p.now + 1, elapsed := p.time.elapsed + 1
                            trimTaken := false } } t)

/-- In an outage, while the supply returns, and after the backup domain is lost, the part takes no
command but time, the supply and the backup cell, and every other command changes nothing (R156,
R159, R163). That CAM_ACT and the trigger input, whose changes R159 has not taken, still take the
level that they show is the model's choice (DESIGN CHOICE, assumption 7). -/
def Obligations.SleepingPartTakesNoOtherCommand : Prop :=
  ∀ s : State, s.part.awake = false →
    (∀ active, exec (.camActChange active) s =
      .next (s.put { s.part with pins := { s.part.pins with camAct := active } })) ∧
    (∀ rising, exec (.triggerEdge rising) s =
      .next (s.put { s.part with pins := { s.part.pins with trigger := rising } })) ∧
    ∀ c, takenAsleep c = false → (∀ active, c ≠ .camActChange active) →
      (∀ rising, c ≠ .triggerEdge rising) → exec c s = .next s

/-! ### Time base (chapter 1) -/

/-- R6: at a trim boundary a trim of n ≥ 0 adds n ticks to both counters and leaves nothing
withheld, a trim of −n withholds the next n periods, and a trim of 0 does neither; the ticks left
to the boundary are counted first (the model's choice, assumption 1). No counter but these moves,
and WITHHOLD_END lets counting resume. Ticks that are counted over a boundary take its trim with
them: the counters stand where they were to come, or at the end of what the trim adds where that
lies further on, and nothing is left withheld.
R5, R6: where the addition passes the end of the range, the clock stands at what is left of it and
is NOT_SET, and the engine is DISARMED. A SCHEDULE operation in WAITING whose due the addition
reaches before that end, as the one event that falls there, makes its computation and goes on with
its frame, and its run is ENDING with that due: the addition reaches the due as if tick by tick.
The clock shows the last instant of its range to it (the model's choice, assumption 25). -/
def Obligations.TrimBoundaryAppliesTheTrim : Prop :=
  (∀ t : TimeBase, t.toBoundary =
    if t.elapsed.toNat % 33554432 = 0 ∧ t.trimTaken = false then 0
    else 33554432 - t.elapsed.toNat % 33554432) ∧
  (∀ s : State, s.part.monitor.lost = false → s.part.time.Lawful →
    s.part.now + s.part.time.toBoundary + s.part.time.trim.toNat < Config.calendarSpan →
    (∃ t : State, exec .trimBoundary s = .next t ∧ t.pending = s.pending ∧
      Kept false { s.part with time := t.part.time } t.part ∧
      t.part.time.trim = s.part.time.trim ∧ t.part.time.clock = s.part.time.clock ∧
      (0 ≤ s.part.time.trim →
        t.part.now = s.part.now + s.part.time.toBoundary + s.part.time.trim.toNat ∧
        t.part.time.elapsed = s.part.time.elapsed +
          BitVec.ofNat 48 (s.part.time.toBoundary + s.part.time.trim.toNat) ∧
        t.part.time.withheld = 0) ∧
      (s.part.time.trim < 0 →
        t.part.now = s.part.now + s.part.time.toBoundary ∧
        t.part.time.elapsed = s.part.time.elapsed + BitVec.ofNat 48 s.part.time.toBoundary ∧
        t.part.time.withheld = s.part.time.trim.natAbs)) ∧
    exec .withholdEnd s =
      .next (s.put { s.part with time := { s.part.time with withheld := 0 } })) ∧
  (∀ (p : Part) (n a : Nat), p.time.Lawful → p.now + n + 1023 < Config.calendarSpan →
    (p.time.elapsed + BitVec.ofNat 48 a).toNat % 33554432 = 0 → a < n → n - a < 33554432 →
    (0 < a ∨ p.time.trimTaken = false) →
    (passTime n p).now = p.now + max n (a + p.time.trim.toNat) ∧
    (passTime n p).time.elapsed =
      p.time.elapsed + BitVec.ofNat 48 (max n (a + p.time.trim.toNat)) ∧
    (passTime n p).time.withheld = 0) ∧
  (∀ s : State, s.part.monitor.lost = false → s.part.time.Lawful → s.part.time.toBoundary = 0 →
    Config.calendarSpan ≤ s.part.now + s.part.time.trim.toNat →
    let past := s.part.now + s.part.time.trim.toNat - Config.calendarSpan
    let last : Part := { s.part with time := { s.part.time with
      instant := Config.calendarSpan - 1, withheld := 0, trimTaken := false
      elapsed := s.part.time.elapsed + BitVec.ofNat 48 s.part.time.trim.toNat } }
    ∃ t : State, exec .trimBoundary s = .next t ∧ t.pending = s.pending ∧
      t.part.now = past ∧ t.part.time.clock = .notSet ∧ t.part.engine = .disarmed ∧
      ∀ (o : Operation) (r : Run) (q : Plan), s.part.awake = true → s.part.op = some o →
        o.source = .schedule → o.phase = .waiting → o.settled = false → o.askReading = false →
        s.part.lending.port.hostSide = false → s.part.run = some r → r.state = .active →
        s.part.planAt r.plan = some q → r.wakeReached = true → r.dueReached = false →
        r.nextDue < Config.calendarSpan → o.profile.Lawful →
        (∀ e ∈ (last.ago (past + 1)).ownEvents, e.reached = true → e.event = .dueReached) →
        t.part.journal = s.part.journal ∧
        ∃ x c n, t.part.op = some x ∧ x.comp = some c ∧ x.phase.isUnderway = true ∧
          DueComputation o r q last x c n ∧ t.part.run = some n ∧ n.state = .ending ∧
          n.nextDue = r.nextDue ∧ n.k = r.k)

/-- R5: past the end of the range the clock stands at 0 and is NOT_SET, CLOCK_NEEDED is raised
with the old seconds value, and the engine is DISARMED; where a trim boundary lies just before the
end, the clock stands at what its trim adds beyond the end (R6). With no operation, no held
request and no lend, the run ends at once and a pending SCHEDULE request is withdrawn without a
record. A done mark whose end the clock has passed is removed with it, a whole-day one among them
(R39; that the end of a mark is counted on from the jump is DEDUCED, assumption 9). The event
comes when the clock has been counted to the end (the model's choice, assumption 1). -/
def Obligations.CalendarEndClearsTheClock : Prop :=
  ∀ s : State, s.part.monitor.lost = false → s.part.time.Lawful →
    s.part.tables.general.mask.getLsbD NoticeKind.clockNeeded.index = true →
    let left := Config.calendarSpan - s.part.now
    let beyond := s.part.time.trimBeyond left
    ∃ t : State, exec .calendarEnd s = .next t ∧ t.pending = s.pending ∧
      (∀ a, a < left → left ≤ a + 33554432 →
        (s.part.time.elapsed + BitVec.ofNat 48 a).toNat % 33554432 = 0 →
        (0 < a ∨ s.part.time.trimTaken = false) → beyond = s.part.time.trim.toNat - (left - a)) ∧
      ((∀ a, a < left → (0 < a ∨ s.part.time.trimTaken = false) →
        (s.part.time.elapsed + BitVec.ofNat 48 a).toNat % 33554432 ≠ 0) → beyond = 0) ∧
      t.part.now = beyond ∧ t.part.time.clock = .notSet ∧ t.part.engine = .disarmed ∧
      t.part.time.elapsed = s.part.time.elapsed + BitVec.ofNat 48 (left + beyond) ∧
      t.part.time.trim = s.part.time.trim ∧ t.part.tables = s.part.tables ∧
      t.part.gates = s.part.gates ∧
      (∃ n, entryOf .clockNeeded t.part.notices = some n ∧ n.detail = some Config.lastSecond ∧
        n.last = beyond) ∧
      (s.part.Still → t.part.op = none ∧ t.part.run = none ∧ t.part.arbiter.schedule = none ∧
        t.part.journal = s.part.journal ∧
        ∀ m, s.part.doneMark = some m → (∀ r ∈ s.part.run, r.byEndAction = false) →
          m.stop ≤ Config.calendarSpan + beyond → t.part.doneMark = none)

/-- R9: an accepted SET_CLOCK sets the clock to whole seconds and makes it SET; the reply carries
the old value and the old state. The elapsed counter, the trim and a withholding go on as they
were; the boundaries and midnights up to the new clock count as passed (assumption 9).
R39: with no run, a done mark goes where the clock is now at or past its end, and one on a
whole-day window ends at the midnight that the new clock comes to next, so a step back brings its
end nearer (assumption 9). A value beyond the range is answered BAD_FIELD, whose index 0 is the
model's (assumption 24). R7: SET_TRIM loads the value clamped to −1,023..+1,023, with ADJUSTED
naming field 0 where it clamps, and changes nothing else: a withholding in progress keeps its
length. The request finds the receive buffer empty. -/
def Obligations.ClockAndTrimAreSet : Prop :=
  (∀ (p : List Byte) (s : State), s.part.awake = true → s.part.link.handled = none → p.length = 4 →
     (fieldNat 0 4 p ≤ Config.lastSecond →
       ∃ t : State, exec (.setClock p) s = .next t ∧ t.pending = s.pending ∧
         t.part.now = fieldNat 0 4 p * Config.ticksPerSecond ∧ t.part.time.clock = .set ∧
         oldClockData s.part = instantBytes s.part.now ++
           [if s.part.time.clock = .set then 1#8 else 0#8] ∧
         Kept false
           (startReply ⟨0x02#8, p⟩ (.ok (oldClockData s.part))
             { s.part with time :=
                 { s.part.time with
                   instant := t.part.now, clock := .set, boundarySeen := t.part.now
                   midnightSeen := t.part.now } }) t.part ∧
         (s.part.run = none → ∀ m, t.part.doneMark = some m →
           ∃ old, s.part.doneMark = some old ∧ m.window = old.window ∧ t.part.now < m.stop ∧
             let w := s.part.tables.windows.get m.window
             let midnight := (fieldNat 0 4 p / 86400 + 1) * 86400 * Config.ticksPerSecond
             m.stop = if w.startSod = w.endSod then min old.stop midnight else old.stop)) ∧
     (Config.lastSecond < fieldNat 0 4 p →
       exec (.setClock p) s =
         .next (s.put (startReply ⟨0x02#8, p⟩ (.badField 0) s.part)))) ∧
  (∀ (p : List Byte) (s : State), s.part.awake = true → s.part.link.handled = none → p.length = 2 →
     exec (.setTrim p) s = .next (s.put (startReply ⟨0x04#8, p⟩
       (if -1023 ≤ fieldInt 0 2 p ∧ fieldInt 0 2 p ≤ 1023 then .ok [] else .adjusted [0])
       { s.part with time :=
           { s.part.time with trim := max (-1023) (min 1023 (fieldInt 0 2 p)) } })))

/-- R11, R12: a SET_CLOCK that moves a SET clock settles the next due of an ACTIVE run whose
window stays selected. At or past the due, the dues up to the new clock are missed as CLOCK_STEP,
the first of them first, until the next due lies ahead; a backward step that leaves the due
further ahead than one effective interval makes it the new clock plus that interval, with k, the
countdown and the ring as they were; otherwise the due stands. That the moved due carries the
late_limit stored at the step is the model's reading of R11 and R47 (DEDUCED, assumption 20). A
SCHEDULE request that was pending is withdrawn without a miss. A due held by an operation past
WAITING, in a frame or in burst spacing, is left to it, with the catch-up deferred to its
consumption; one in WAITING ends it at once, with its computation (R54); and the due of an ENDING
run is not settled. The clauses with no operation are for a PAUSED engine, which raises no
request, and the others equate the operation that goes on with the tail of the step (assumption
8). -/
def Obligations.ClockStepSettlesTheDue : Prop :=
  ∀ (s : State) (p : List Byte) (r : Run) (q : Plan), s.part.awake = true →
    s.part.link.handled = none → p.length = 4 → fieldNat 0 4 p ≤ Config.lastSecond →
    s.part.time.clock = .set → s.part.run = some r → s.part.planAt r.plan = some q →
    let new := fieldNat 0 4 p * Config.ticksPerSecond
    let interval := eighths (s.part.effectiveInterval q r.k)
    let after (holds : Part → Prop) : Prop :=
      ∃ t : State, exec (.setClock p) s = .next t ∧ t.pending = s.pending ∧ holds t.part
    (r.state = .active → s.part.Still → s.part.engine = .paused →
      (putClock (fieldNat 0 4 p) s.part).selectedWindow = some r.window →
      (s.part.tables.windows.get r.window).plan = r.originPlan →
      (r.nextDue ≤ new → after (fun t =>
        (s.part.journal.miss r r.nextDue .clockStep).Grows t.journal ∧
        t.arbiter.schedule = none ∧
        (s.part.tables.Lawful → (∀ n ∈ t.run, n.state = .active → n.number = r.number →
          (s.part.planAt n.plan).isSome = true → new < n.nextDue)) ∧
        ((q.frameLimit = 0 ∨ 2 ≤ r.remaining) → new < r.nextDue + interval →
          t.journal = s.part.journal.miss r r.nextDue .clockStep ∧
          ∃ n, t.run = some n ∧ n.nextDue = r.nextDue + interval ∧
            n.k = (if r.k < 4294967295 then r.k + 1 else 4294967295) ∧ n.bLast = none))) ∧
      (new < r.nextDue → after (fun t =>
        t.journal = s.part.journal ∧ t.arbiter.schedule = none ∧
        ∃ n, t.run = some n ∧ n.k = r.k ∧ n.remaining = r.remaining ∧ n.ring = r.ring ∧
          (new < s.part.now → new + interval < r.nextDue →
            n.nextDue = new + interval ∧ n.lateLimit = s.part.tables.general.lateLimit) ∧
          (s.part.now ≤ new ∨ r.nextDue ≤ new + interval →
            n.nextDue = r.nextDue ∧ n.lateLimit = r.lateLimit)))) ∧
    (∀ o, s.part.op = some o → o.askReading = false → s.part.lending.port.hostSide = false →
      (r.state = .active → o.source = .schedule → o.settled = false → r.nextDue ≤ new →
        (o.phase.isUnderway = true ∨ (∃ d, o.phase = .spacing d) → after (fun t =>
          t.journal = s.part.journal ∧ t.arbiter.schedule = none ∧
          t.op = some o ∧ ∃ n, t.run = some n ∧ n.nextDue = r.nextDue ∧ n.k = r.k ∧
            n.stepCatchUp = true)) ∧
        (o.phase = .waiting → after (fun t =>
          t.journal = s.part.journal ∧
          ∃ x c n, t.op = some x ∧ x.comp = some c ∧ x.phase.isUnderway = true ∧
            DueComputation o r q s.part x c n ∧
            t.run = some n ∧ n.nextDue = r.nextDue ∧ n.k = r.k ∧ n.stepCatchUp = true))) ∧
      (r.state = .ending → o.phase.isUnderway = true ∨ (∃ d, o.phase = .spacing d) → after (fun t =>
        t.journal = s.part.journal ∧ t.op = some o ∧
        ∃ n, t.run = some n ∧ n.nextDue = r.nextDue ∧ n.k = r.k ∧ n.state = .ending)))

/-! ### Requests that report -/

/-- R10, R14, R21, R31, R82, R177: a request that reports changes nothing but the reply, and the
reply carries what the part holds at the moment of handling; the data of GET_STATUS (49 bytes),
GET_CLOCK (22) and READ_METER (25) are field by field those of their tables, and READ_PROFILE adds
the five effective values of R20 to the stored record. The 0xFF of the window of an absent run is
the model's (assumption 24). A slot number beyond the table is answered BAD_FIELD naming 255. The
request finds the receive buffer empty. -/
def Obligations.ReportsChangeOnlyTheReply : Prop :=
  ∀ s : State, s.part.awake = true → s.part.link.handled = none →
    exec (.getStatus []) s =
      .next (s.put (startReply ⟨0x01#8, []⟩ (.ok (statusData s.part)) s.part)) ∧
    exec (.getClock []) s =
      .next (s.put (startReply ⟨0x03#8, []⟩ (.ok (clockData s.part)) s.part)) ∧
    exec (.readSupply []) s =
      .next (s.put (startReply ⟨0x17#8, []⟩ (.ok (putSupply s.part.tables.supply)) s.part)) ∧
    exec (.readGeneral []) s =
      .next (s.put (startReply ⟨0x19#8, []⟩ (.ok (putGeneral s.part.tables.general)) s.part)) ∧
    exec (.readMeter []) s =
      .next (s.put (startReply ⟨0x33#8, []⟩ (.ok (meterData s.part)) s.part)) ∧
    (∀ i : Fin 16, exec (.readPlan [byte i.val]) s =
      .next (s.put (startReply ⟨0x11#8, [byte i.val]⟩
        (.ok (putPlan i (s.part.planAt i))) s.part))) ∧
    (∀ i : Fin 4, exec (.readProfile [byte i.val]) s =
      .next (s.put (startReply ⟨0x13#8, [byte i.val]⟩
        (.ok (putProfile i (s.part.tables.profiles.get i))) s.part))) ∧
    (∀ i : Fin 8, exec (.readWindow [byte i.val]) s =
      .next (s.put (startReply ⟨0x15#8, [byte i.val]⟩
        (.ok (putWindow i (s.part.tables.windows.get i))) s.part))) ∧
    (∀ x : Byte,
      (16 ≤ x.toNat → exec (.readPlan [x]) s =
        .next (s.put (startReply ⟨0x11#8, [x]⟩ (.badField 255) s.part))) ∧
      (4 ≤ x.toNat → exec (.readProfile [x]) s =
        .next (s.put (startReply ⟨0x13#8, [x]⟩ (.badField 255) s.part))) ∧
      (8 ≤ x.toNat → exec (.readWindow [x]) s =
        .next (s.put (startReply ⟨0x15#8, [x]⟩ (.badField 255) s.part)))) ∧
    StatusFields s.part (statusData s.part) ∧ ClockFields s.part (clockData s.part) ∧
    MeterFields s.part (meterData s.part) ∧
    ∀ (i : Fin 4) (p : Profile), EffectiveFields p (putProfile i p)

/-- R172: READ_FRAMES changes nothing but the reply, and over a lawful journal the records it
returns are those of the ring, without a break, from the starting number F, or from the oldest
where F lies below it, up to n of them or up to the newest; GAP is set just where a record is held
and F lies below the oldest. The reply data are a flags byte with GAP and the bit of a ring that
holds a record, the oldest and newest numbers, 0xFFFFFFFF where absent, the number of records, and
each record in its 48 bytes, field by field those of R168's table in section 12.4. An n outside
1..4 is refused with BAD_FIELD naming n. -/
def Obligations.ReadFramesReturnsTheRecordsAsked : Prop :=
  ∀ (p : List Byte) (s : State), s.part.awake = true → s.part.link.handled = none → p.length = 5 →
    (1 ≤ fieldNat 4 1 p → fieldNat 4 1 p ≤ 4 →
      exec (.readFrames p) s = .next (s.put (startReply ⟨0x30#8, p⟩
        (.ok (framesData s.part.journal (fieldNat 0 4 p) (fieldNat 4 1 p))) s.part)) ∧
      FramesFields s.part.journal (s.part.journal.gap (fieldNat 0 4 p))
        (s.part.journal.readFrom (fieldNat 0 4 p) (fieldNat 4 1 p))
        (framesData s.part.journal (fieldNat 0 4 p) (fieldNat 4 1 p)) ∧
      (s.part.journal.Lawful →
        (∀ r ∈ s.part.journal.readFrom (fieldNat 0 4 p) (fieldNat 4 1 p),
          r ∈ s.part.journal.records) ∧
        (∀ oldest newest : Nat, s.part.journal.oldest = some oldest →
          s.part.journal.newest = some newest →
          (s.part.journal.readFrom (fieldNat 0 4 p) (fieldNat 4 1 p)).map (·.number) =
            List.range' (max (fieldNat 0 4 p) oldest)
              (min (fieldNat 4 1 p) (newest + 1 - max (fieldNat 0 4 p) oldest)) ∧
          (s.part.journal.gap (fieldNat 0 4 p) = true ↔ fieldNat 0 4 p < oldest)) ∧
        (s.part.journal.oldest = none →
          s.part.journal.readFrom (fieldNat 0 4 p) (fieldNat 4 1 p) = [] ∧
          s.part.journal.gap (fieldNat 0 4 p) = false))) ∧
    (fieldNat 4 1 p < 1 ∨ 4 < fieldNat 4 1 p →
      exec (.readFrames p) s = .next (s.put (startReply ⟨0x30#8, p⟩ (.badField 1) s.part)))

/-- R175: a request whose payload does not have the length that its TYPE calls for is answered
BAD_LENGTH, and nothing else changes.
R15: the checks of a write request are made in their order, the length and what decides it, the
slot, the enumerations, and the relations of the record on the clamped values, those of one step
in the order of the fields (R16 to R19, R22, R24, R31); the reply is that of the first check that
fails, with the field it names, and nothing else changes; and no other write is refused. The
request finds the receive buffer empty. The places of the fields are those of the layouts of
section 12.4 (R183); that the presence byte of a window's date range, which decides its length, is
0 for present is read from R183's numbering of named values (DEDUCED, assumption 5). -/
def Obligations.RefusedRequestsChangeNothing : Prop :=
  (∀ (c : Instr) (code : Byte) (p : List Byte) (n : Nat) (s : State),
     fixedRequest c = some (code, p, n) → s.part.awake = true → s.part.link.handled = none →
     p.length ≠ n →
     exec c s = .next (s.put (startReply ⟨code, p⟩ .badLength s.part))) ∧
  (∀ (p : List Byte) (r : Reply) (s : State), s.part.awake = true → s.part.link.handled = none →
     (firstFailed (planChecks p) = some r →
       exec (.writePlan p) s = .next (s.put (startReply ⟨0x10#8, p⟩ r s.part))) ∧
     (firstFailed (profileChecks p) = some r →
       exec (.writeProfile p) s = .next (s.put (startReply ⟨0x12#8, p⟩ r s.part))) ∧
     (firstFailed (windowChecks p) = some r →
       exec (.writeWindow p) s = .next (s.put (startReply ⟨0x14#8, p⟩ r s.part))) ∧
     (firstFailed (supplyChecks p) = some r →
       exec (.writeSupply p) s = .next (s.put (startReply ⟨0x16#8, p⟩ r s.part))) ∧
     (firstFailed (generalChecks p) = some r →
       exec (.writeGeneral p) s = .next (s.put (startReply ⟨0x18#8, p⟩ r s.part)))) ∧
  ∀ (p : List Byte) (r : Reply),
    (checkPlan p = .refuse r ↔ firstFailed (planChecks p) = some r) ∧
    (checkProfile p = .refuse r ↔ firstFailed (profileChecks p) = some r) ∧
    (checkWindow p = .refuse r ↔ firstFailed (windowChecks p) = some r) ∧
    (checkSupply p = .refuse r ↔ firstFailed (supplyChecks p) = some r) ∧
    (checkGeneral p = .refuse r ↔ firstFailed (generalChecks p) = some r)

/-! ### Configuration records (chapter 2, section 3.1) -/

/-- R15: a record whose checks pass is stored in its slot and no other record changes; the reply
is OK, or ADJUSTED with the indices of the fields that clamping or forcing changed, in increasing
order. What is stored is field by field what the payload carries, its numbers clamped to their
ranges and its forced values applied (R16 to R19, R24, R31), each at its place in the layouts of
section 12.4 (R183); that the presence byte of a window's date range is 0 for present is read from
R183's numbering of named values (DEDUCED, assumption 5). Clock, engine, rehearsal and supply are
left alone, and a profile, window or supply write leaves health alone. With nothing going on, and
for a plan or a window with a DISARMED engine and no done mark, all the rest of the part stands as
it was: a window write counts the boundaries up to now as passed (assumption 9), and R35's
re-evaluation then finds nothing to do.
R25: a supply write does not by itself touch the level, the streaks or the latest reading. A new
check_period makes the next periodic reading due one new period after the last one was due, which
for a reading that RIDING defers is the model's choice (DESIGN CHOICE, assumption 26); where that
moment has passed the reading is due at once, and is taken and judged under the new settings, or
deferred in RIDING (R141). -/
def Obligations.AcceptedWriteIsStored : Prop :=
  (∀ changed, storedReply changed = if changed = [] then .ok [] else .adjusted changed) ∧
  (∀ p : List Byte,
    (firstFailed (planChecks p) = none → ∃ i q changed, checkPlan p = .store i q changed ∧
      i.val = fieldNat 0 1 p ∧
      (fieldNat 1 1 p = 0 → q = none ∧ changed = []) ∧
      (fieldNat 1 1 p = 1 → ∃ x, q = some x ∧ PlanFields p x changed)) ∧
    (firstFailed (profileChecks p) = none → ∃ i q changed, checkProfile p = .store i q changed ∧
      i.val = fieldNat 0 1 p ∧ ProfileFields p q changed) ∧
    (firstFailed (windowChecks p) = none → ∃ i w changed, checkWindow p = .store i w changed ∧
      i.val = fieldNat 0 1 p ∧ WindowFields p w changed) ∧
    (firstFailed (supplyChecks p) = none → ∃ g changed, checkSupply p = .store () g changed ∧
      SupplyFields p g changed)) ∧
  ∀ (p : List Byte) (changed : List Nat) (s : State),
    s.part.awake = true → s.part.link.handled = none →
    (∀ i q, checkPlan p = .store i q changed → ∃ t : State, exec (.writePlan p) s = .next t ∧
      t.pending = s.pending ∧
      Kept true (startReply ⟨0x10#8, p⟩ (storedReply changed)
        { s.part with tables := { s.part.tables with
            plans := s.part.tables.plans.set i q } }) t.part ∧
      (s.part.Alone → s.part.op = none → s.part.engine = .disarmed → s.part.doneMark = none →
        t.part = startReply ⟨0x10#8, p⟩ (storedReply changed)
          { s.part with tables := { s.part.tables with
              plans := s.part.tables.plans.set i q } })) ∧
    (∀ i q, checkProfile p = .store i q changed → ∃ t : State, exec (.writeProfile p) s = .next t ∧
      t.pending = s.pending ∧
      Kept false (startReply ⟨0x12#8, p⟩ (storedReply changed)
        { s.part with tables := { s.part.tables with
            profiles := s.part.tables.profiles.set i q } }) t.part ∧
      (s.part.Alone → s.part.op = none → t.part = startReply ⟨0x12#8, p⟩ (storedReply changed)
        { s.part with tables := { s.part.tables with
            profiles := s.part.tables.profiles.set i q } })) ∧
    (∀ i w, checkWindow p = .store i w changed → ∃ t : State, exec (.writeWindow p) s = .next t ∧
      t.pending = s.pending ∧
      let stored : Part :=
        { s.part with
          tables := { s.part.tables with windows := s.part.tables.windows.set i w }
          time := { s.part.time with boundarySeen := s.part.now }
          gates :=
            if (s.part.tables.windows.get i).gate.kind = w.gate.kind then s.part.gates
            else s.part.gates.set i false }
      Kept false (startReply ⟨0x14#8, p⟩ (storedReply changed) stored) t.part ∧
      (s.part.Alone → s.part.op = none → s.part.engine = .disarmed → s.part.doneMark = none →
        t.part = startReply ⟨0x14#8, p⟩ (storedReply changed) stored)) ∧
    (∀ g, checkSupply p = .store () g changed →
      let stored : Part := { s.part with tables := { s.part.tables with supply := g } }
      let answered (b : Battery) : Part :=
        startReply ⟨0x16#8, p⟩ (storedReply changed) { stored with battery := b }
      let old := s.part.battery
      let d := old.lastDue + BitVec.ofNat 48 (4096 * g.checkPeriod)
      let retimed : Battery :=
        { old with
          lastDue := s.part.time.elapsed
          deadline := some (s.part.after (4096 * g.checkPeriod)) }
      let reading := stored.sample .periodic
      let j := judge g old.level old.worse old.better reading
      let kept : Prop := g.checkPeriod = s.part.tables.supply.checkPeriod ∨ old.deadline = none
      ∃ t : State, exec (.writeSupply p) s = .next t ∧ t.pending = s.pending ∧
        Kept false (answered t.part.battery) t.part ∧
        (kept → t.part.battery.deadline = old.deadline ∧ t.part.battery.lastDue = old.lastDue ∧
          (s.part.Alone → s.part.op = none → t.part = answered old)) ∧
        (¬ kept → s.part.reached d = false →
          t.part.battery.deadline = some d ∧ t.part.battery.lastDue = old.lastDue ∧
          (s.part.Alone → s.part.op = none →
            t.part = answered { old with deadline := some d })) ∧
        (¬ kept → s.part.reached d = true →
          t.part.battery.deadline = retimed.deadline ∧
          t.part.battery.lastDue = retimed.lastDue ∧
          (s.part.monitor.state = .riding → t.part.battery.deferred = true ∧
            (s.part.Alone → s.part.op = none →
              t.part = answered { retimed with deferred := true })) ∧
          (s.part.monitor.state ≠ .riding → s.part.Alone → s.part.op = none →
            (j.confirmed = none → t.part = answered
              { retimed with latest := some reading, worse := j.worse, better := j.better }) ∧
            (∀ l, j.confirmed = some l → s.part.engine = .disarmed → t.part.battery =
              { retimed with latest := some reading, level := l, worse := 0, better := 0 }))))

/-- R22, R23, R73, R80: general settings whose checks pass are stored whole, field by field what
the payload carries with its numbers clamped to their ranges, and the reply names the fields that
clamping changed (R15), each field at its place in the layout of section 12.4 (R183). Disabling
the meter stops it at once, discards its latest reading and makes every gate state false; a write
that leaves meter_enabled and meter_period as they are leaves the meter's deadline and the gates.
With a new meter_period alone, the next periodic reading of a running meter is due one new period
after the last one was, or at once where that has passed (R74): an IDLE meter then begins it, and
a MEASURING one goes on. -/
def Obligations.AcceptedGeneralWriteIsStored : Prop :=
  (∀ p : List Byte, firstFailed (generalChecks p) = none →
    ∃ g changed, checkGeneral p = .store () g changed ∧ GeneralFields p g changed) ∧
  ∀ (p : List Byte) (g : General) (changed : List Nat) (s : State),
    s.part.awake = true → s.part.link.handled = none →
    checkGeneral p = .store () g changed → ∃ t : State, exec (.writeGeneral p) s = .next t ∧
      t.pending = s.pending ∧
      Kept false (startReply ⟨0x18#8, p⟩ (storedReply changed)
        { s.part with
          tables := { s.part.tables with general := g }
          meter := t.part.meter, gates := t.part.gates }) t.part ∧
      (s.part.tables.general.meterEnabled = true → g.meterEnabled = false →
        t.part.meter.state = .stopped ∧ t.part.meter.latest = none ∧
        t.part.gates = Vector.replicate 8 false) ∧
      (s.part.tables.general.meterEnabled = false → g.meterEnabled = true →
        t.part.meter.state =
          .measuring ⟨1, 0, s.part.after (gateTicks 1)⟩ ∧ t.part.meter.count = 0 ∧
        t.part.meter.startGate = 1 ∧ t.part.meter.latest = none ∧
        t.part.meter.deadline = s.part.after (eighths g.meterPeriod) ∧
        t.part.gates = s.part.gates) ∧
      (s.part.tables.general.meterEnabled = g.meterEnabled →
        s.part.tables.general.meterPeriod = g.meterPeriod →
        t.part.gates = s.part.gates ∧ t.part.meter.deadline = s.part.meter.deadline ∧
        t.part.meter.latest = s.part.meter.latest) ∧
      (s.part.tables.general.meterEnabled = g.meterEnabled →
        s.part.tables.general.meterPeriod ≠ g.meterPeriod →
        let old := s.part.meter
        let d := old.lastDue + BitVec.ofNat 48 (4096 * g.meterPeriod)
        t.part.gates = s.part.gates ∧
        (old.state = .stopped → t.part.meter = old) ∧
        (old.state ≠ .stopped → s.part.reached d = false →
          t.part.meter.deadline = d ∧ t.part.meter.lastDue = old.lastDue ∧
          t.part.meter.latest = old.latest ∧ t.part.meter.startGate = old.startGate ∧
          (old.state ≠ .idle ∨ (s.part.Alone ∧ s.part.op = none) →
            t.part.meter = { old with deadline := d })) ∧
        (old.state ≠ .stopped → s.part.reached d = true →
          t.part.meter =
            { old with
              lastDue := s.part.time.elapsed
              deadline := s.part.after (4096 * g.meterPeriod)
              state :=
                if old.state = .idle then
                  .measuring ⟨old.startGate, 0, s.part.after (gateTicks old.startGate)⟩
                else old.state
              count := if old.state = .idle then 0 else old.count }))

/-- The record law, an invariant of every step: whatever is stored lies in the ranges of its
table and keeps its relations (R15 to R19, R22, R24, R31). The law of the time base, kept
likewise: the clock stands within its range, the trim within −1,023..+1,023, and no more than
1,023 periods are withheld (R3, R6, R7). -/
def Obligations.RecordsStayLawful : Prop :=
  (∀ s t : State, s.part.tables.Lawful → step s = .next t → t.part.tables.Lawful) ∧
  (∀ s t : State, s.part.time.Lawful → step s = .next t → t.part.time.Lawful)

/-- Reading and writing agree (R14, R15, R183): the bytes that a READ returns for a lawful record
are a WRITE payload that passes every check and stores that very record with no field changed.
READ_PROFILE adds eight bytes, its five effective values (R21). Numbers are sent and read high
byte first, and signed ones in two's complement (R183). -/
def Obligations.RecordsReadBackAsWritten : Prop :=
  (∀ (i : Fin 16) (p : Plan), p.Lawful i → checkPlan (putPlan i (some p)) = .store i (some p) []) ∧
  (∀ i : Fin 16, checkPlan (putPlan i none) = .store i none []) ∧
  (∀ (i : Fin 4) (p : Profile), p.Lawful →
    (putProfile i p).length = 50 ∧ checkProfile ((putProfile i p).take 42) = .store i p []) ∧
  (∀ (i : Fin 8) (w : Window), w.Lawful → checkWindow (putWindow i w) = .store i w []) ∧
  (∀ g : General, g.Lawful → checkGeneral (putGeneral g) = .store () g []) ∧
  (∀ g : Supply, g.Lawful → checkSupply (putSupply g) = .store () g []) ∧
  ∀ (before after : List Byte) (a b c d : Byte),
    let p := before ++ [a, b, c, d] ++ after
    let n := before.length
    fieldNat n 1 p = a.toNat ∧ fieldNat n 2 p = a.toNat * 256 + b.toNat ∧
    fieldNat n 4 p = ((a.toNat * 256 + b.toNat) * 256 + c.toNat) * 256 + d.toNat ∧
    fieldInt n 1 p = a.toInt ∧ fieldInt n 2 p = a.toInt * 256 + b.toNat

/-! ### Schedule windows and runs (chapter 3) -/

/-- R36: the first due is the occurrence start plus the smallest whole multiple of the interval
that is at or after the start of the run.
R45: the interval of a lawful plan is interval_start without a ramp, and otherwise interval_start
plus the truncated part of the way to interval_end that min(k, ramp_frames) has gone; so it is
interval_start at k = 0, interval_end from k = ramp_frames on, and never leaves the span of the
two; the effective interval is the smaller of 691,200 eighths and that times the factor of the
present level, 1 at NORMAL, f_thrift at THRIFT and f_scarce at SCARCE and CRITICAL. -/
def Obligations.DuesFollowTheInterval : Prop :=
  (∀ occStart interval now : Nat, 0 < interval → occStart ≤ now →
     (∃ m : Nat, firstDue occStart interval now = occStart + m * interval) ∧
     now ≤ firstDue occStart interval now ∧ firstDue occStart interval now < now + interval) ∧
  (∀ (slot : Fin 16) (p : Plan) (k : Nat), p.Lawful slot →
     intervalAt p 0 = p.intervalStart ∧
     (p.rampFrames = 0 → intervalAt p k = p.intervalStart) ∧
     (0 < p.rampFrames → (intervalAt p k : Int) = (p.intervalStart : Int) +
       (((p.intervalEnd : Int) - p.intervalStart) * (min k p.rampFrames : Nat)).tdiv
         p.rampFrames) ∧
     (0 < p.rampFrames → p.rampFrames ≤ k → intervalAt p k = p.intervalEnd) ∧
     min p.intervalStart p.intervalEnd ≤ intervalAt p k ∧
     intervalAt p k ≤ max p.intervalStart p.intervalEnd ∧
     ∀ (g : Supply) (l : Level), g.Lawful →
       intervalAt p k ≤ stretched (intervalAt p k) (intervalFactor g l) ∧
       stretched (intervalAt p k) (intervalFactor g l) ≤ 691200) ∧
  (∀ g : Supply, intervalFactor g .normal = 1 ∧ intervalFactor g .thrift = g.fThrift ∧
     intervalFactor g .scarce = g.fScarce ∧ intervalFactor g .critical = g.fScarce) ∧
  (∀ interval factor : Nat, stretched interval factor = min (interval * factor) 691200) ∧
  ∀ (s : Part) (p : Plan) (k : Nat),
    let factor := match s.battery.level with
      | .normal => 1
      | .thrift => s.tables.supply.fThrift
      | .scarce | .critical => s.tables.supply.fScarce
    s.factor = factor ∧ s.effectiveInterval p k = min (intervalAt p k * factor) 691200

/-- R32: an instant lies in the occurrence of day d just where the form of the window says so:
from d's midnight to the next for a whole day, from start_sod to end_sod of day d for a plain
window, and from start_sod of day d to end_sod of day d + 1 for a wrapping one. The occurrence
is admitted where d lies within the date range, or there is none, and the weekdays have the flag
of d's weekday. -/
def Obligations.OccurrencesAreThoseOfTheirStartDay : Prop :=
  (∀ day sod : Nat, instantOf day sod = (day * 86400 + sod) * 32768) ∧
  ∀ (w : Window) (t : Nat) (o : Occurrence), w.startSod ≤ 86399 → w.endSod ≤ 86399 →
    (occurrenceAt w t = some o ↔
      o.start ≤ t ∧ t < o.stop ∧
      o.start = instantOf o.day (if w.startSod = w.endSod then 0 else w.startSod) ∧
      o.stop =
        if w.startSod = w.endSod then instantOf (o.day + 1) 0
        else if w.startSod < w.endSod then instantOf o.day w.endSod
        else instantOf (o.day + 1) w.endSod) ∧
    (startDayAdmitted w o.day = true ↔
      (∀ first last, w.dates = some (first, last) → first ≤ o.day ∧ o.day ≤ last) ∧
      w.weekdays.getLsbD ((o.day + 6) % 7) = true)

/-- R33: the gate state of an ABOVE or BELOW window changes only as the table gives, with eight
steps of hysteresis, and a window without a gate keeps its state and has its gate satisfied.
R77, R78: a count of 0 reads −160; any other count reads 8p + r plus the gate term and C_cal,
clamped, with p the place of its highest bit and r the largest of 0..7 whose mantissa, times 2 to
the p, is at most N × 32,768. -/
def Obligations.ReadingsAreLogarithmsThatSetTheGates : Prop :=
  (∀ (w : Window) (state : Bool) (a x : Int),
     (w.gate = .above x → (gateAfter w state a = true ↔ x ≤ a ∨ (state = true ∧ x - 8 ≤ a)) ∧
       gateSatisfied w state = state) ∧
     (w.gate = .below x → (gateAfter w state a = true ↔ a ≤ x ∨ (state = true ∧ a ≤ x + 8)) ∧
       gateSatisfied w state = state) ∧
     (w.gate = .noGate → gateAfter w state a = state ∧ gateSatisfied w state = true)) ∧
  (∀ (n : Nat) (g : Fin 3) (cal : Int),
     ambientOf 0 g cal = -160 ∧
     (1 ≤ n → ∃ p r : Nat, 2 ^ p ≤ n ∧ n < 2 ^ (p + 1) ∧ r ≤ 7 ∧
       mantissa r * 2 ^ p ≤ n * 32768 ∧
       (∀ q : Nat, q ≤ 7 → mantissa q * 2 ^ p ≤ n * 32768 → q ≤ r) ∧
       ambientOf n g cal =
         max (-160) (min 160 (8 * (p : Int) + r + (48 - 32 * (g.val : Int)) + cal))))

/-- R34: a window is active where it is enabled, its plan is DEFINED, the instant lies within
one of its occurrences and that one is admitted, its gate is satisfied and the level admits it;
the levels admit as their table gives. The selected window is the lowest-numbered active one,
and there is none just where no window is active. -/
def Obligations.SelectedWindowIsTheLowestActive : Prop :=
  (∀ w : Window, levelAdmits .normal w = true ∧ levelAdmits .thrift w = true ∧
    (levelAdmits .scarce w = true ↔ w.essential = true) ∧ levelAdmits .critical w = false) ∧
  ∀ s : Part,
    (∀ i : Fin 8, s.occurrenceNow i = occurrenceAt (s.tables.windows.get i) s.now) ∧
    (∀ i : Fin 8, s.windowActive i = true ↔
      (s.tables.windows.get i).enabled = true ∧
      (s.planAt (s.tables.windows.get i).plan).isSome = true ∧
      (∃ o, occurrenceAt (s.tables.windows.get i) s.now = some o ∧
        startDayAdmitted (s.tables.windows.get i) o.day = true) ∧
      gateSatisfied (s.tables.windows.get i) (s.gates.get i) = true ∧
      levelAdmits s.battery.level (s.tables.windows.get i) = true) ∧
    (∀ w : Fin 8, s.selectedWindow = some w ↔
      s.windowActive w = true ∧ ∀ v : Fin 8, v < w → s.windowActive v = false) ∧
    (s.selectedWindow = none ↔ ∀ w : Fin 8, s.windowActive w = false)

/-- R35, R36, R37: a re-evaluation starts no run and ends none in DISARMED, keeps an ENDING run
and a run whose window stays selected under its origin plan, ends any other run at once or
through ENDING, and with no run starts one of the selected window that is not marked done, with
the record of R36. An end at once raises RUN_ENDED with the run's plan as detail, and the selection
then goes on as with no run; a start raises RUN_STARTED with the plan; entering ENDING and keeping a
run raise nothing. -/
def Obligations.ReEvaluationKeepsEndsAndStartsRuns : Prop :=
  ∀ s : Part,
    let u := reEvaluate s
    let shows (k : NoticeKind) (detail : Nat) : Prop :=
      s.tables.general.mask.getLsbD k.index = true →
        ∃ n, entryOf k u.notices = some n ∧ n.detail = some detail ∧ n.last = s.now
    (s.engine = .disarmed → u.run = s.run ∧ u.notices = s.notices) ∧
    (∀ r, s.engine ≠ .disarmed → s.run = some r →
      (r.state = .ending → u.run = some r ∧ u.notices = s.notices) ∧
      (r.state = .active → s.selectedWindow = some r.window →
        (s.tables.windows.get r.window).plan = r.originPlan →
        u.run = some r ∧ u.notices = s.notices) ∧
      (r.state = .active → (s.selectedWindow ≠ some r.window ∨
          (s.tables.windows.get r.window).plan ≠ r.originPlan) →
        (s.op.isSome = true → u.run = some { r with state := .ending } ∧
          u.arbiter.schedule = none ∧ u.notices = s.notices) ∧
        (s.op = none → shows .runEnded r.plan.val ∧
          (r.byEndAction = false → u = reEvaluate
            (raiseNotice .runEnded (some r.plan.val)
              { s with
                run := none
                lastBase := (r.eBase.map (fun e => (r.plan, e))).or s.lastBase
                arbiter := { s.arbiter with schedule := none }
                holders := { s.holders with keepWarm := false } })) ∧
          (s.selectedWindow = none → u.run = none ∧ u.arbiter.schedule = none ∧
            (∀ e, r.eBase = some e → u.lastBase = some (r.plan, e)) ∧
            (r.eBase = none → u.lastBase = s.lastBase))))) ∧
    (∀ w p o, s.engine ≠ .disarmed → s.run = none → s.selectedWindow = some w →
      (∀ m ∈ s.doneMark, m.window = w → m.stop ≤ s.now) →
      s.planAt (s.tables.windows.get w).plan = some p → s.occurrenceNow w = some o →
      shows .runStarted (s.tables.windows.get w).plan.val ∧
      ∃ r, u.run = some r ∧ r.window = w ∧ r.state = .active ∧
        r.plan = (s.tables.windows.get w).plan ∧ r.originPlan = r.plan ∧ r.occStart = o.start ∧
        r.k = 0 ∧ r.remaining = p.frameLimit ∧ r.ring = 0 ∧
        r.nextDue = firstDue o.start (eighths p.intervalStart) s.now ∧
        r.eBase = none ∧ r.aPrev = none ∧ r.bLast = none ∧
        r.number = if s.runCount < 4294967295 then s.runCount + 1 else 1)

/-- R44, R48, R50: a consumption whose countdown does not end moves the run by one effective
interval from the due consumed, never from now, and advances k, the countdown and the ring; a miss
also makes B_last absent, records the miss, withdraws the SCHEDULE request and ends KEEP_WARM.
R48, R171: a miss extends the newest record where that is an open MISSED record of source SCHEDULE
with the same run number, plan and reason and a miss_count below 65,535: miss_count rises by 1,
last_due becomes the due, and nothing else of the journal changes. Otherwise it appends an open
MISSED record with the run's window and plan, the due, the reason, miss_count 1 and last_due the
due, and the journal holds the run's number for it. -/
def Obligations.ConsumptionMovesTheRunByOneInterval : Prop :=
  (∀ (s : Part) (r : Run) (p : Plan) (f : Option (Int × Int)) (reason : MissReason),
    s.run = some r → s.planAt r.plan = some p → (p.frameLimit = 0 ∨ 2 ≤ r.remaining) →
    let moved (b : Option (Int × Int)) : Run :=
      { r with
        bLast := b
        nextDue := r.nextDue + 4096 * min (intervalAt p r.k * s.factor) 691200
        k := if r.k < 4294967295 then r.k + 1 else 4294967295
        remaining := if p.frameLimit = 0 then r.remaining else r.remaining - 1
        ring :=
          if r.ringReset = true ∨ p.bracketMode ≠ .rotate ∨ p.brackets.length ≤ r.ring + 1 then 0
          else r.ring + 1
        ringReset := false, lateLimit := s.tables.general.lateLimit
        wakeReached := false, dueReached := false }
    consumeDue (.byOperation f) s = { s with run := some (moved f) } ∧
    consumeDue (.missed reason) s =
      { s with
        run := some (moved none), journal := s.journal.miss r r.nextDue reason
        arbiter := { s.arbiter with schedule := none }
        holders := { s.holders with keepWarm := false } }) ∧
  (∀ (j : Journal) (r : Run) (due : Nat) (reason : MissReason),
    let opened : Journal :=
      { j.append
          { number := 0, outcome := .missed, source := .schedule, plan := r.plan
            window := some r.window, due := due, startAt := none, exposure := none
            flags := { RecordFlags.clear with isOpen := true }, b := none, a := none
            level := none, volts := none, merged := none, cause := none, reason := some reason
            missCount := 1, lastDue := some due } with
        openRun := r.number }
    (j.records = [] → j.miss r due reason = opened) ∧
    ∀ (before : List FrameRecord) (x : FrameRecord), j.records = before ++ [x] →
      let same : Prop := x.flags.isOpen = true ∧ x.outcome = .missed ∧ x.source = .schedule ∧
        j.openRun = r.number ∧ x.plan = r.plan ∧ x.reason = some reason ∧ x.missCount < 65535
      (same → j.miss r due reason = { j with
        records := before ++ [{ x with missCount := x.missCount + 1, lastDue := some due }] }) ∧
      (¬ same → j.miss r due reason = opened))

/-- R44 step 6, R39, R46: the consumption that brings the countdown of an ACTIVE run to 0, a miss
or an operation's, takes the end action. A stop, or a chain to an EMPTY plan, raises PLAN_DONE but
for STOP_SILENT. With no operation, or with the SCHEDULE operation whose due it is, it ends the
run at once with RUN_ENDED (R37) and marks its window done for the occurrence. A miss while an
EXTERNAL or MANUAL operation is in flight brings the run to ENDING instead, and it ends with that
operation. A chain to a DEFINED plan goes on from the consumed due under the new plan, with E_base
and the run number kept, and raises PLAN_DONE for CHAIN_NOTIFY alone and no notice of a run. Every
detail is the finished plan's number. -/
def Obligations.CountdownTakesTheEndAction : Prop :=
  (∀ (s : Part) (r : Run) (p : Plan) (c : Consumption),
    s.run = some r → r.state = .active → s.planAt r.plan = some p → 0 < p.frameLimit →
    r.remaining = 1 →
    let feedback := match c with
      | .byOperation f => f
      | .missed _ => none
    let u := consumeDue c s
    let shows (k : NoticeKind) : Prop :=
      s.tables.general.mask.getLsbD k.index = true →
        ∃ n, entryOf k u.notices = some n ∧ n.detail = some r.plan.val ∧ n.last = s.now
    let silent (k : NoticeKind) : Prop := entryOf k u.notices = entryOf k s.notices
    u.op = s.op ∧
    ((p.endAction.chains = false ∨ (p.chainTarget.bind s.planAt) = none) →
      (p.endAction ≠ .stopSilent → shows .planDone) ∧
      (p.endAction = .stopSilent → silent .planDone) ∧
      ((∀ o ∈ s.op, o.source = .schedule) →
        u.run = none ∧ u.arbiter.schedule = none ∧ u.holders.keepWarm = false ∧ shows .runEnded ∧
        (∀ o, s.occurrenceNow r.window = some o → u.doneMark = some ⟨r.window, o.stop⟩) ∧
        (∀ e, r.eBase = some e → u.lastBase = some (r.plan, e))) ∧
      (∀ o, s.op = some o → o.source ≠ .schedule →
        silent .runEnded ∧ u.doneMark = s.doneMark ∧ u.lastBase = s.lastBase ∧
        u.arbiter.schedule = none ∧ u.holders.keepWarm = false ∧
        ∃ n, u.run = some n ∧ n.state = .ending ∧ n.byEndAction = true ∧ n.number = r.number ∧
          n.window = r.window ∧ n.plan = r.plan ∧ n.eBase = r.eBase)) ∧
    (∀ t q, p.endAction.chains = true → p.chainTarget = some t → s.planAt t = some q →
      silent .runEnded ∧ silent .runStarted ∧
      (p.endAction = .chainNotify → shows .planDone) ∧
      (p.endAction = .chain → silent .planDone) ∧ u.doneMark = s.doneMark ∧
      ∃ n, u.run = some n ∧ n.plan = t ∧ n.state = .active ∧
        n.k = 0 ∧ n.remaining = q.frameLimit ∧ n.ring = 0 ∧ n.number = r.number ∧
        n.nextDue = r.nextDue + 4096 * min (q.intervalStart * s.factor) 691200 ∧
        n.eBase = r.eBase ∧ n.aPrev = r.aPrev ∧ n.bLast = feedback)) ∧
  (∀ (s : Part) (r : Run), s.run = some r → r.state = .ending →
    let u := releaseOperation s
    (s.tables.general.mask.getLsbD NoticeKind.runEnded.index = true →
      ∃ n, entryOf .runEnded u.notices = some n ∧ n.detail = some r.plan.val ∧ n.last = s.now) ∧
    (∀ e, r.eBase = some e → u.lastBase = some (r.plan, e)) ∧ u.op = none ∧
    (s.engine = .disarmed → u.run = none) ∧
    (s.awake = false ∨ s.hold = true → u.run = none ∧
      (∀ o, r.byEndAction = true → s.occurrenceNow r.window = some o →
        u.doneMark = some ⟨r.window, o.stop⟩)) ∧
    ∀ n ∈ u.run, n.state = .active ∧ n.k = 0 ∧ n.eBase = none ∧
      n.number = (if s.runCount < 4294967295 then s.runCount + 1 else 1))

/-- R11, R49, R161, R162: over lawful records a catch-up goes on until the run has ended, has
entered ENDING, or has a next due later than now; it leaves no SCHEDULE request, the miss of the
first due passed is the first thing in the journal, and nothing but the run, the journal, the
notices and what a run's end leaves (KEEP_WARM, last_base and the done mark) is changed. -/
def Obligations.CatchUpPassesEveryDue : Prop :=
  ∀ (s : Part) (reason : MissReason), s.tables.Lawful → s.dueGranted = false →
    (∀ r ∈ s.run, (s.planAt r.plan).isSome = true) →
    Kept false s (catchUp reason s) ∧ (catchUp reason s).arbiter.schedule = none ∧
    (∀ r, s.run = some r → r.state = .active → r.nextDue ≤ s.now →
      (s.journal.miss r r.nextDue reason).Grows (catchUp reason s).journal) ∧
    (catchUp reason s).op = s.op ∧ (catchUp reason s).camera = s.camera ∧
    (catchUp reason s).lending = s.lending ∧ (catchUp reason s).meter = s.meter ∧
    (catchUp reason s).battery = s.battery ∧
    (catchUp reason s).arbiter = { s.arbiter with schedule := none } ∧
    (catchUp reason s).holders =
      { s.holders with keepWarm := (catchUp reason s).holders.keepWarm } ∧
    (catchUp reason s).runCount = s.runCount ∧
    (s.duePassed = true → (catchUp reason s).holders.keepWarm = false) ∧
    (s.duePassed = false → catchUp reason s = withdrawSchedule s) ∧
    ∀ r, (catchUp reason s).run = some r → r.state = .active → s.now < r.nextDue

/-- R35, R39: a window boundary, a midnight and the end of a marked occurrence that have been
reached are taken once, and the selector re-evaluates; in DISARMED with nothing going on they
change no more than that. The next boundary is the first second of day equal to a start_sod or
end_sod of an enabled window after those counted as taken, and the next midnight likewise. The
model counts a boundary and a midnight as taken up to now, and re- evaluates as a mark ends
(assumption 9). The part after it is that of the re-evaluation with the tail of the step
(assumption 8). -/
def Obligations.WindowMomentsReEvaluate : Prop :=
  (∀ s : Part, s.tables.Lawful →
    let isBoundary (t : Nat) : Prop := s.time.boundarySeen < t ∧ t % 32768 = 0 ∧
      ∃ i : Fin 8, (s.tables.windows.get i).enabled = true ∧
        (t / 32768 % 86400 = (s.tables.windows.get i).startSod ∨
          t / 32768 % 86400 = (s.tables.windows.get i).endSod)
    (∀ m, s.boundaryMoment = some m ↔ isBoundary m ∧ ∀ t, isBoundary t → m ≤ t) ∧
    s.midnightMoment = some ((s.time.midnightSeen / 2831155200 + 1) * 2831155200)) ∧
  ∀ s : State, s.part.awake = true → s.part.now < Config.calendarSpan →
    (∀ m, s.part.boundaryMoment = some m → m ≤ s.part.now →
      let seen : Part := { s.part with time := { s.part.time with boundarySeen := s.part.now } }
      exec .windowBoundary s = .next (s.put (settle (reEvaluate seen))) ∧
      Kept false seen (settle (reEvaluate seen)) ∧
      (s.part.Still → s.part.engine = .disarmed → s.part.arbiter.schedule = none →
        settle (reEvaluate seen) =
          { seen with doneMark := markAfter seen.selectedWindow s.part.now s.part.doneMark })) ∧
    (∀ m, s.part.midnightMoment = some m → m ≤ s.part.now →
      let seen : Part := { s.part with time := { s.part.time with midnightSeen := s.part.now } }
      exec .midnight s = .next (s.put (settle (reEvaluate seen))) ∧
      Kept false seen (settle (reEvaluate seen)) ∧
      (s.part.Still → s.part.engine = .disarmed → s.part.arbiter.schedule = none →
        settle (reEvaluate seen) =
          { seen with doneMark := markAfter seen.selectedWindow s.part.now s.part.doneMark })) ∧
    (∀ m, s.part.doneMark = some m → m.stop ≤ s.part.now →
      let clear : Part := { s.part with doneMark := none }
      exec .occurrenceEnd s = .next (s.put (settle (reEvaluate clear))) ∧
      Kept false s.part (settle (reEvaluate clear)) ∧
      (s.part.Still → s.part.engine = .disarmed → s.part.arbiter.schedule = none →
        settle (reEvaluate clear) = clear))

/-- R41, R42, R38: ARM needs a SET clock and is refused with BUSY in PAUSED and SUSPENDED; from
DISARMED it leads to ARMED, or SUSPENDED with a FAULTED camera. RESUME does the same from PAUSED
alone. DISARM is accepted in every state; with nothing in flight the run ends at once and its
request is withdrawn. -/
def Obligations.ArmDisarmAndResume : Prop :=
  ∀ s : State, s.part.awake = true → s.part.link.handled = none →
    let target : EngineState := if s.part.health = .faulted then .suspended else .armed
    (s.part.time.clock = .notSet → exec (.arm []) s =
      .next (s.put (startReply ⟨0x20#8, []⟩ (.refused .clockNotSet) s.part))) ∧
    (s.part.time.clock = .set → (s.part.engine = .paused ∨ s.part.engine = .suspended) →
      exec (.arm []) s = .next (s.put (startReply ⟨0x20#8, []⟩ (.refused .busy) s.part))) ∧
    (s.part.time.clock = .set → (s.part.engine = .disarmed ∨ s.part.engine = .armed) →
      ∃ t : State, exec (.arm []) s = .next t ∧ t.pending = s.pending ∧
        Kept false (startReply ⟨0x20#8, []⟩ (.ok [])
          { s.part with engine := if s.part.engine = .disarmed then target else .armed }) t.part) ∧
    (s.part.engine ≠ .paused → exec (.resume []) s =
      .next (s.put (startReply ⟨0x22#8, []⟩ (.refused .busy) s.part))) ∧
    (s.part.engine = .paused → ∃ t : State, exec (.resume []) s = .next t ∧ t.pending = s.pending ∧
      Kept false (startReply ⟨0x22#8, []⟩ (.ok []) { s.part with engine := target }) t.part) ∧
    (s.part.engine = .disarmed → exec (.disarm []) s =
      .next (s.put (startReply ⟨0x21#8, []⟩ (.ok []) s.part))) ∧
    (s.part.engine ≠ .disarmed → ∃ t : State, exec (.disarm []) s = .next t ∧
      t.pending = s.pending ∧
      Kept false (startReply ⟨0x21#8, []⟩ (.ok []) { s.part with engine := .disarmed }) t.part ∧
      (s.part.Still → t.part.run = none ∧ t.part.arbiter.schedule = none ∧
        t.part.journal = s.part.journal))

/-- R84, R85: the SCHEDULE request is raised in an ARMED engine for an ACTIVE run whose wake time
has been reached, where its slot is empty, no operation holds the due and its late deadline has
not passed (at that very instant it may still be raised: DEDUCED, assumption 10): with CAM_PWR off
at once, as from the wake time on or at the moment at which CAM_PWR goes off, and with CAM_PWR on
at the due. It carries the run's plan, next_due, the raise time and the late_limit stored then. It
is granted in the same step where R89 allows, and waits in its slot otherwise (the order of the
tail of a step: assumption 8). In no other case is it raised. A wake time taken stays so (the
model's choice, assumption 25), and one before the first instant is instant 0 (assumption 15).
SET_REHEARSAL, which ends KEEP_WARM, is one step that puts CAM_PWR off.
R75, R85: a wake time that is reached is taken, and where no loaded reading follows it is then
taken for good, so that it acts once; an IDLE meter begins a reading at its start gate, and a
MEASURING or STOPPED one is left alone.
R93, R54: at its due, taken once, an operation in WAITING makes the due's computation from the
operation's profile, the run, the stored plan and the latest reading (R56 to R59, R65, R67); its
E_base and A_prev go into the run at once, and it passes on to its first frame. -/
def Obligations.WakeTimesAndDuesActOnce : Prop :=
  (∀ (s : Part) (m : Nat),
     (s.wakeMoment = some m ↔ ∃ r, s.run = some r ∧ s.engine = .armed ∧ r.state = .active ∧
       r.wakeReached = false ∧ m = r.nextDue - 4096 * (s.profileOfPlan r.plan).wakeLead) ∧
     (s.dueMoment = some m ↔ ∃ r, s.run = some r ∧ r.dueReached = false ∧ m = r.nextDue)) ∧
  (∀ s : Part, s.run = none → raiseSchedule s = s) ∧
  (∀ (s : Part) (r : Run), s.run = some r →
     let limit := s.tables.general.lateLimit
     let q : Request := ⟨r.plan, some r.nextDue, s.now, s.time.elapsed, none, limit⟩
     let open_ : Prop := s.awake = true ∧ s.hold = false ∧ s.engine = .armed ∧ r.state = .active ∧
       r.wakeReached = true ∧ s.arbiter.schedule = none ∧
       (∀ o ∈ s.op, o.source = .schedule → o.settled = true) ∧ s.now ≤ r.nextDue + 4096 * limit
     let called : Prop := s.camPwr = false ∨ r.nextDue ≤ s.now
     let barred : Prop := s.health ≠ .healthy ∨ s.battery.level = .critical ∨
       s.lending.port.hostSide = true
     (open_ → called → raiseSchedule s =
       { s with
         run := some { r with lateLimit := limit }
         arbiter := { s.arbiter with schedule := some q } }) ∧
     (¬ (open_ ∧ called) → raiseSchedule s = s) ∧
     (open_ → called → s.op = none → s.arbiter.external = none → s.arbiter.manual = none →
       (barred → (settle s).op = none ∧ (settle s).arbiter.schedule = some q) ∧
       (¬ barred → ∃ o, (settle s).op = some o ∧ o.source = .schedule ∧ o.request = q ∧
         (settle s).arbiter.schedule = none)) ∧
     (∀ o, s.op = some o → o.askReading = false → o.phase.isWaking = false →
       s.lending.port.hostSide = false → settle s = raiseSchedule s)) ∧
  (∀ (s : State) (r : Run) (b : Byte), s.part.awake = true → s.part.link.handled = none →
     s.part.hold = false → s.part.run = some r → s.part.engine = .armed → r.state = .active →
     r.wakeReached = true → s.part.op = none → s.part.arbiter.schedule = none →
     s.part.arbiter.external = none → s.part.arbiter.manual = none →
     s.part.health = .healthy → s.part.battery.level ≠ .critical →
     s.part.lending.port = .owned → s.part.holders = ⟨false, true, false, false⟩ →
     s.part.now ≤ r.nextDue + 4096 * s.part.tables.general.lateLimit → b.toNat ≤ 1 →
     ∃ (t : State) (o : Operation), exec (.setRehearsal [b]) s = .next t ∧
       t.pending = s.pending ∧ t.part.op = some o ∧ o.source = .schedule ∧
       o.request = ⟨r.plan, some r.nextDue, s.part.now, s.part.time.elapsed, none,
         s.part.tables.general.lateLimit⟩) ∧
  (∀ (s : State) (r : Run), s.part.awake = true → s.part.run = some r → r.dueReached = false →
     r.nextDue ≤ s.part.now → s.part.now < Config.calendarSpan → s.part.engine = .armed →
     r.state = .active → r.wakeReached = true → s.part.lending.port ≠ .reclaiming →
     (∀ o ∈ s.part.op, o.phase ≠ .waiting) → exec .dueReached s =
       .next (s.put (settle { s.part with run := some { r with dueReached := true } }))) ∧
  (∀ (s : State) (m : Nat), s.part.awake = true → s.part.wakeMoment = some m → m ≤ s.part.now →
     s.part.now < Config.calendarSpan →
     ∃ t : State, exec .wakeTime s = .next t ∧ t.pending = s.pending ∧ Kept false s.part t.part ∧
       (s.part.meter.state = .idle → t.part.meter =
         { s.part.meter with
           state :=
             .measuring ⟨s.part.meter.startGate, 0, s.part.after (gateTicks s.part.meter.startGate)⟩
           count := 0 }) ∧
       (s.part.meter.state ≠ .idle → t.part.meter = s.part.meter) ∧
       (∀ r, s.part.run = some r → t.part = settle
         { s.part with run := some { r with wakeReached := true }, meter := t.part.meter }) ∧
       ((∀ o ∈ s.part.op, o.askReading = false) →
         (s.part.camPwr = true ∨ s.part.rehearsal = true ∨ s.part.monitor.state = .riding) →
         t.part.wakeMoment = none)) ∧
  (∀ (s : State) (r : Run) (o : Operation) (p : Plan), s.part.awake = true →
     s.part.run = some r → r.dueReached = false → r.nextDue ≤ s.part.now →
     s.part.now < Config.calendarSpan → s.part.op = some o → o.phase = .waiting →
     o.askReading = false → s.part.lending.port.hostSide = false → s.part.planAt r.plan = some p →
     ∃ (t : State) (q : Operation) (c : Computation) (n : Run), exec .dueReached s = .next t ∧
       t.pending = s.pending ∧ Kept false s.part t.part ∧
       t.part.op = some q ∧ q.comp = some c ∧ q.phase.isUnderway = true ∧
       t.part.run = some n ∧ DueComputation o r p s.part q c n ∧
       n.nextDue = r.nextDue ∧ n.k = r.k ∧
       n.dueReached = true ∧ t.part.dueMoment = none ∧
       t.part.journal = s.part.journal)

/-- R47: a due whose late limit passes without a grant is missed for the first reason that holds:
PAUSED and CAMERA_FAULT by the engine, RECOVERING by the camera's health, LENT by the port, and
BUSY otherwise; the miss goes into the journal. Outside ARMED, with nothing in flight, the run
then stands one interval on. -/
def Obligations.DueIsMissedAtItsLateLimit : Prop :=
  (∀ (s : Part) (r : Run), r.lateInstant = r.nextDue + 4096 * r.lateLimit ∧
    (s.dueGranted = true ↔ ∃ o, s.op = some o ∧ o.source = .schedule ∧ o.settled = false)) ∧
  ∀ (s : State) (r : Run), s.part.awake = true → s.part.run = some r → r.state = .active →
    s.part.dueGranted = false → r.lateInstant ≤ s.part.now → s.part.now < Config.calendarSpan →
    let reason : MissReason :=
      if s.part.engine = .paused then .paused
      else if s.part.engine = .suspended then .cameraFault
      else if s.part.health.isRecovering = true then .recovering
      else if s.part.lending.port.hostSide = true then .lent
      else .busy
    ∃ t : State, exec .dueLateLimit s = .next t ∧ t.pending = s.pending ∧ Kept false s.part t.part ∧
      (s.part.journal.miss r r.nextDue reason).Grows t.part.journal ∧
      (∀ p, s.part.Still → s.part.engine ≠ .armed → s.part.planAt r.plan = some p →
        (p.frameLimit = 0 ∨ 2 ≤ r.remaining) →
        s.part.now < r.nextDue + eighths (s.part.effectiveInterval p r.k) →
        ∃ n, t.part.run = some n ∧
          n.nextDue = r.nextDue + eighths (s.part.effectiveInterval p r.k) ∧
          n.k = (if r.k < 4294967295 then r.k + 1 else 4294967295) ∧ n.bLast = none ∧
          t.part.arbiter.schedule = none ∧
          t.part.journal = s.part.journal.miss r r.nextDue reason)

/-! ### Exposure computation (chapter 4) -/

/-- R52: D(s) is M[r] × 2^q for s = 8q + r with q ≥ 0, and (M[r] + 2^(−q−1)) shifted right by −q
places with q < 0, over the table of the eight mantissas; and (R53) D never decreases as s
increases. -/
def Obligations.DurationNeverFalls : Prop :=
  (mantissa 0 = 32768 ∧ mantissa 1 = 35734 ∧ mantissa 2 = 38968 ∧ mantissa 3 = 42495 ∧
    mantissa 4 = 46341 ∧ mantissa 5 = 50535 ∧ mantissa 6 = 55109 ∧ mantissa 7 = 60097) ∧
  (∀ r q : Nat, r ≤ 7 → duration (8 * q + r) = mantissa r * 2 ^ q) ∧
  (∀ r q : Nat, r ≤ 7 → 1 ≤ q →
    duration (r - 8 * (q : Int)) = (mantissa r + 2 ^ (q - 1)) / 2 ^ q) ∧
  ∀ s t : Int, s ≤ t → duration s ≤ duration t

/-- R57: the budget in ticks is the floor of (I_fit − reserve − (n − 1) × spacing) × 4,096
divided by n.
R58: s_cap is the largest s of the effective range whose D(s) is within the budget; a due is TIGHT,
with s_cap at effective s_min, just where the budget is negative or below D(effective s_min). -/
def Obligations.FitCapFollowsTheBudget : Prop :=
  (∀ interval reserve spacing n : Nat, 0 < n →
     (n : Int) * fitBudget interval reserve spacing n ≤
       ((interval : Int) - reserve - ((n : Int) - 1) * spacing) * 4096 ∧
     ((interval : Int) - reserve - ((n : Int) - 1) * spacing) * 4096 <
       (n : Int) * (fitBudget interval reserve spacing n + 1)) ∧
  (∀ (budget : Int) (e : EffectiveLimits), e.sMin ≤ e.sMax →
     ((fitOf budget e).tight = true ↔ budget < 0 ∨ budget < (duration e.sMin : Int)) ∧
     ((fitOf budget e).tight = true → (fitOf budget e).cap = e.sMin) ∧
     ((fitOf budget e).tight = false →
       e.sMin ≤ (fitOf budget e).cap ∧ (fitOf budget e).cap ≤ e.sMax ∧
       (duration (fitOf budget e).cap : Int) ≤ budget ∧
       ∀ s : Int, (fitOf budget e).cap < s → s ≤ e.sMax → budget < (duration s : Int)))

/-- R62: the feedback correction is e' × gain_K / 16 truncated toward zero, where e' is the error
carried toward zero by the deadband: 0 within it, with the error's sign beyond it, and 0 without
B_last.
R61: the starting value of a first update, which E_op takes in its third case too (R66), is E_init
under FROM_PLAN, C_amb − A_now under FROM_AMBIENT, or E_init without A_now, and under INHERIT the
E_base of last_base, or as FROM_AMBIENT without one; clamped, it becomes E_base.
R61, R63, R64, R65: E_base ends within E_min..E_max; a later update moves it from where it stood
by the change that the mode's row of R63 desires, held to step_limit_L before that clamp: none
under FIXED, the correction under FEEDBACK, the way to C_amb − A_now under AMBIENT, and A_prev −
A_now with the correction under BLEND, an ambient term being 0 where a reading is absent.
RATE_LIMITED says that the limit acted, and A_prev becomes A_now where a reading is held and is
kept otherwise. -/
def Obligations.BaseMovesByALimitedCorrection : Prop :=
  (∀ (p : Plan) (target : Int),
     correction p target none = 0 ∧
     ∀ b offset : Int,
       let err := target - (b - offset)
       (err.natAbs ≤ p.deadband → correction p target (some (b, offset)) = 0) ∧
       ((p.deadband : Int) < err →
         correction p target (some (b, offset)) = (err - p.deadband) * p.gainK / 16 ∧
         0 ≤ correction p target (some (b, offset))) ∧
       (err < -(p.deadband : Int) →
         correction p target (some (b, offset)) = -((-err - p.deadband) * p.gainK / 16) ∧
         correction p target (some (b, offset)) ≤ 0)) ∧
  (∀ (p : Plan) (aNow : Option Int) (lastBase : Option (Fin 16 × Int)),
     let ambient : Int := match aNow with
       | some a => p.cAmb - a
       | none => p.eInit
     (p.startRule = .fromPlan → startValue p aNow lastBase = p.eInit) ∧
     (p.startRule = .fromAmbient → startValue p aNow lastBase = ambient) ∧
     (p.startRule = .inherit → lastBase = none → startValue p aNow lastBase = ambient) ∧
     (∀ plan e, p.startRule = .inherit → lastBase = some (plan, e) →
       startValue p aNow lastBase = e)) ∧
  (∀ (p : Plan) (target low high : Int) (eBase aPrev aNow : Option Int)
     (bLast : Option (Int × Int)) (lastBase : Option (Fin 16 × Int)), low ≤ high →
     let u := baseUpdate p target low high eBase aPrev aNow bLast lastBase
     low ≤ u.eBase ∧ u.eBase ≤ high ∧ u.aPrev = aNow.or aPrev ∧
     (eBase = none → u.rateLimited = false ∧ u.feedbackUsed = false ∧
       (u.high = true ↔ high < startValue p aNow lastBase) ∧
       (u.low = true ↔ startValue p aNow lastBase < low) ∧
       u.eBase = max low (min high (startValue p aNow lastBase))) ∧
     (∀ e, eBase = some e →
       let want : Int :=
         match p.mode with
         | .fixed => 0
         | .feedback => correction p target bLast
         | .ambient => aNow.elim 0 (fun a => (p.cAmb - a) - e)
         | .blend =>
           aPrev.elim 0 (fun before => aNow.elim 0 (fun a => before - a)) +
             correction p target bLast
       let step := max (-(p.stepLimit : Int)) (min p.stepLimit want)
       u.eBase = max low (min high (e + step)) ∧
       (u.high = true ↔ high < e + step) ∧ (u.low = true ↔ e + step < low) ∧
       (u.rateLimited = true ↔ step ≠ want) ∧
       (u.feedbackUsed = true ↔ (p.mode = .feedback ∨ p.mode = .blend) ∧ bLast.isSome = true)))

/-- The law of the device on exposure (R67, R68, R69): under a lawful profile every frame's s lies
within the effective shutter range and its cap, g within 0..effective g_max, s + g is E_frame,
E_frame is the base plus the offset clamped, and the SHUTTER hold is D(s) for a bulb frame and
shutter_pulse otherwise. The split goes through its four phases: shutter to the knee, gain to
g_knee, shutter to the cap, gain to g_max; so s and g follow E_frame through the four regions. -/
def Obligations.FrameSettingsKeepTheExposureLaw : Prop :=
  ∀ (prof : Profile) (budget base offset : Int), prof.Lawful →
    let e := prof.effective
    let f := fitOf budget e
    let x := frameSetting prof f base offset
    let knee := min e.sKnee f.cap
    let s1 := max e.sMin (min knee x.eFrame)
    let g1 := min (x.eFrame - s1) e.gKnee
    let s2 := min (x.eFrame - s1 - g1) (f.cap - s1)
    x.s = s1 + s2 ∧ x.g = g1 + min (x.eFrame - s1 - g1 - s2) (e.gMax - g1) ∧
    (x.eFrame ≤ knee → x.s = x.eFrame ∧ x.g = 0) ∧
    (knee ≤ x.eFrame → x.eFrame ≤ knee + e.gKnee → x.s = knee ∧ x.g = x.eFrame - knee) ∧
    (knee + e.gKnee ≤ x.eFrame → x.eFrame ≤ f.cap + e.gKnee →
      x.s = x.eFrame - e.gKnee ∧ x.g = e.gKnee) ∧
    (f.cap + e.gKnee ≤ x.eFrame → x.s = f.cap ∧ x.g = x.eFrame - f.cap) ∧
    e.sMin ≤ x.s ∧ x.s ≤ f.cap ∧ f.cap ≤ e.sMax ∧ 0 ≤ x.g ∧ x.g ≤ e.gMax ∧
    x.s + x.g = x.eFrame ∧ x.eFrame = max e.sMin (min (f.cap + e.gMax) (base + offset)) ∧
    (x.high = true ↔ f.cap + e.gMax < base + offset) ∧ (x.low = true ↔ base + offset < e.sMin) ∧
    x.offset = offset ∧ (x.bulb = true ↔ prof.sBulb ≤ x.s) ∧
    x.hold = (if prof.sBulb ≤ x.s then duration x.s else prof.shutterPulse) ∧
    (prof.lineMode = .noSettings → x.g = 0)

/-! ### Ambient light meter (chapter 5) -/

/-- R74: the periodic deadline that has been reached is set one meter_period on from when it was
due; an IDLE meter begins a reading at its start gate and a MEASURING one goes on with the one it
has.
R72, R76, R79: gates 0, 1 and 2 last 512, 8,192 and 131,072 ticks; a gate that ends with N pulses,
up to 1,048,575, sends the reading on to the next gate that the table calls for and that this
reading has not used, and otherwise finishes it: the record replaces the latest reading, its gate
becomes the start gate, and the gate states follow the record's A. That the command carries the
pulses is the model's choice (assumption 17). -/
def Obligations.MeterReadsByItsPeriodAndGates : Prop :=
  (gateTicks 0 = 512 ∧ gateTicks 1 = 8192 ∧ gateTicks 2 = 131072) ∧
  (∀ s : State, s.part.awake = true → s.part.meter.state ≠ .stopped →
     s.part.reached s.part.meter.deadline = true →
     ∃ t : State, exec .meterPeriodicDeadline s = .next t ∧ t.pending = s.pending ∧
       t.part.meter =
         { s.part.meter with
           lastDue := s.part.meter.deadline
           deadline := s.part.meter.deadline +
             BitVec.ofNat 48 (4096 * s.part.tables.general.meterPeriod)
           state :=
             if s.part.meter.state = .idle then
               .measuring ⟨s.part.meter.startGate, 0,
                 s.part.after (gateTicks s.part.meter.startGate)⟩
             else s.part.meter.state
           count := if s.part.meter.state = .idle then 0 else s.part.meter.count } ∧
       Kept false { s.part with meter := t.part.meter } t.part) ∧
  (∀ (s : State) (m : Measuring) (pulses : Nat), s.part.awake = true →
     s.part.meter.state = .measuring m → s.part.reached m.gateEnds = true →
     let n := min (s.part.meter.count + pulses) 1048575
     let unused (g : Fin 3) : Prop := m.used.getLsbD g.val = false ∧ g ≠ m.gate
     let onward (g : Fin 3) : Prop :=
       (n = 1048575 ∧ g.val + 1 = m.gate.val ∨ n < 1024 ∧ g.val = m.gate.val + 1) ∧ unused g
     ∃ t : State, exec (.gateEnd pulses) s = .next t ∧ t.pending = s.pending ∧
       (∀ g, onward g →
         t.part.meter =
           { s.part.meter with
             state :=
               .measuring ⟨g, m.used ||| BitVec.ofNat 3 (2 ^ m.gate.val), s.part.after (gateTicks g)⟩
             count := 0 } ∧
         Kept false { s.part with meter := t.part.meter } t.part) ∧
       ((∀ g, ¬ onward g) →
         t.part.meter.latest = some
           { a := ambientOf n m.gate s.part.tables.general.cCal, gate := m.gate, count := n
             dark := n == 0, saturated := n == 1048575, completedAt := s.part.now } ∧
         t.part.meter.startGate = m.gate ∧ t.part.meter.deadline = s.part.meter.deadline ∧
         t.part.gates = Vector.ofFn (fun i =>
           gateAfter (s.part.tables.windows.get i) (s.part.gates.get i)
             (ambientOf n m.gate s.part.tables.general.cCal)) ∧
         Kept false { s.part with meter := t.part.meter, gates := t.part.gates } t.part))

/-! ### Requests and operations (chapter 6) -/

/-- R87: SHOOT is taken by the first line of its table that applies. An accepted one is PENDING
and fills the MANUAL slot; every other answer leaves all but the reply as it was. The part after
it is given with the tail of the step (assumption 8). -/
def Obligations.ShootFollowsItsTable : Prop :=
  ∀ (p : List Byte) (s : State), s.part.awake = true → s.part.link.handled = none →
    let answer (r : Reply) : Prop :=
      exec (.shoot p) s = .next (s.put (startReply ⟨0x23#8, p⟩ r s.part))
    (p.length ≠ 1 ∧ p.length ≠ 3 → answer .badLength) ∧
    ((p.length = 1 ∨ p.length = 3) → 15 < fieldNat 0 1 p → answer (.badField 0)) ∧
    ∀ i : Fin 16, (p.length = 1 ∨ p.length = 3) → fieldNat 0 1 p = i.val →
    let q : Request := ⟨i, none, s.part.now, s.part.time.elapsed,
      if p.length = 3 then some (fieldInt 1 2 p) else none, s.part.tables.general.lateLimit⟩
    let badE : Prop := p.length = 3 ∧ (fieldInt 1 2 p < -96 ∨ 128 < fieldInt 1 2 p)
    (s.part.planAt i = none → answer (.badField 0)) ∧
    ((s.part.planAt i).isSome = true → badE → answer (.badField 1)) ∧
    ((s.part.planAt i).isSome = true → ¬ badE →
      (s.part.arbiter.manual.isSome = true → answer (.refused .busy)) ∧
      (s.part.arbiter.manual = none →
        (s.part.lending.port ≠ .owned → answer (.refused .lent)) ∧
        (s.part.lending.port = .owned →
          (s.part.engine = .suspended → answer (.refused .cameraFault)) ∧
          (s.part.engine ≠ .suspended →
            (s.part.battery.level = .critical → answer (.refused .critical)) ∧
            (s.part.battery.level ≠ .critical →
              ∃ t : State, exec (.shoot p) s = .next t ∧ t.pending = s.pending ∧
                t.part = startReply ⟨0x23#8, p⟩ .pending (settle
                  { s.part with arbiter := { s.part.arbiter with manual := some q } }) ∧
                Kept false (startReply ⟨0x23#8, p⟩ .pending s.part) t.part ∧
                (∀ o, s.part.op = some o → o.askReading = false → o.phase.isWaking = false →
                  t.part = startReply ⟨0x23#8, p⟩ .pending (raiseSchedule
                    { s.part with arbiter :=
                        { s.part.arbiter with manual := some q } })))))))

/-- R86: an edge of the other kind, or with no DEFINED trigger plan, does nothing; within
holdoff of the last EXTERNAL grant, or with an EXTERNAL request pending, it is merged, up to
255; any other raises an EXTERNAL request for the trigger plan. The part after it is given with
the tail of the step (assumption 8). -/
def Obligations.TriggerEdgesRaiseOrMerge : Prop :=
  ∀ (rising : Bool) (s : State), s.part.awake = true →
    let p : Part := { s.part with pins := { s.part.pins with trigger := rising } }
    let wanted : Prop := (s.part.tables.general.triggerEdge = .rising ↔ rising = true)
    (¬ wanted → exec (.triggerEdge rising) s = .next (s.put p)) ∧
    (wanted → (s.part.tables.general.triggerPlan.bind s.part.planAt) = none →
      exec (.triggerEdge rising) s = .next (s.put (settle p))) ∧
    (∀ i, wanted → s.part.tables.general.triggerPlan = some i → (s.part.planAt i).isSome = true →
      let held : Prop := s.part.arbiter.external.isSome = true ∨
        ∃ g, s.part.arbiter.lastExternal = some g ∧
          (s.part.time.elapsed - g).toNat < s.part.tables.general.holdoff * 4096
      let q : Request := ⟨i, none, s.part.now, s.part.time.elapsed, none,
        s.part.tables.general.lateLimit⟩
      (held → exec (.triggerEdge rising) s = .next (s.put (settle
        { p with arbiter :=
            { p.arbiter with merged := min (s.part.arbiter.merged + 1) 255 } }))) ∧
      (¬ held → exec (.triggerEdge rising) s = .next (s.put (settle
        { p with arbiter :=
            { p.arbiter with external := some q } })))) ∧
    ∃ t : State, exec (.triggerEdge rising) s = .next t ∧ Kept false p t.part

/-- R88, R168: a held request whose late deadline, its raise time plus its late_limit on the
elapsed counter (R84), is reached is withdrawn with a closed MISSED BUSY record, of its source and
plan, with no window, its raise time as due and last_due and miss_count 1; an EXTERNAL one hands
over the merged count, which returns to 0. With nothing else going on, the slot and no more is
emptied, and a MANUAL one raises SHOOT_DONE with the record's number. -/
def Obligations.LateRequestsAreWithdrawn : Prop :=
  (∀ (source : Source) (plan : Fin 16) (window : Option (Fin 8)) (due : Nat)
     (merged : Option Nat) (reason : MissReason) (isOpen : Bool),
     missedRecord source plan window due merged reason isOpen =
       { number := 0, outcome := .missed, source := source, plan := plan, window := window
         due := due, startAt := none, exposure := none
         flags := ⟨false, false, false, false, false, false, false, isOpen⟩
         b := none, a := none, level := none, volts := none, merged := merged, cause := none
         reason := some reason, missCount := 1, lastDue := some due }) ∧
  (heldSource .external = .external ∧ heldSource .manual = .manual) ∧
  (∀ q : Request,
     q.lateDeadline = q.raisedElapsed + BitVec.ofNat 48 (4096 * q.lateLimit)) ∧
  ∀ (src : HeldSource) (q : Request) (s : State), s.part.awake = true →
    s.part.arbiter.slot (heldSource src) = some q → s.part.reached q.lateDeadline = true →
    let merged := match src with
      | .external => some s.part.arbiter.merged
      | .manual => none
    let journal := s.part.journal.append
      (missedRecord (heldSource src) q.plan none q.raisedAt merged .busy false)
    ∃ t : State, exec (.requestLateDeadline src) s = .next t ∧ t.pending = s.pending ∧
      Kept false s.part t.part ∧ journal.Grows t.part.journal ∧
      (s.part.run = none → s.part.op = none → s.part.lending.port = .owned →
        s.part.arbiter.schedule = none →
        (src = .external → s.part.arbiter.manual = none →
          t.part = { s.part with
            journal := journal
            arbiter := { s.part.arbiter with external := none, merged := 0 } }) ∧
        (src = .manual → s.part.arbiter.external = none →
          t.part = raiseNotice .shootDone (some s.part.journal.numberFor)
            { s.part with
              journal := journal, arbiter := { s.part.arbiter with manual := none } }))

/-- R89, R90: a grant is made only with no operation, a HEALTHY camera, a level other than
CRITICAL and the port OWNED, or YIELDING for SCHEDULE, while the part is awake and no reset is
being taken (R157, R164), and takes the pending request of the highest level, at equal levels
SCHEDULE before EXTERNAL before MANUAL; where the port admits none of the pending requests, none
is granted. The operation takes its plan's profile as stored, for EXTERNAL and MANUAL the plan
itself and REDUCED for a BURST at THRIFT and SCARCE, and the V of the latest reading (R51, R100).
OPERATION joins the holders and KEEP_WARM leaves.
R92, R122: granted with CAM_PWR off, it enters WAKING until wake_lead under FIXED_TIME or in
rehearsal, and until ready_timeout otherwise, and asks for a loaded reading in SUPPLIED and out of
rehearsal (R142). Granted with CAM_PWR on it enters no WAKING and asks for none: a SCHEDULE one
waits for its due, or makes the due's computation where the due has been reached, and another
makes its own computation and begins its first frame (R55, R66).
R104, R105: the camera is kept warm after an operation only at NORMAL, with a HEALTHY camera, for
the next due of an ACTIVE run in an ARMED engine that lies within wake_lead and keep_warm_limit of
now, and KEEP_WARM joins before OPERATION leaves.
R104, R149: KEEP_WARM leaves where the run ends or goes ENDING, where the engine leaves ARMED, and
where the level falls from NORMAL. -/
def Obligations.GrantAndKeepWarm : Prop :=
  (∀ s : Part,
     let g := s.tables.general
     let a := s.arbiter
     g.levelOf .schedule = g.levelSchedule ∧ g.levelOf .external = g.levelExternal ∧
     g.levelOf .manual = g.levelManual ∧
     a.slot .schedule = a.schedule ∧ a.slot .external = a.external ∧ a.slot .manual = a.manual ∧
     ∀ plan, s.planAt plan = s.tables.plans.get plan ∧
       ∀ p, s.planAt plan = some p → s.profileOfPlan plan = s.tables.profiles.get p.profile) ∧
  (∀ s : Part,
     let admits (src : Source) : Prop := (s.arbiter.slot src).isSome = true ∧
       (s.lending.port = .owned ∨ s.lending.port = .yielding ∧ src = .schedule)
     (s.mayGrant = false → arbiterTest s = s) ∧
     (s.candidate = none ↔ ∀ src, ¬ admits src) ∧ (s.candidate = none → arbiterTest s = s) ∧
     (s.mayGrant = true ↔ s.op = none ∧ s.health = .healthy ∧ s.battery.level ≠ .critical ∧
       s.awake = true ∧ s.hold = false) ∧
     (s.lending.port.hostSide = true → arbiterTest s = s) ∧
     (∀ src, s.candidate = some src →
       admits src ∧ (∀ other, admits other →
         s.tables.general.levelOf other ≤ s.tables.general.levelOf src ∧
         (s.tables.general.levelOf other = s.tables.general.levelOf src →
           src.code ≤ other.code))) ∧
     (∀ src q, s.mayGrant = true → s.candidate = some src → s.arbiter.slot src = some q →
       (arbiterTest s).arbiter.slot src = none ∧
       (∀ other, other ≠ src → (arbiterTest s).arbiter.slot other = s.arbiter.slot other) ∧
       (arbiterTest s).arbiter.lastExternal =
         (if src = .external then some s.time.elapsed else s.arbiter.lastExternal) ∧
       (arbiterTest s).holders.operation = true ∧ (arbiterTest s).holders.keepWarm = false ∧
       (arbiterTest s).battery = s.battery ∧
       let prof := s.profileOfPlan q.plan
       let lead := if s.rehearsal = true ∨ prof.wakeMode = .fixedTime then prof.wakeLead
         else prof.readyTimeout
       (s.camPwr = false → ∃ o, (arbiterTest s).op = some o ∧ GrantForms src q s o ∧
         o.phase = .waking (s.after (4096 * lead)) ∧
         (o.askReading = true ↔ s.rehearsal = false ∧ s.monitor.state = .supplied)) ∧
       (s.camPwr = true → ∃ o, GrantForms src q s o ∧
         (src = .schedule → (∀ r ∈ s.run, s.now < r.nextDue) → ∃ x, (arbiterTest s).op = some x ∧
           GrantForms src q s x ∧ x.phase = .waiting ∧ x.askReading = false) ∧
         (∀ r p, src = .schedule → s.run = some r → r.nextDue ≤ s.now → s.planAt r.plan = some p →
           ∃ x c n, (arbiterTest s).op = some x ∧ x.source = src ∧ x.request = q ∧
             x.askReading = false ∧ x.comp = some c ∧ x.phase.isUnderway = true ∧
             (arbiterTest s).run = some n ∧ DueComputation o r p s x c n) ∧
         (∀ p, src ≠ .schedule → s.planAt q.plan = some p →
           ∃ x c, (arbiterTest s).op = some x ∧ x.source = src ∧ x.request = q ∧
             x.askReading = false ∧ x.comp = some c ∧ x.phase.isUnderway = true ∧
             HeldComputation o p s c)))) ∧
  (∀ (o : Operation) (s : Part),
     (s.keepsWarm o.profile = true ↔
       s.battery.level = .normal ∧ s.health = .healthy ∧ s.engine = .armed ∧
       ∃ r, s.run = some r ∧ r.state = .active ∧
         (r.nextDue : Int) - 4096 * o.profile.wakeLead - s.now ≤ 4096 * o.profile.keepWarmLimit) ∧
     decidePower o s =
       { s with holders :=
           { s.holders with
             keepWarm := s.holders.keepWarm || s.keepsWarm o.profile, operation := false } }) ∧
  (∀ s : Part,
     (s.run.isSome = true → (endRun s).holders = { s.holders with keepWarm := false } ∧
       ((endRun s).run = none ∨ ∃ n, (endRun s).run = some n ∧ n.state = .ending)) ∧
     (∀ e : EngineState, e ≠ .armed → (setEngine e s).engine = e ∧
       (setEngine e s).holders = { s.holders with keepWarm := false }) ∧
     (∀ new : Level, s.battery.level = .normal → new ≠ .normal →
       (changeLevel new s).battery.level = new ∧ (changeLevel new s).holders.keepWarm = false))

/-- R102: ABORT ends the frame FAILED ABORTED in WAKING, WAITING, SETTING and FOCUSING; in
EXPOSING it releases both lines and the frame enters WRITING; in WRITING, and with no operation,
it is refused and changes nothing else. The part after it is given with the tail of the step
(assumption 8). -/
def Obligations.AbortActsByPhase : Prop :=
  ∀ s : State, s.part.awake = true → s.part.link.handled = none →
    (s.part.op = none → exec (.abort []) s =
      .next (s.put (startReply ⟨0x24#8, []⟩ (.refused .idle) s.part))) ∧
    ∀ o, s.part.op = some o →
      (∀ w, o.phase = .writing w → exec (.abort []) s =
        .next (s.put (startReply ⟨0x24#8, []⟩ (.refused .writing) s.part))) ∧
      (∀ d, o.phase = .exposing d → exec (.abort []) s = .next (s.put (startReply ⟨0x24#8, []⟩
        (.ok []) (settle (enterWriting { o with aborting := true } s.part))))) ∧
      (∀ d, o.phase = .exposing d → o.rehearsal = false → o.askReading = false →
        s.part.lending.port.hostSide = false → s.part.pins.camAct = true →
        exec (.abort []) s = .next (s.put (startReply ⟨0x24#8, []⟩ (.ok []) (raiseSchedule
          { s.part with
            camera := { s.part.camera with focus := false, shutter := false }
            op := some { o with
              aborting := true
              phase := .writing (.write (s.part.after (eighths o.profile.writeTimeout))) } })))) ∧
      (∀ d, o.phase = .exposing d → o.askReading = false → s.part.lending.port.hostSide = false →
        let writing (w : WriteWait) : Prop :=
          exec (.abort []) s = .next (s.put (startReply ⟨0x24#8, []⟩ (.ok []) (raiseSchedule
            { s.part with
              camera := { s.part.camera with focus := false, shutter := false }
              op := some { o with aborting := true, phase := .writing w } })))
        (o.rehearsal = true → writing (.rehearsal (s.part.after 32768))) ∧
        (o.rehearsal = false → s.part.pins.camAct = false → o.camActSeen = false →
          writing (.activity (s.part.after o.profile.activityTimeout))) ∧
        (o.rehearsal = false → s.part.pins.camAct = false → o.camActSeen = true →
          ∃ t : State, exec (.abort []) s =
            .next (s.put (startReply ⟨0x24#8, []⟩ (.ok []) t.part)) ∧
            FrameFails .aborted o s.part t.part)) ∧
      ((o.phase.isWaking = true ∨ o.phase = .waiting ∨ (∃ d, o.phase = .setting d) ∨
          ∃ d, o.phase = .focusing d) →
        ∃ t : State, exec (.abort []) s = .next (s.put (startReply ⟨0x24#8, []⟩ (.ok []) t.part)) ∧
          FrameFails .aborted o s.part t.part) ∧
      (∀ d, o.phase = .spacing d →
        ∃ t : State, exec (.abort []) s = .next (s.put (startReply ⟨0x24#8, []⟩ (.ok []) t.part)) ∧
          Kept true s.part t.part ∧
          (s.part.Alone → t.part.op = none ∧ t.part.holders.operation = false ∧
            t.part.journal = s.part.journal))

/-- R92, R109: the end of wake_lead, or READY under WAIT_READY, ends WAKING: a SCHEDULE
operation enters WAITING, or, where its due has been reached, makes the due's computation; one of
another source makes its own computation (R55, R56, R66), which changes no run, and begins its first
frame. READY does not end a FIXED_TIME wake. The part after it is given with the tail of the
step (assumption 8). -/
def Obligations.WakingEnds : Prop :=
  ∀ (s : State) (o : Operation) (d : Elapsed), s.part.awake = true → s.part.op = some o →
    o.phase = .waking d → o.askReading = false → s.part.lending.port.hostSide = false →
    let after (c : Instr) (p : Part) : Prop :=
      (o.source = .schedule → (∀ r ∈ s.part.run, s.part.now < r.nextDue) →
        exec c s =
          .next (s.put (raiseSchedule { p with op := some { o with phase := .waiting } }))) ∧
      (∀ r stored, o.source = .schedule → s.part.run = some r → r.nextDue ≤ s.part.now →
        s.part.planAt r.plan = some stored →
        ∃ (t : State) (q : Operation) (x : Computation) (n : Run), exec c s = .next t ∧
          t.pending = s.pending ∧ Kept false p t.part ∧ t.part.op = some q ∧ q.comp = some x ∧
          q.phase.isUnderway = true ∧ t.part.run = some n ∧
          DueComputation o r stored s.part q x n ∧ n.nextDue = r.nextDue) ∧
      (∀ plan, o.source ≠ .schedule → o.plan? = some plan →
        ∃ (t : State) (q : Operation) (x : Computation), exec c s = .next t ∧
          t.pending = s.pending ∧ Kept false p t.part ∧ t.part.op = some q ∧
          q.comp = some x ∧ q.phase.isUnderway = true ∧ HeldComputation o plan s.part x ∧
          t.part.journal = s.part.journal ∧
          ∀ r, s.part.run = some r → ∃ n, t.part.run = some n ∧ n.eBase = r.eBase ∧
            n.aPrev = r.aPrev ∧ n.bLast = r.bLast ∧ n.ring = r.ring)
    (o.timedWake = true ↔ o.rehearsal = true ∨ o.profile.wakeMode = .fixedTime) ∧
    (o.timedWake = true → s.part.reached d = true → after .wakeLeadElapsed s.part) ∧
    (o.profile.wakeMode = .waitReady → s.part.rehearsal = false →
      after .ready { s.part with camera := { s.part.camera with rx := [] } }) ∧
    (o.profile.wakeMode = .fixedTime → 0 < o.profile.wakeLead → s.part.rehearsal = false →
      exec .ready s = .next (s.put (raiseSchedule
        { s.part with camera := { s.part.camera with rx := [] } })))

/-- R91, R94 to R96, R99, R108, R109: an ACK with the frame's tag, the prefocus time, the last
byte of the SET and the burst spacing each move the operation on to its next phase, with FOCUS and
SHUTTER driven only out of rehearsal; after burst spacing a frame under line_mode NONE, or in
rehearsal, goes to FOCUSING or EXPOSING with no SET and no new tag; an ACK with another tag is
ignored, and so is READY in WAITING. CAM_ACT becoming active is noted in EXPOSING and starts the
write timer in WRITING, and is only a level in rehearsal. A SET goes out as nine bytes: SYNC, its
length 4, TYPE 0x51, the tag, the mode, s and g in two's complement, and the CRC, high byte first.
The 154 ticks of a SET are the model's (assumption 3). The part after it is given with the tail of
the step (assumption 8). -/
def Obligations.FramePhasesFollow : Prop :=
  (∀ m : SetMessage,
     let body : List Byte :=
       [4#8, 0x51#8, m.tag, if m.bulb then 1#8 else 0#8, BitVec.ofInt 8 m.s, BitVec.ofInt 8 m.g]
     m.wire = (0xC3#8 :: body) ++
       [(crc16 body).extractLsb' 8 8, (crc16 body).extractLsb' 0 8]) ∧
  ∀ (s : State) (o : Operation), s.part.awake = true → s.part.op = some o → o.askReading = false →
    s.part.lending.port.hostSide = false → s.part.rehearsal = o.rehearsal →
    let quiet : Part := { s.part with camera := { s.part.camera with rx := [] } }
    let exposing (q : Operation) (p : Part) : Part :=
      { p with
        op := some { q with
          phase := .exposing (p.after ((o.frame.map (·.hold)).getD o.profile.shutterPulse))
          startAt := some p.now, camActSeen := p.pins.camAct }
        camera := { p.camera with focus := !o.rehearsal, shutter := !o.rehearsal } }
    (∀ d, o.phase = .focusing d → s.part.reached d = true →
      exec .prefocusElapsed s = .next (s.put (raiseSchedule (exposing o s.part)))) ∧
    (∀ d tag, o.phase = .setting d → o.rehearsal = false →
      (o.tag = some tag → o.profile.prefocus = 0 → exec (.ack tag) s =
        .next (s.put (raiseSchedule (exposing { o with acked := true } quiet)))) ∧
      (o.tag = some tag → 0 < o.profile.prefocus → exec (.ack tag) s =
        .next (s.put (raiseSchedule
          { quiet with
            op := some { o with
              acked := true, phase := .focusing (s.part.after o.profile.prefocus) }
            camera := { quiet.camera with focus := true } }))) ∧
      (o.tag ≠ some tag → exec (.ack tag) s = .next (s.put (raiseSchedule quiet)))) ∧
    (o.phase = .waiting → exec .ready s = .next (s.put (raiseSchedule quiet))) ∧
    (let high : Part := { s.part with pins := { s.part.pins with camAct := true } };
      (∀ d, o.phase = .exposing d → o.rehearsal = false → exec (.camActChange true) s =
        .next (s.put (raiseSchedule { high with op := some { o with camActSeen := true } }))) ∧
      (∀ d, o.phase = .writing (.activity d) → o.rehearsal = false →
        exec (.camActChange true) s = .next (s.put (raiseSchedule
          { high with op := some { o with
              phase := .writing (.write (s.part.after (eighths o.profile.writeTimeout))) } }))) ∧
      (o.rehearsal = true → exec (.camActChange true) s = .next (s.put high))) ∧
    (∀ msg, o.phase = .setting none → s.part.camera.tx = some msg → o.tag = some msg.tag →
      s.part.reached s.part.camera.txEnds = true → exec .setSent s = .next (s.put (raiseSchedule
        { s.part with
          camera := { s.part.camera with tx := none }
          op := some { o with
            phase := .setting (some (s.part.after o.profile.settingTimeout)) } }))) ∧
    (∀ d f, o.phase = .spacing d → s.part.reached d = true →
      o.comp.bind (fun c => c.frames[o.index]?) = some f →
      o.profile.lineMode = .settings → o.rehearsal = false →
      exec .burstSpacingEnd s = .next (s.put (raiseSchedule
        { s.part with
          op := some { o with
            phase := .setting none, tag := some (s.part.camera.lastTag + 1), acked := false
            heldB := none, startAt := none, camActSeen := false }
          camera := { s.part.camera with
            lastTag := s.part.camera.lastTag + 1
            tx := some ⟨s.part.camera.lastTag + 1, f.bulb, f.s, f.g⟩
            txEnds := s.part.after 154 } }))) ∧
    (∀ d, o.phase = .spacing d → s.part.reached d = true →
      o.profile.lineMode = .noSettings ∨ o.rehearsal = true →
      let fresh : Operation :=
        { o with tag := none, acked := false, heldB := none, startAt := none, camActSeen := false }
      (o.profile.prefocus = 0 →
        exec .burstSpacingEnd s = .next (s.put (raiseSchedule (exposing fresh s.part)))) ∧
      (0 < o.profile.prefocus → exec .burstSpacingEnd s = .next (s.put (raiseSchedule
        { s.part with
          op := some { fresh with phase := .focusing (s.part.after o.profile.prefocus) }
          camera := { s.part.camera with focus := !o.rehearsal } }))))

/-- R95, R96, R122: the end of the hold releases both lines and enters WRITING, which waits for
CAM_ACT to become active, for it to become inactive, or, in rehearsal, for one second; where
CAM_ACT has been active and is inactive the write is complete at once, and the frame ends, or,
under report REPORT with no REPORT held, its report wait starts (R97). The part after it is given
with the tail of the step (assumption 8). -/
def Obligations.HoldEndsInWriting : Prop :=
  ∀ (s : State) (o : Operation) (d : Elapsed), s.part.awake = true → s.part.op = some o →
    o.phase = .exposing d → s.part.reached d = true → o.askReading = false →
    s.part.lending.port.hostSide = false →
    let writing (w : WriteWait) : Prop :=
      exec .holdElapsed s = .next (s.put (raiseSchedule
        { s.part with
          camera := { s.part.camera with focus := false, shutter := false }
          op := some { o with phase := .writing w } }))
    (o.rehearsal = true → writing (.rehearsal (s.part.after 32768))) ∧
    (o.rehearsal = false → s.part.pins.camAct = true →
      writing (.write (s.part.after (4096 * o.profile.writeTimeout)))) ∧
    (o.rehearsal = false → s.part.pins.camAct = false → o.camActSeen = false →
      writing (.activity (s.part.after o.profile.activityTimeout))) ∧
    (o.rehearsal = false → s.part.pins.camAct = false → o.camActSeen = true →
      o.aborting = false → o.profile.report = .noReport →
      ∃ t : State, exec .holdElapsed s = .next t ∧ t.pending = s.pending ∧
        FrameTaken none o s.part t.part) ∧
    (o.rehearsal = false → s.part.pins.camAct = false → o.camActSeen = true →
      o.aborting = false → o.profile.report = .report →
      (o.heldB = none → writing (.report (s.part.after (4096 * o.profile.reportWait)))) ∧
      (∀ b, o.heldB = some b →
        ∃ t : State, exec .holdElapsed s = .next t ∧ t.pending = s.pending ∧
          FrameTaken (some b) o s.part t.part)) ∧
    (o.rehearsal = false → s.part.pins.camAct = false → o.camActSeen = true → o.aborting = true →
      ∃ t : State, exec .holdElapsed s = .next t ∧ t.pending = s.pending ∧
        FrameFails .aborted o s.part t.part)

/-- R92, R94, R96, R98, R102, R109, R110: a frame fails NO_READY, NO_ACK, NAK, NO_ACTIVITY,
WRITE_TIMEOUT or RESTART at the event that its phase gives, and an aborted frame in WRITING is
recorded ABORTED whatever ends it; in rehearsal READY, ACK, NAK and REPORT change nothing but the
camera line's receiver (R121), which waits for SYNC, with the tail of the step (assumption 8). The
record appended has the contents that R100, R168 and R169 give, with the exposure fields, A and
the computation's flags present just where the computation had been made (R70, R71). Every cause
but ABORTED and POWER is counted (R98). A counted failure that brings the count to fault_limit
makes health RECOVERING, with its values fixed from the operation's profile and plan, in attempt 1
with an off phase of recovery_off (R113, R114). -/
def Obligations.FramesFailByTheirPhase : Prop :=
  (∀ cause : FailCause, cause.counted = true ↔ cause ≠ .aborted ∧ cause ≠ .power) ∧
  (∀ (o : Operation) (cause : FailCause) (now merged : Nat), EndRecord o .failed none (some cause)
    now merged (o.record .failed none (some cause) now merged)) ∧
  ∀ (s : State) (o : Operation), s.part.awake = true → s.part.op = some o →
    let quiet : Part := { s.part with camera := { s.part.camera with rx := [] } }
    let fails (c : Instr) (cause : FailCause) (p : Part) : Prop :=
      ∃ t : State, exec c s = .next t ∧ t.pending = s.pending ∧ FrameFails cause o p t.part
    (∀ d, o.phase = .waking d → o.timedWake = false → s.part.reached d = true →
      fails .readyTimeout .noReady s.part) ∧
    (∀ d, o.phase = .setting (some d) → s.part.reached d = true →
      fails .settingTimeout .noAck s.part) ∧
    (∀ d tag cause, o.phase = .setting d → o.tag = some tag → s.part.rehearsal = false →
      fails (.nak tag cause) (.nak cause) quiet) ∧
    (∀ d, o.phase = .writing (.activity d) → s.part.reached d = true →
      fails .activityTimeout (if o.aborting then .aborted else .noActivity) s.part) ∧
    (∀ d, o.phase = .writing (.write d) → s.part.reached d = true →
      fails .writeTimeout (if o.aborting then .aborted else .writeTimeout) s.part) ∧
    (s.part.rehearsal = false →
      ((∃ d, o.phase = .setting d) ∨ (∃ d, o.phase = .focusing d) ∨ (∃ d, o.phase = .exposing d) ∨
          ∃ d, o.phase = .spacing d) → fails .ready .restart quiet) ∧
    (∀ w, s.part.rehearsal = false → o.phase = .writing w →
      fails .ready (if o.aborting then .aborted else .restart) quiet) ∧
    (s.part.rehearsal = true →
      let ignored (c : Instr) : Prop :=
        exec c s = .next (s.put (settle quiet)) ∧ Kept false quiet (settle quiet) ∧
        (o.askReading = false → o.phase.isWaking = false → s.part.lending.port.hostSide = false →
          exec c s = .next (s.put (raiseSchedule quiet)))
      ignored .ready ∧ (∀ tag, ignored (.ack tag)) ∧ (∀ tag cause, ignored (.nak tag cause)) ∧
        ∀ tag b, ignored (.report tag b))

/-- R96, R97, R111, R122, R123: CAM_ACT becoming inactive while the write timer runs completes the
write; the frame ends TAKEN with no B under report NONE, with the held B, with the B of the REPORT
that the wait brings, or with none when the wait expires; the wait, of report_wait, starts where
report is REPORT and no B is held. A rehearsal frame ends TAKEN, under REPORT with target_B +
E_frame + A_now − C_amb clamped to −64..+64, absent where the computation had no A_now, and with
no B under NONE. The record appended has the contents that R100, R168 and R169 give (R70, R71).
The first REPORT with the tag of a frame that was acknowledged is held while the frame is exposed,
and one with another tag is ignored. The part after it is given with the tail of the step
(assumption 8). -/
def Obligations.FramesAreTaken : Prop :=
  (∀ (o : Operation) (b : Option Int) (now merged : Nat),
    EndRecord o .taken b none now merged (o.record .taken b none now merged)) ∧
  ∀ (s : State) (o : Operation), s.part.awake = true → s.part.op = some o → o.aborting = false →
    let low : Part := { s.part with pins := { s.part.pins with camAct := false } }
    let quiet : Part := { s.part with camera := { s.part.camera with rx := [] } }
    let taken (c : Instr) (b : Option Int) (p : Part) : Prop :=
      ∃ t : State, exec c s = .next t ∧ t.pending = s.pending ∧ FrameTaken b o p t.part
    (∀ d, o.phase = .writing (.write d) → s.part.rehearsal = false →
      (o.profile.report = .noReport → taken (.camActChange false) none low) ∧
      (∀ b, o.profile.report = .report → o.heldB = some b →
        taken (.camActChange false) (some b) low) ∧
      (o.profile.report = .report → o.heldB = none → o.askReading = false →
        s.part.lending.port.hostSide = false →
        exec (.camActChange false) s = .next (s.put (raiseSchedule
          { low with op := some { o with
              phase := .writing (.report (s.part.after (4096 * o.profile.reportWait))) } })))) ∧
    (∀ d, o.phase = .writing (.report d) →
      (s.part.reached d = true → taken .reportWaitExpiry none s.part) ∧
      (∀ (tag b : Byte), s.part.rehearsal = false → o.profile.report = .report → o.acked = true →
        o.tag = some tag → taken (.report tag b) (some (max (-64) (min 64 b.toInt))) quiet)) ∧
    (∀ (d : Elapsed) (tag b : Byte), o.phase = .exposing d → s.part.rehearsal = false →
      o.askReading = false → s.part.lending.port.hostSide = false →
      (o.profile.report = .report → o.acked = true → o.tag = some tag →
        exec (.report tag b) s = .next (s.put (raiseSchedule
          { quiet with op := some { o with
              heldB := o.heldB.or (some (max (-64) (min 64 b.toInt))) } }))) ∧
      (o.tag ≠ some tag → exec (.report tag b) s = .next (s.put (raiseSchedule quiet)))) ∧
    (∀ d, o.phase = .writing (.rehearsal d) → s.part.reached d = true →
      ∃ b, taken .rehearsalWriteEnd b s.part ∧
        (o.profile.report = .noReport ∨ o.comp = none → b = none) ∧
        ∀ c f, o.profile.report = .report → o.comp = some c → c.frames[o.index]? = some f →
          b = c.aNow.map (fun a =>
            max (-64) (min 64 (o.profile.targetB + f.eFrame + a - c.cAmb))))

/-! ### Camera health, rehearsal and recovery (chapter 7) -/

/-- R118, R120: CAMERA_RESET makes a HEALTHY or FAULTED camera HEALTHY with count 0, and a
SUSPENDED engine ARMED, and is refused with BUSY in a recovery. SET_REHEARSAL is refused with BUSY
while an operation, a recovery or a port that is not OWNED stands; otherwise it stores its value,
answers the old one and ends KEEP_WARM, and put on it stops a SET that is still being sent (R108,
R121). R105, R114, R121: CAM_PWR is active while a holder is present outside the off phase of a
recovery attempt, and in rehearsal it is held inactive, as FOCUS, SHUTTER and the camera line are.
BAD_FIELD for a value above 1 comes before BUSY (the model's choice, assumption 24). -/
def Obligations.CameraResetAndRehearsal : Prop :=
  (∀ p : Part,
     (p.camPwrLine = true ↔ p.rehearsal = false ∧
       (p.holders.operation = true ∨ p.holders.keepWarm = true ∨ p.holders.lend = true ∨
         p.holders.recovery = true) ∧
       ¬ ∃ r d, p.health = .recovering r ∧ r.phase = .off d) ∧
     (p.rehearsal = true → p.LinesLawful →
       p.camera.focus = false ∧ p.camera.shutter = false ∧ p.cameraWire = [])) ∧
  ∀ s : State, s.part.awake = true → s.part.link.handled = none →
    let answer (c : Instr) (code : Byte) (p : List Byte) (r : Reply) : Prop :=
      exec c s = .next (s.put (startReply ⟨code, p⟩ r s.part))
    (s.part.health.isRecovering = true →
      answer (.cameraReset []) 0x27#8 [] (.refused .busy)) ∧
    (s.part.health.isRecovering = false →
      ∃ t : State, exec (.cameraReset []) s = .next t ∧ t.pending = s.pending ∧
        Kept false (startReply ⟨0x27#8, []⟩ (.ok [])
          { s.part with
            health := .healthy, failCount := 0
            engine :=
              if s.part.health = .faulted ∧ s.part.engine = .suspended then .armed
              else s.part.engine }) t.part) ∧
    (∀ b : Byte, (1 < b.toNat → answer (.setRehearsal [b]) 0x29#8 [b] (.badField 0)) ∧
      (b.toNat ≤ 1 → (s.part.op.isSome = true ∨ s.part.lending.port ≠ .owned ∨
          s.part.health.isRecovering = true) →
        answer (.setRehearsal [b]) 0x29#8 [b] (.refused .busy)) ∧
      (b.toNat ≤ 1 → s.part.op = none → s.part.lending.port = .owned →
        s.part.health.isRecovering = false →
        ∃ t : State, exec (.setRehearsal [b]) s = .next t ∧ t.pending = s.pending ∧
          Kept false (startReply ⟨0x29#8, [b]⟩ (.ok [byte (boolCode s.part.rehearsal)])
            { s.part with rehearsal := b == 1 }) t.part ∧
          (b = 1 → t.part.camera.tx = none) ∧
          (s.part.Alone → t.part.holders = { s.part.holders with keepWarm := false })))

/-- R114, R115, R116: the end of an off phase begins the on phase with RECOVERY held; READY
under WAIT_READY and wake_lead under FIXED_TIME end the attempt as a success, with health
HEALTHY, count 0 and CAMERA_RECOVERED; ready_timeout fails it, and a failed attempt is followed
by the next off phase or, after the last, by FAULTED with no holder, an ARMED engine SUSPENDED
and CAMERA_FAULT. -/
def Obligations.RecoveryAttemptsRunTheirPhases : Prop :=
  ∀ (s : State) (r : Recovery) (d : Elapsed), s.part.awake = true →
    s.part.health = .recovering r →
    let quiet : Part := { s.part with camera := { s.part.camera with rx := [] } }
    let healed (c : Instr) (p : Part) : Prop :=
      ∃ t : State, exec c s = .next t ∧ t.pending = s.pending ∧ t.part.health = .healthy ∧
        t.part.failCount = 0 ∧
        (s.part.Alone → s.part.op = none → t.part = raiseNotice .cameraRecovered (some r.plan.val)
          { p with
            health := .healthy, failCount := 0, holders := { p.holders with recovery := false } })
    let attempt (c : Instr) (n : Nat) : Prop :=
      ∃ t : State, exec c s = .next t ∧ t.pending = s.pending ∧
        t.part.health = .recovering
          { r with attempt := n, phase := .off (s.part.after (eighths r.off)) } ∧
        t.part.failCount = s.part.failCount ∧ t.part.engine = s.part.engine
    (r.phase = .off d → s.part.reached d = true →
      (r.wakeMode = .waitReady ∨ 0 < r.wakeLead →
        ∃ t : State, exec .recoveryOffEnd s = .next t ∧ t.pending = s.pending ∧
          t.part.health = .recovering { r with phase := .on (s.part.after (eighths
            (match r.wakeMode with
              | .waitReady => r.readyTimeout
              | .fixedTime => r.wakeLead))) } ∧
          (s.part.Alone → s.part.op = none → t.part.holders.recovery = true)) ∧
      (r.wakeMode = .fixedTime → r.wakeLead = 0 → healed .recoveryOffEnd s.part)) ∧
    (r.phase = .on d →
      (r.wakeMode = .waitReady → s.part.op = none → s.part.rehearsal = false →
        healed .ready quiet) ∧
      (r.wakeMode = .fixedTime → s.part.reached d = true → healed .recoveryWakeElapsed s.part) ∧
      (r.wakeMode = .waitReady → s.part.reached d = true → r.attempt < r.attempts →
        attempt .recoveryReadyTimeout (r.attempt + 1)) ∧
      (r.wakeMode = .waitReady → s.part.reached d = true → r.attempts ≤ r.attempt →
        s.part.tables.general.mask.getLsbD NoticeKind.cameraFault.index = true →
        ∃ t : State, exec .recoveryReadyTimeout s = .next t ∧ t.pending = s.pending ∧
          t.part.health = .faulted ∧ t.part.failCount = s.part.failCount ∧
          t.part.engine =
            (if s.part.engine = .armed then EngineState.suspended else s.part.engine) ∧
          (∃ n, entryOf .cameraFault t.part.notices = some n ∧ n.detail = some r.plan.val ∧
            n.last = s.part.now) ∧
          (s.part.Still → t.part.holders = ⟨false, false, false, false⟩)))

/-! ### Lending the camera port (chapter 8) -/

/-- R125: LEND is refused with CRITICAL, REHEARSAL, RECOVERING or ALREADY, the first that applies;
otherwise the port becomes YIELDING with the reply PENDING, and waits there while an operation
runs.
R128, R130, R133, R135: the lend's wake period ends LENT with the bus on the host side and the
lend timer set; the reclaim moment, next_due less reclaim_lead and the wake_lead of the run's
profile, or instant 0 where that lies before it (DEDUCED, assumption 15), makes a LENT port
RECLAIMING; RETURN and the lend timer make it OWNED with the bus on the part side, lend_allowed
cleared and no timer, and RETURN of a port that is not lent is refused with NOT_LENT. CAMERA_LENT,
CAMERA_WANTED and CAMERA_TAKEN with reason LIMIT are raised as each is due. -/
def Obligations.LendingFollowsItsTables : Prop :=
  (∀ s : State, s.part.awake = true → s.part.link.handled = none →
     let answer (r : Reply) : Prop := exec (.lend []) s =
       .next (s.put (startReply ⟨0x25#8, []⟩ r s.part))
     (s.part.battery.level = .critical → answer (.refused .critical)) ∧
     (s.part.battery.level ≠ .critical →
       (s.part.rehearsal = true → answer (.refused .rehearsal)) ∧
       (s.part.rehearsal = false →
         (s.part.health.isRecovering = true → answer (.refused .recovering)) ∧
         (s.part.health.isRecovering = false →
           (s.part.lending.port ≠ .owned → answer (.refused .already)) ∧
           (s.part.lending.port = .owned →
             ∃ t : State, exec (.lend []) s = .next t ∧ t.pending = s.pending ∧
               Kept false (startReply ⟨0x25#8, []⟩ .pending s.part) t.part ∧
               (∀ o, s.part.op = some o → o.askReading = false → o.phase.isWaking = false →
                 t.part.lending = { s.part.lending with port := .yielding } ∧
                 t.part.op = some o) ∧
               (s.part.op = none → s.part.run = none → s.part.arbiter.schedule = none →
                 s.part.lending.allowed = true → s.part.camPwr = false → s.part.hold = false →
                 0 < (s.part.tables.profiles.get 0).wakeLead → s.part.lending.wake = none →
                 t.part.lending = { s.part.lending with
                   port := .yielding
                   wake := some (s.part.after
                     (eighths (s.part.tables.profiles.get 0).wakeLead)) } ∧
                 t.part.holders = { s.part.holders with lend := true })))))) ∧
  (∀ (s : Part) (r : Run), s.reclaimMoment r = r.nextDue -
     4096 * (s.tables.general.reclaimLead + (s.profileOfPlan r.plan).wakeLead)) ∧
  (∀ s : State, s.part.awake = true →
     let shows (k : NoticeKind) (detail : Option Nat) (t : Part) : Prop :=
       s.part.tables.general.mask.getLsbD k.index = true →
         ∃ n, entryOf k t.notices = some n ∧ n.detail = detail ∧ n.last = s.part.now
     (∀ d, s.part.lending.port = .yielding → s.part.lending.wake = some d →
       s.part.reached d = true → s.part.op = none →
       let taken : Prop := ∃ r, s.part.run = some r ∧ s.part.engine = .armed ∧ r.state = .active ∧
         s.part.reclaimMoment r ≤ s.part.now
       ∃ t : State, exec .lendWakeEnd s = .next t ∧ t.pending = s.pending ∧
         Kept false s.part t.part ∧ t.part.lending.busHost = true ∧ t.part.lending.wake = none ∧
         t.part.lending.timer = some (s.part.after
           (s.part.tables.general.lendLimit * (60 * Config.ticksPerSecond))) ∧
         shows .cameraLent (s.part.run.map (·.plan.val)) t.part ∧
         (taken → shows .cameraWanted (s.part.run.map (·.plan.val)) t.part) ∧
         (taken → t.part.lending.port = .reclaiming) ∧ (¬ taken → t.part.lending.port = .lent)) ∧
     (∀ r, s.part.run = some r → s.part.lending.port = .lent → s.part.engine = .armed →
       r.state = .active → s.part.reclaimMoment r ≤ s.part.now → s.part.now < Config.calendarSpan →
       s.part.op = none →
       ∃ t : State, exec .reclaimMoment s = .next t ∧ t.pending = s.pending ∧
         Kept false s.part t.part ∧
         t.part.lending = { s.part.lending with port := .reclaiming } ∧
         shows .cameraWanted (some r.plan.val) t.part) ∧
     (s.part.lending.port.hostSide = true →
       (s.part.link.handled = none →
         ∃ t : State, exec (.giveBack []) s = .next t ∧ t.pending = s.pending ∧
         Kept false (startReply ⟨0x26#8, []⟩ (.ok []) s.part) t.part ∧
         t.part.lending = ⟨.owned, false, none, none, false⟩) ∧
       (∀ d, s.part.lending.timer = some d → s.part.reached d = true →
         ∃ t : State, exec .lendTimerExpiry s = .next t ∧ t.pending = s.pending ∧
           Kept false s.part t.part ∧
           t.part.lending = ⟨.owned, false, none, none, false⟩ ∧
           (s.part.camPwr = true → (∀ o ∈ s.part.op, o.askReading = false) →
             shows .cameraTaken (some 2) t.part))) ∧
     (s.part.link.handled = none → s.part.lending.port.hostSide = false → exec (.giveBack []) s =
       .next (s.put (startReply ⟨0x26#8, []⟩ (.refused .notLent) s.part))))

/-- R131, R132: a due reached while the port is RECLAIMING, with the engine ARMED and the run
ACTIVE, takes the port back under PART_FIRST, with lend_allowed cleared and CAMERA_TAKEN of reason
DUE, and the SCHEDULE operation that is granted makes its computation at once; under HOST_FIRST
the due is missed as LENT and the port goes back to LENT, or RECLAIMING again where the next
reclaim moment has passed, with the switch, the LEND holder, the timer and lend_allowed as they
were and no CAMERA_TAKEN.
R136, R147, R150: a battery reading that confirms CRITICAL ends a lend and cancels a yield, with
CAMERA_TAKEN of reason CRITICAL; KEEP_WARM and LEND leave, the run ends with its request
withdrawn, held requests stay, and nothing is granted. That the command of the reading carries V
and T is the model's choice (DESIGN CHOICE, assumption 18). -/
def Obligations.ThePortIsTakenForTheDueAndAtCritical : Prop :=
  (∀ (s : State) (r : Run) (q : Plan), s.part.awake = true → s.part.run = some r →
     r.state = .active → s.part.engine = .armed → s.part.lending.port = .reclaiming →
     r.dueReached = false → r.nextDue ≤ s.part.now → s.part.now < Config.calendarSpan →
     s.part.op = none → s.part.planAt r.plan = some q → s.part.holders.lend = true →
     s.part.health = .healthy →
     (s.part.tables.general.lendPolicy = .partFirst →
       ∃ t : State, exec .dueReached s = .next t ∧ t.pending = s.pending ∧
         Kept false s.part t.part ∧ t.part.lending = ⟨.owned, false, none, none, false⟩ ∧
         t.part.holders.lend = false ∧
         (s.part.tables.general.mask.getLsbD NoticeKind.cameraTaken.index = true →
           ∃ n, entryOf .cameraTaken t.part.notices = some n ∧ n.detail = some 1 ∧
             n.last = s.part.now) ∧
         (s.part.arbiter = ⟨none, none, none, s.part.arbiter.merged, s.part.arbiter.lastExternal⟩ →
           s.part.battery.level ≠ .critical → s.part.hold = false →
           s.part.now ≤ r.nextDue + eighths s.part.tables.general.lateLimit →
           ∃ o c n, t.part.op = some o ∧ o.source = .schedule ∧ o.request.due = some r.nextDue ∧
             o.comp = some c ∧ o.phase.isUnderway = true ∧
             o.profile = s.part.tables.profiles.get q.profile ∧
             DueComputation o r q s.part o c n ∧
             t.part.run = some n ∧ n.nextDue = r.nextDue)) ∧
     (s.part.tables.general.lendPolicy = .hostFirst →
       ∃ t : State, exec .dueReached s = .next t ∧ t.pending = s.pending ∧
         Kept false s.part t.part ∧ t.part.op = none ∧
         t.part.lending = { s.part.lending with port := t.part.lending.port } ∧
         t.part.lending.port.hostSide = true ∧ t.part.holders.lend = true ∧
         entryOf .cameraTaken t.part.notices = entryOf .cameraTaken s.part.notices ∧
         (s.part.journal.miss r r.nextDue .lent).Grows t.part.journal ∧
         (let next := r.nextDue + eighths (s.part.effectiveInterval q r.k);
           (q.frameLimit = 0 ∨ 2 ≤ r.remaining) → s.part.now < next →
           t.part.journal = s.part.journal.miss r r.nextDue .lent ∧
           (∃ n, t.part.run = some n ∧ n.nextDue = next ∧ n.bLast = none) ∧
           t.part.lending.port =
             (if next ≤ s.part.now + eighths s.part.tables.general.reclaimLead + s.part.wakeLead r
               then .reclaiming else .lent)))) ∧
  (∀ (s : State) (d : Elapsed) (mv : Nat) (celsius : Int), s.part.awake = true →
     s.part.battery.deadline = some d → s.part.reached d = true →
     s.part.monitor.state = .supplied → s.part.op = none →
     let e := effectiveMv s.part.tables.supply .periodic (clampNat 0 20000 mv)
       (clampInt (-40) 85 celsius)
     (judge s.part.tables.supply s.part.battery.level s.part.battery.worse s.part.battery.better
       ⟨clampNat 0 20000 mv, clampInt (-40) 85 celsius, .periodic, e,
         indicatedLevel s.part.tables.supply e⟩).confirmed = some .critical →
     s.part.battery.level ≠ .critical →
     ∃ t : State, exec (.batteryPeriodicDeadline mv celsius) s = .next t ∧ t.pending = s.pending ∧
       t.part.battery.level = .critical ∧ t.part.op = none ∧ t.part.journal = s.part.journal ∧
       t.part.holders.lend = false ∧ t.part.holders.keepWarm = false ∧
       t.part.arbiter.external = s.part.arbiter.external ∧
       t.part.arbiter.manual = s.part.arbiter.manual ∧
       (s.part.engine ≠ .disarmed → (∀ r ∈ s.part.run, r.state = .active) →
         t.part.run = none ∧ t.part.arbiter.schedule = s.part.run.elim s.part.arbiter.schedule
           (fun _ => none)) ∧
       (s.part.lending.port = .owned → t.part.lending = s.part.lending) ∧
       (s.part.lending.port = .yielding →
         t.part.lending = ⟨.owned, false, none, none, s.part.lending.allowed⟩) ∧
       (s.part.lending.port.hostSide = true →
         t.part.lending = ⟨.owned, false, none, none, false⟩) ∧
       (s.part.lending.port ≠ .owned →
         s.part.tables.general.mask.getLsbD NoticeKind.cameraTaken.index = true →
         ∃ n, entryOf .cameraTaken t.part.notices = some n ∧ n.detail = some 3 ∧
           n.last = s.part.now))

/-! ### Battery supervision (chapter 9) -/

/-- R143: V_eff is V with the sag allowance of a LOADED reading and the cold term below 0 °C, and
indicates the first level of the table whose threshold lies above it: exactly one under lawful
settings.
R144, R145, R146: no reading advances both streaks; a reading worse than L counts to the worse
streak and, at confirm_C, makes L the level it indicates; one at or above the recovery threshold
counts to the better streak and, at confirm_C, makes L one better, SCARCE from CRITICAL, THRIFT
from SCARCE and NORMAL from THRIFT; any other makes both streaks 0. -/
def Obligations.PowerLevelFollowsTheReadings : Prop :=
  (∀ (g : Supply) (kind : ReadingKind) (v : Nat) (t : Int), g.Lawful →
     (effectiveMv g kind v t : Int) =
       v + (if kind = .loaded then (g.sagAllowance : Int) else 0) + g.coldSlope * max 0 (-t) ∧
     (v ≤ 20000 → -40 ≤ t → effectiveMv g kind v t ≤ 21800) ∧
     (indicatedLevel g v = .critical ↔ v < g.thrCritical) ∧
     (indicatedLevel g v = .scarce ↔ g.thrCritical ≤ v ∧ v < g.thrScarce) ∧
     (indicatedLevel g v = .thrift ↔ g.thrScarce ≤ v ∧ v < g.thrThrift) ∧
     (indicatedLevel g v = .normal ↔ g.thrThrift ≤ v)) ∧
  ([.normal, .thrift, .scarce, .critical] : List Level).map (·.rank) = [0, 1, 2, 3] ∧
  (∀ (g : Supply) (l : Level) (worse better : Nat) (r : BatteryReading), g.Lawful →
     r.indicated = indicatedLevel g r.effective →
     let j := judge g l worse better r
     let clears : Prop := (l = .thrift ∧ g.thrThrift + g.hysteresis ≤ r.effective) ∨
       (l = .scarce ∧ g.thrScarce + g.hysteresis ≤ r.effective) ∨
       (l = .critical ∧ g.thrCritical + g.hysteresis ≤ r.effective)
     ¬ (l.rank < r.indicated.rank ∧ clears) ∧
     (l.rank < r.indicated.rank →
       (worse + 1 < g.confirm → j = ⟨worse + 1, 0, none⟩) ∧
       (g.confirm ≤ worse + 1 → j = ⟨0, 0, some r.indicated⟩)) ∧
     (clears →
       (better + 1 < g.confirm → j = ⟨0, better + 1, none⟩) ∧
       (g.confirm ≤ better + 1 →
         (l = .critical → j = ⟨0, 0, some .scarce⟩) ∧ (l = .scarce → j = ⟨0, 0, some .thrift⟩) ∧
         (l = .thrift → j = ⟨0, 0, some .normal⟩))) ∧
     (¬ l.rank < r.indicated.rank → ¬ clears → j = ⟨0, 0, none⟩))

/-- R140, R141, R147: the periodic deadline that is reached is set one check_period on from when
it was due; in SUPPLIED a reading of the pins is taken and held as the latest, and in RIDING it is
deferred and nothing else moves. A reading that confirms no level leaves the level. That the
command carries what the sense inputs show is the model's choice (assumption 18). The part after
it is given with the tail of the step (assumption 8).
R142: where the tail of a step grants a request with CAM_PWR off, in SUPPLIED and out of
rehearsal, a LOADED reading of the pins is taken, held as the latest and judged as a periodic one
is, and the operation carries its V; in RIDING and in rehearsal none is taken, and with CAM_PWR on
none either. No LOADED reading moves the periodic deadline. -/
def Obligations.BatteryReadingsKeepTheirPeriod : Prop :=
  (∀ (s : Part) (src : Source) (q : Request),
    let raised := raiseSchedule s
    raised.mayGrant = true → raised.candidate = some src → raised.arbiter.slot src = some q →
    s.camPwr = false →
    let v := clampNat 0 20000 s.pins.packMv
    let t := clampInt (-40) 85 s.pins.celsius
    let e := effectiveMv s.tables.supply .loaded v t
    let reading : BatteryReading := ⟨v, t, .loaded, e, indicatedLevel s.tables.supply e⟩
    let j := judge s.tables.supply s.battery.level s.battery.worse s.battery.better reading
    ∃ o, (settle s).op = some o ∧ o.source = src ∧ o.request = q ∧ o.askReading = false ∧
      (s.rehearsal = true ∨ s.monitor.state = .riding →
        (settle s).battery = s.battery ∧ o.volts = s.battery.latest.map (·.volts)) ∧
      (s.rehearsal = false → s.monitor.state = .supplied →
        o.volts = some v ∧ (settle s).battery =
          { s.battery with
            latest := some reading, worse := j.worse, better := j.better
            level := j.confirmed.getD s.battery.level })) ∧
  (∀ s : Part, s.camPwr = true → (∀ o ∈ s.op, o.askReading = false) →
    (settle s).battery = s.battery) ∧
  ∀ (s : State) (d : Elapsed) (mv : Nat) (celsius : Int), s.part.awake = true →
    s.part.battery.deadline = some d → s.part.reached d = true →
    let pins : Pins := { s.part.pins with packMv := mv, celsius := celsius }
    let next := d + BitVec.ofNat 48 (4096 * s.part.tables.supply.checkPeriod)
    let v := clampNat 0 20000 mv
    let t := clampInt (-40) 85 celsius
    let e := effectiveMv s.part.tables.supply .periodic v t
    let reading : BatteryReading := ⟨v, t, .periodic, e, indicatedLevel s.part.tables.supply e⟩
    let j := judge s.part.tables.supply s.part.battery.level s.part.battery.worse
      s.part.battery.better reading
    (s.part.monitor.state = .riding → exec (.batteryPeriodicDeadline mv celsius) s =
      .next (s.put (settle { s.part with
        pins := pins
        battery := { s.part.battery with
          lastDue := d, deadline := some next, deferred := true } }))) ∧
    (s.part.monitor.state ≠ .riding →
      ∃ q : State, exec (.batteryPeriodicDeadline mv celsius) s = .next q ∧ q.pending = s.pending ∧
        Kept false { s.part with pins := pins, battery := q.part.battery } q.part ∧
        q.part.battery.deadline = some next ∧ q.part.battery.lastDue = d ∧
        (j.confirmed = none → s.part.op = none → s.part.Alone →
          q.part.battery = { s.part.battery with
            latest := some reading, worse := j.worse, better := j.better
            lastDue := d, deadline := some next }) ∧
        (∀ l, j.confirmed = some l → s.part.op = none → s.part.Alone →
          s.part.engine = .disarmed → q.part.battery = { s.part.battery with
            latest := some reading, level := l, worse := 0, better := 0
            lastDue := d, deadline := some next }))

/-! ### Supply, outage and restart (chapter 10) -/

/-- R155: the supply monitor moves only as its table gives: below 4,000 mV from SUPPLIED to
RIDING, above 4,500 mV back from RIDING or from OUTAGE to RESTORING, and at or below it from
RESTORING to OUTAGE, with one ride_through timed at each dip and at each return. The sense input
keeps its value always.
R141: the return from RIDING takes the deferred reading where one is held: it becomes the latest
and is judged (R146), seen where nothing else goes on, and without one the battery record stands.
That PACK_FALL and PACK_RISE carry the new pack voltage, which the sense input then holds and the
deferred reading samples with the temperature as it stands, is the model's choice (DESIGN CHOICE,
assumption 18). -/
def Obligations.SupplyMonitorFollowsThePack : Prop :=
  ∀ (mv : Nat) (s : State), s.part.monitor.lost = false →
    let p : Part := { s.part with pins := { s.part.pins with packMv := mv } }
    let timed (state : SupplyState) : Part :=
      { p with monitor :=
          { p.monitor with
            state := state
            deadline := s.part.after (4096 * s.part.tables.supply.rideThrough) } }
    (s.part.monitor.state = .supplied → exec (.packFall mv) s =
      .next (s.put (if mv < 4000 then timed .riding else p))) ∧
    (s.part.monitor.state = .restoring → exec (.packFall mv) s =
      .next (s.put (if mv ≤ 4500 then { p with monitor := { p.monitor with state := .outage } }
        else p))) ∧
    (s.part.monitor.state = .riding ∨ s.part.monitor.state = .outage →
      exec (.packFall mv) s = .next (s.put p)) ∧
    (s.part.monitor.state = .outage → exec (.packRise mv) s =
      .next (s.put (if 4500 < mv then timed .restoring else p))) ∧
    (s.part.monitor.state = .supplied ∨ s.part.monitor.state = .restoring →
      exec (.packRise mv) s = .next (s.put p)) ∧
    (s.part.monitor.state = .riding → mv ≤ 4500 → exec (.packRise mv) s = .next (s.put p)) ∧
    (s.part.monitor.state = .riding → 4500 < mv →
      ∃ t : State, exec (.packRise mv) s = .next t ∧ t.pending = s.pending ∧
        t.part.monitor = { s.part.monitor with state := .supplied } ∧
        t.part.battery.deferred = false ∧
        t.part.battery.deadline = s.part.battery.deadline ∧
        t.part.battery.lastDue = s.part.battery.lastDue ∧
        Kept false { p with monitor := t.part.monitor, battery := t.part.battery } t.part ∧
        (s.part.Alone → s.part.op = none →
          let old := s.part.battery
          let reading := p.sample .periodic
          let j := judge s.part.tables.supply old.level old.worse old.better reading
          (old.deferred = false → t.part.battery = old) ∧
          (old.deferred = true → j.confirmed = none → t.part.battery =
            { old with
              deferred := false, latest := some reading, worse := j.worse, better := j.better }) ∧
          (∀ l, old.deferred = true → j.confirmed = some l → s.part.engine = .disarmed →
            t.part.battery =
              { old with
                deferred := false, latest := some reading, level := l, worse := 0
                better := 0 })))

/-- R157, R158, R141, R81, R137: at the ride-through deadline the outage begins: no operation,
request, holder, line or link remains, the port is OWNED on the part side, the meter is STOPPED
without a reading, the battery deadline is discarded, and the clock, tables, engine, gates, trim
and count stay. The frame in progress is recorded FAILED POWER, and after what the operation's end
records, the held EXTERNAL request and then the MANUAL one end in closed MISSED POWER records; a
MANUAL frame or request raises SHOOT_DONE with its record's number. Where the port was not OWNED,
CAMERA_TAKEN is raised with reason POWER; lend_allowed is then clear where a lend was ended, and
otherwise it is kept, an operation that the outage ends having set it. A recovery stays RECOVERING
with its attempt abandoned (R119). Where the backup cell is LOW as the outage begins, the backup
domain counts as lost from then on (the model's reading, assumption 12), with the cold start timed
as in assumption 19. -/
def Obligations.OutageEndsAllWork : Prop :=
  ∀ s : State, s.part.monitor.lost = false → s.part.monitor.state = .riding →
    s.part.reached s.part.monitor.deadline = true →
    let held (j : Journal) (merged : Nat) : Journal :=
      let j := match s.part.arbiter.external with
        | some q => j.append
          (missedRecord .external q.plan none q.raisedAt (some merged) .power false)
        | none => j
      match s.part.arbiter.manual with
      | some q => j.append (missedRecord .manual q.plan none q.raisedAt none .power false)
      | none => j
    let shows (t : Part) (detail : Option Nat) : Prop :=
      s.part.tables.general.mask.getLsbD NoticeKind.shootDone.index = true →
        ∃ n, entryOf .shootDone t.notices = some n ∧ n.detail = detail ∧ n.last = s.part.now
    ∃ t : State, exec .rideThroughDeadline s = .next t ∧ t.pending = s.pending ∧
      t.part.monitor = { s.part.monitor with
        state := .outage, outageStart := s.part.time.elapsed, lost := s.part.monitor.cellLow
        coldIn :=
          if s.part.monitor.cellLow = true then
            (if 4500 < s.part.pins.packMv then some 16384 else none)
          else s.part.monitor.coldIn } ∧
      t.part.op = none ∧ t.part.arbiter.schedule = none ∧ t.part.arbiter.external = none ∧
      t.part.arbiter.manual = none ∧ t.part.holders = ⟨false, false, false, false⟩ ∧
      t.part.camera.focus = false ∧ t.part.camera.shutter = false ∧ t.part.camera.tx = none ∧
      t.part.lending.port = .owned ∧
      (s.part.PortLawful → t.part.lending.busHost = false ∧ t.part.lending.timer = none) ∧
      t.part.lending.allowed =
        (!s.part.lending.port.hostSide && (s.part.lending.allowed || s.part.op.isSome)) ∧
      (s.part.lending.port ≠ .owned →
        s.part.tables.general.mask.getLsbD NoticeKind.cameraTaken.index = true →
        ∃ n, entryOf .cameraTaken t.part.notices = some n ∧ n.detail = some 4 ∧ n.last = s.part.now) ∧
      (s.part.lending.port = .owned → s.part.op = none →
        entryOf .cameraTaken t.part.notices = entryOf .cameraTaken s.part.notices) ∧
      t.part.meter.state = .stopped ∧ t.part.meter.latest = none ∧
      t.part.battery.deadline = none ∧ t.part.battery.deferred = false ∧
      t.part.battery.level = s.part.battery.level ∧
      t.part.link.rx = [] ∧ t.part.link.handled = none ∧ t.part.link.waiting = none ∧
      t.part.link.reply = none ∧
      t.part.time = s.part.time ∧ t.part.tables = s.part.tables ∧ t.part.gates = s.part.gates ∧
      t.part.engine = s.part.engine ∧ t.part.failCount = s.part.failCount ∧
      s.part.journal.Grows t.part.journal ∧
      (s.part.op = none → t.part.journal = held s.part.journal s.part.arbiter.merged) ∧
      (∀ o, s.part.op = some o →
        let failed := s.part.journal.append
          (o.record .failed none (some .power) s.part.now s.part.arbiter.merged)
        ((∀ d, o.phase ≠ .spacing d) → ∃ j, failed.Grows j ∧
          t.part.journal = held j (if o.source = .external then 0 else s.part.arbiter.merged)) ∧
        (∀ d, o.phase = .spacing d → ∃ j, s.part.journal.Grows j ∧
          t.part.journal = held j s.part.arbiter.merged) ∧
        ((∀ d, o.phase ≠ .spacing d) → o.source = .manual → s.part.arbiter.manual = none →
          shows t.part (some s.part.journal.numberFor))) ∧
      (s.part.arbiter.manual.isSome = true → shows t.part t.part.journal.newest) ∧
      ((∀ o ∈ s.part.op, o.lastCounted = false) →
        (∀ r, s.part.health = .recovering r →
          t.part.health = .recovering { r with phase := .stopped }) ∧
        (s.part.health.isRecovering = false → t.part.health = s.part.health))

/-- R160, R161, R162, R120: the restore ends in SUPPLIED with rehearsal off. Within warm_window
the engine keeps its state and RESTORED_WARM is raised; beyond it an ARMED or SUSPENDED engine
becomes PAUSED and RESTORED_PAUSED is raised, each with the newest frame number as detail. A done
mark whose occurrence has ended is gone. The journal is only added to, and where dues of an
ACTIVE run have passed, the miss of the first of them, as POWER or as PAUSED, is the first thing
in it. Both streaks begin anew with the immediate reading, seen where nothing else goes on. -/
def Obligations.RestoreIsWarmOrPaused : Prop :=
  ∀ s : State, s.part.monitor.lost = false → s.part.monitor.state = .restoring →
    s.part.reached s.part.monitor.deadline = true →
    let length := (s.part.time.elapsed - s.part.monitor.outageStart).toNat
    let warm : Prop := length ≤ s.part.tables.supply.warmWindow * (60 * Config.ticksPerSecond)
    ∃ t : State, exec .restoreDeadline s = .next t ∧ t.pending = s.pending ∧
      t.part.monitor = { s.part.monitor with state := .supplied } ∧ t.part.rehearsal = false ∧
      t.part.now = s.part.now ∧ t.part.time.elapsed = s.part.time.elapsed ∧
      t.part.tables = s.part.tables ∧ t.part.gates = s.part.gates ∧
      s.part.journal.Grows t.part.journal ∧ t.part.failCount = s.part.failCount ∧
      (warm → t.part.engine = s.part.engine) ∧
      (¬ warm → t.part.engine =
        if s.part.engine = .armed ∨ s.part.engine = .suspended then .paused
        else s.part.engine) ∧
      (∀ r, s.part.health = .recovering r → t.part.health = .recovering
        { r with attempt := 1, phase := .off (s.part.after (eighths r.off)) }) ∧
      (s.part.health.isRecovering = false → t.part.health = s.part.health) ∧
      t.part.meter.startGate = s.part.meter.startGate ∧ t.part.meter.latest = none ∧
      t.part.battery.deadline =
        some (s.part.time.elapsed + BitVec.ofNat 48 (4096 * s.part.tables.supply.checkPeriod)) ∧
      (warm → s.part.tables.general.mask.getLsbD NoticeKind.restoredWarm.index = true →
        ∃ n, entryOf .restoredWarm t.part.notices = some n ∧ n.last = s.part.now ∧
          n.detail = t.part.journal.newest) ∧
      (¬ warm → s.part.tables.general.mask.getLsbD NoticeKind.restoredPaused.index = true →
        ∃ n, entryOf .restoredPaused t.part.notices = some n ∧ n.last = s.part.now ∧
          n.detail = t.part.journal.newest) ∧
      (∀ m ∈ t.part.doneMark, s.part.now < m.stop) ∧
      (∀ r, s.part.run = some r → r.state = .active → s.part.op = none → r.nextDue ≤ s.part.now →
        (warm → (s.part.journal.miss r r.nextDue .power).Grows t.part.journal) ∧
        (¬ warm → (s.part.journal.miss r r.nextDue .paused).Grows t.part.journal)) ∧
      (s.part.Alone → s.part.op = none → s.part.engine = .disarmed →
        let v := clampNat 0 20000 s.part.pins.packMv
        let c := clampInt (-40) 85 s.part.pins.celsius
        let e := effectiveMv s.part.tables.supply .periodic v c
        let reading : BatteryReading :=
          ⟨v, c, .periodic, e, indicatedLevel s.part.tables.supply e⟩
        let j := judge s.part.tables.supply s.part.battery.level 0 0 reading
        t.part.battery.latest = some reading ∧ t.part.battery.worse = j.worse ∧
        t.part.battery.better = j.better ∧
        t.part.battery.level = j.confirmed.getD s.part.battery.level)

/-- R163, R155: a backup cell that falls LOW with the pack out of SUPPLIED loses the backup
domain, and in SUPPLIED only shows as LOW. After a loss the 4 eighths of the cold start run
while the pack stays above 4,500 mV. COLD_START then gives every block its cold-start value with
COLD_START alone in the notice set, and takes the battery supervisor's first reading, at level
NORMAL; without a loss, or with the pack not back, it changes nothing. That the command counts
the 4 eighths on, that they begin at the loss where the pack stands above 4,500 mV then, and that
the monitor stands in OUTAGE after a loss, is assumption 19; fields that the manual gives no value
hold those of assumption 6, and the pins keep their levels (assumption 19). -/
def Obligations.ColdStartBeginsAfresh : Prop :=
  ∀ s : State,
    (∀ low, s.part.monitor.lost = false → (s.part.monitor.state = .supplied ∨ low = false) →
      exec (.backupCellChange low) s =
        .next (s.put { s.part with monitor := { s.part.monitor with cellLow := low } })) ∧
    (s.part.monitor.lost = false → s.part.monitor.state ≠ .supplied →
      ∃ t : State, exec (.backupCellChange true) s = .next t ∧ t.pending = s.pending ∧
        t.part.monitor = { s.part.monitor with
          state := .outage, lost := true, cellLow := true
          coldIn := if 4500 < s.part.pins.packMv then some 16384 else none } ∧
        t.part.op = none ∧ t.part.holders = ⟨false, false, false, false⟩ ∧
        t.part.camera.focus = false ∧ t.part.camera.shutter = false) ∧
    (s.part.monitor.lost = true → ∀ mv : Nat,
      let timed : Part :=
        { s.part with
          pins := { s.part.pins with packMv := mv }
          monitor := { s.part.monitor with
            coldIn := if 4500 < mv then some (s.part.monitor.coldIn.getD 16384) else none } }
      exec (.packRise mv) s = .next (s.put timed) ∧ exec (.packFall mv) s = .next (s.put timed)) ∧
    (s.part.monitor.lost = false ∨ s.part.monitor.coldIn = none →
      exec .coldStart s = .next s) ∧
    (s.part.monitor.lost = true → s.part.monitor.coldIn.isSome = true →
    ∃ t : State, exec .coldStart s = .next t ∧ t.pending = s.pending ∧
      t.part.tables = Tables.coldStart ∧ t.part.time = Part.coldStart.time ∧
      t.part.engine = .disarmed ∧ t.part.run = none ∧ t.part.lastBase = none ∧
      t.part.doneMark = none ∧ t.part.gates = Vector.replicate 8 false ∧ t.part.op = none ∧
      t.part.arbiter = Part.coldStart.arbiter ∧ t.part.holders = ⟨false, false, false, false⟩ ∧
      t.part.camera = Part.coldStart.camera ∧ t.part.health = .healthy ∧ t.part.failCount = 0 ∧
      t.part.rehearsal = false ∧ t.part.lending = Part.coldStart.lending ∧
      t.part.meter = Part.coldStart.meter ∧ t.part.link = Part.coldStart.link ∧
      t.part.journal = ⟨[], 1, 0⟩ ∧ t.part.monitor.state = .supplied ∧
      t.part.monitor.lost = false ∧ t.part.monitor.coldIn = none ∧
      t.part.pins = s.part.pins ∧ t.part.battery.latest.isSome = true ∧
      t.part.battery.deadline = some (BitVec.ofNat 48 (480 * 4096)) ∧
      t.part.battery.level = .normal ∧
      t.part.notices = [⟨.coldStart, 1, 0, 0, none⟩])

/-- R164: the reset line leaves an ARMED or SUSPENDED engine PAUSED, rehearsal off, the gate
states false, the host link and the camera line cleared, no operation, no request and no holder,
the port OWNED with lend_allowed set, the level NORMAL but for what the immediate reading
confirms, and the start gate 1; it keeps the clock, the tables and the count, begins a recovery
again at attempt 1, only adds to the journal, the FAILED ABORTED record of a frame in progress first
(R106), and empties the notice set, which the selection and the reading may add to.
R165: SOFT_RESET answers OK first and the reset waits for the last byte of the reply; taken, it does
what the reset line does but for health, HEALTHY with count 0, the engine, ARMED where it was
SUSPENDED and kept otherwise, the level, which is kept, and the notice set, which is kept. What an
ARMED engine then begins for its next due is left out. The reading of a reset in RIDING is deferred
(assumption 13), and a SET being sent is cut off (assumption 14). -/
def Obligations.ResetsStartTheBlocksAfresh : Prop :=
  (∀ (s : State), s.part.awake = true →
    let reading : BatteryReading := s.part.sample .periodic
    let level (old : Level) : Level :=
      if s.part.monitor.state = .riding then old
      else (judge s.part.tables.supply old 0 0 reading).confirmed.getD old
    let afresh (t : Part) : Prop :=
      t.rehearsal = false ∧ t.gates = Vector.replicate 8 false ∧
      t.time = s.part.time ∧ t.tables = s.part.tables ∧ t.monitor = s.part.monitor ∧
      t.link.rx = [] ∧ t.link.handled = none ∧ t.link.waiting = none ∧
      t.link.reply = none ∧ t.link.softReset = false ∧ t.hold = false ∧
      t.meter.startGate = 1 ∧ t.meter.latest = none ∧
      t.camera.rx = [] ∧ t.arbiter.external = none ∧ t.arbiter.manual = none ∧
      t.arbiter.merged = 0 ∧ t.arbiter.lastExternal = none ∧
      t.lending = ⟨.owned, false, none, none, true⟩ ∧
      s.part.journal.Grows t.journal ∧
      (∀ o, s.part.op = some o → (∀ d, o.phase ≠ .spacing d) →
        (s.part.journal.append (o.record .failed none (some .aborted) s.part.now
          s.part.arbiter.merged)).Grows t.journal)
    let idle (t : Part) : Prop :=
      t.op = none ∧ t.arbiter.schedule = none ∧ t.holders = ⟨false, false, false, false⟩ ∧
      t.camera.lastTag = 0 ∧ t.camera.tx = none ∧ t.camera.focus = false ∧
      t.camera.shutter = false
    (∃ t : State, exec .resetLine s = .next t ∧ t.pending = s.pending ∧ afresh t.part ∧
      idle t.part ∧ t.part.failCount = s.part.failCount ∧
      t.part.engine =
        (if s.part.engine = .armed ∨ s.part.engine = .suspended then EngineState.paused
          else s.part.engine) ∧
      t.part.battery.level = level .normal ∧
      ((∀ o ∈ s.part.op, o.lastCounted = false) →
        (∀ r, s.part.health = .recovering r → t.part.health = .recovering
          { r with attempt := 1, phase := .off (s.part.after (eighths r.off)) }) ∧
        (s.part.health.isRecovering = false → t.part.health = s.part.health)) ∧
      ∀ k, k ≠ .runStarted → k ≠ .runEnded → k ≠ .levelChanged →
        entryOf k t.part.notices = none) ∧
    (∀ d, s.part.softResetAt = some d ↔ s.part.link.softReset = true ∧
      s.part.link.reply.isSome = true ∧ d = s.part.link.replyEnds) ∧
    (∀ d, s.part.softResetAt = some d → s.part.reached d = true →
      ∃ t : State, exec .softResetTaken s = .next t ∧ t.pending = s.pending ∧ afresh t.part ∧
        t.part.health = .healthy ∧ t.part.failCount = 0 ∧
        t.part.engine =
          (if s.part.engine = .suspended then EngineState.armed else s.part.engine) ∧
        (∀ k, k.rare = true → entryOf k t.part.notices = entryOf k s.part.notices) ∧
        (s.part.engine = .disarmed ∨ s.part.engine = .paused →
          idle t.part ∧ t.part.battery.level = level s.part.battery.level))) ∧
  (∀ s : State, s.part.awake = true → s.part.link.handled = none →
    exec (.softReset []) s = .next (s.put (startReply ⟨0x28#8, []⟩ (.ok [])
      { s.part with link := { s.part.link with softReset := true } })))

/-! ### Notices and the host link (chapter 12) -/

/-- R179, R180: GET_NOTICES returns up to four of the oldest entries and removes just those: the
number that remain, the number returned, and for each its kind, count, first time, last time and
detail in 18 bytes, an absent detail as 0xFFFFFFFF (R178, R183); MASK_NOTICES stores a 14-bit mask
as field 14 of the general settings and answers the mask that stood before, and leaves every entry
in the set. A mask with bit 14 or 15 set is refused with BAD_FIELD, field 0. -/
def Obligations.NoticesAreCollectedAndMasked : Prop :=
  ∀ (p : List Byte) (s : State), s.part.awake = true → s.part.link.handled = none →
    exec (.getNotices []) s = .next (s.put (startReply ⟨0x31#8, []⟩
      (.ok (noticesData s.part.notices)) { s.part with notices := s.part.notices.drop 4 })) ∧
    (let instant (t : Nat) : List Byte := putNat 4 (t / 32768) ++ putNat 2 (t % 32768);
      noticesData s.part.notices =
        [byte (s.part.notices.drop 4).length, byte (min 4 s.part.notices.length)] ++
        (s.part.notices.take 4).flatMap (fun n =>
          [byte n.kind.index, byte n.count] ++ instant n.first ++ instant n.last ++
            match n.detail with
            | some d => putNat 4 d
            | none => [0xFF#8, 0xFF#8, 0xFF#8, 0xFF#8])) ∧
    ([.planDone, .runStarted, .runEnded, .cameraWanted, .cameraLent, .cameraTaken, .cameraFault,
      .cameraRecovered, .levelChanged, .restoredWarm, .restoredPaused, .coldStart, .clockNeeded,
      .shootDone] : List NoticeKind).map (·.index) = List.range 14 ∧
    (∀ size n : Nat, n < 256 ^ size → (putNat size n).length = size ∧
      (putNat size n).foldl (fun v b => v * 256 + b.toNat) 0 = n) ∧
    (noticesData s.part.notices).length = 2 + 18 * min 4 s.part.notices.length ∧
    (p.length = 2 → fieldNat 0 2 p < 16384 → exec (.maskNotices p) s =
      .next (s.put (startReply ⟨0x32#8, p⟩
        (.ok (putNat 2 s.part.tables.general.mask.toNat))
        { s.part with tables :=
            { s.part.tables with general :=
                { s.part.tables.general with mask := BitVec.ofNat 14 (fieldNat 0 2 p) } } }))) ∧
    (p.length = 2 → 16384 ≤ fieldNat 0 2 p → exec (.maskNotices p) s =
      .next (s.put (startReply ⟨0x32#8, p⟩ (.badField 0) s.part)))

/-- R178, R179: a raise of a masked kind changes nothing; any other adds an entry as the newest
with count 1, or updates the entry of its kind in its place: count up to 255, last time and
detail new, first time kept; and no other entry changes. R181: NOTICE is active just while the set
holds an entry and the part is SUPPLIED or RIDING with its backup domain alive. -/
def Obligations.RaisesAddOrUpdateOneEntry : Prop :=
  ∀ (k : NoticeKind) (d : Option Nat) (s : Part), noticesLawful s.notices →
    (s.noticeLine = true ↔ s.notices ≠ [] ∧ s.monitor.lost = false ∧
      (s.monitor.state = .supplied ∨ s.monitor.state = .riding)) ∧
    (s.tables.general.mask.getLsbD k.index = false → raiseNotice k d s = s) ∧
    (s.tables.general.mask.getLsbD k.index = true →
      (raiseNotice k d s) = { s with notices := (raiseNotice k d s).notices } ∧
      noticesLawful (raiseNotice k d s).notices ∧
      (∀ other, other ≠ k → entryOf other (raiseNotice k d s).notices = entryOf other s.notices) ∧
      (entryOf k s.notices = none →
        (raiseNotice k d s).notices = s.notices ++ [⟨k, 1, s.now, s.now, d⟩]) ∧
      (∀ n, entryOf k s.notices = some n →
        entryOf k (raiseNotice k d s).notices =
          some ⟨k, min (n.count + 1) 255, n.first, s.now, d⟩ ∧
        (raiseNotice k d s).notices.map (·.kind) = s.notices.map (·.kind)))

/-- R174: the frame of a request that completes with the receive buffer empty is handled at once,
with just the effect that its TYPE and payload have, and its reply begins; behind a handled frame
it waits, and behind a waiting one it is discarded. As the last byte of a reply goes, the buffer
empties and a waiting frame is handled at that moment. That a request command is the whole frame
completed at that moment, which waits or is discarded as a frame does, and leaves the frame being
built in the receiver as it stands, is the model's choice (assumption 7).
R175: a TYPE that is no request code is answered UNKNOWN_TYPE under its own code OR 0x80, and
nothing else is done; that UNKNOWN_TYPE is answered whatever code the command carries is the
model's choice (assumption 23). R173, R176: a reply goes out as SYNC, its length, its TYPE, a
status byte with what the status calls for, and the CRC, high byte first; the CRC has the
polynomial 0x1021 and the initial value 0xFFFF, with no reflection and no final XOR. A reply ends
as its bytes, of ten bits at 57,600 baud, have gone (assumption 3). -/
def Obligations.RepliesLeaveInTurn : Prop :=
  (∀ q : SentReply, ∃ status : List Byte,
     (match q.reply with
       | .ok data => status = 0#8 :: data
       | .adjusted fields => status = 1#8 :: byte fields.length :: fields.map byte
       | .pending => status = [2#8]
       | .refused reason => status = [3#8, byte reason.code]
       | .badField index => status = [4#8, byte index]
       | .badLength => status = [5#8]
       | .unknownType => status = [6#8]) ∧
     let body : List Byte := byte status.length :: q.code :: status
     q.wire = (0xC3#8 :: body) ++
       [(crc16 body).extractLsb' 8 8, (crc16 body).extractLsb' 0 8]) ∧
  ([.clockNotSet, .busy, .lent, .notLent, .already, .cameraFault, .critical, .rehearsal,
    .recovering, .writing, .idle] : List RefuseReason).map (·.code) = List.range' 1 11 ∧
  crc16 [] = 0xFFFF#16 ∧
  (∀ (bytes : List Byte) (b : Byte), crc16 (bytes ++ [b]) =
    (List.range 8).foldl (fun (c : BitVec 16) _ => if c.msb then (c <<< 1) ^^^ 0x1021#16 else c <<< 1)
      (crc16 bytes ^^^ (b.setWidth 16 <<< 8))) ∧
  (∀ (f : HostFrame) (r : Reply) (p : Part),
    let sent : SentReply := ⟨f.code ||| 0x80#8, r⟩
    startReply f r p = { p with link :=
      { p.link with
        handled := some f, reply := some sent
        replyEnds := p.after ((sent.wire.length * 10 * 32768 + 57599) / 57600) } }) ∧
  (∀ p : Part, p.replySentAt = p.link.reply.map (fun _ => p.link.replyEnds)) ∧
  ∀ s : State, s.part.awake = true →
    (∀ (c : Instr) (f : HostFrame), requestFrame c = some f →
      (s.part.link.handled = none → c.wellFormed = true → exec c s = .next (s.put
        (startReply f (handleFrame f s.part).reply (handleFrame f s.part).part))) ∧
      (s.part.link.handled.isSome = true → s.part.link.waiting = none → exec c s =
        .next (s.put { s.part with link := { s.part.link with waiting := some f } })) ∧
      (s.part.link.handled.isSome = true → s.part.link.waiting.isSome = true →
        exec c s = .next s)) ∧
    (∀ (code : Byte) (p : List Byte), s.part.link.handled = none →
      exec (.unknownType code p) s =
        .next (s.put (startReply ⟨code, p⟩ .unknownType s.part)) ∧
      (startReply ⟨code, p⟩ .unknownType s.part).hostWire =
        (SentReply.mk (code ||| 0x80#8) .unknownType).wire) ∧
    (∀ d, s.part.replySentAt = some d → s.part.reached d = true → s.part.link.softReset = false →
      let freed : Part := { s.part with link :=
        { s.part.link with handled := none, waiting := none, reply := none } }
      (s.part.link.waiting = none → exec .replySent s = .next (s.put freed)) ∧
      (∀ f, s.part.link.waiting = some f → exec .replySent s =
        .next (s.put (startReply f (handleFrame f freed).reply (handleFrame f freed).part))))

/-- R173, R174: the bytes of a whole frame, taken by an idle receiver, have just the effect of the
request that they carry: the TYPE and the payload arrive as sent, the LEN and the CRC pass, and
with the buffer empty the reply begins; with the handled place full the frame waits, and with both
full it is discarded. A part of a frame only stands in the receiver, and the rest completes it
where no more than 20 ms, 655 ticks, have passed; a frame with another CRC is discarded on
completion.
R107, R173: a gap and a LEN byte above 250 discard the frame being built on either link, and the
byte that ends a gap begins a frame only where it is SYNC; bytes that come after a gap find the
receiver idle; a discarded camera-line frame has no effect but on the receiver. A gap command
counts on to the gap (the model's choice, assumption 1). That HOST_LEN_ABOVE_250 and
CAMERA_LINE_LEN_ABOVE_250 discard the frame whatever byte they carry, one of 250 or less too, and
that HOST_FRAME_COMPLETE takes a part of a frame, which then only stands in the receiver, are the
model's choice too (DESIGN CHOICE, assumption 23). -/
def Obligations.ReceiversTakeWholeFramesOnly : Prop :=
  (∀ (code : Byte) (p : List Byte) (s : State), s.part.awake = true → p.length ≤ 250 →
     let body : List Byte := byte p.length :: code :: p
     let frame : List Byte :=
       0xC3#8 :: (body ++ [(crc16 body).extractLsb' 8 8, (crc16 body).extractLsb' 0 8])
     let heard (rx : List Byte) : Part :=
       { s.part with link := { s.part.link with rx := rx, rxLast := s.part.time.elapsed } }
     let taken (bytes : List Byte) : Prop :=
       (s.part.link.handled = none → exec (.hostFrameComplete bytes) s =
         .next (s.put (startReply ⟨code, p⟩ (handleFrame ⟨code, p⟩ (heard [])).reply
           (handleFrame ⟨code, p⟩ (heard [])).part))) ∧
       (s.part.link.handled.isSome = true → s.part.link.waiting = none →
         exec (.hostFrameComplete bytes) s = .next (s.put
           { heard [] with link := { (heard []).link with waiting := some ⟨code, p⟩ } })) ∧
       (s.part.link.handled.isSome = true → s.part.link.waiting.isSome = true →
         exec (.hostFrameComplete bytes) s = .next (s.put (heard [])))
     (s.part.link.rx = [] → taken frame) ∧
     (∀ n, 0 < n → n < frame.length →
       (s.part.link.rx = [] → exec (.hostFrameComplete (frame.take n)) s =
         .next (s.put (heard (frame.take n)))) ∧
       (s.part.link.rx = frame.take n → s.part.reached (s.part.link.rxLast + 656#48) = false →
         taken (frame.drop n))) ∧
     (∀ high low : Byte, s.part.link.rx = [] →
       beNat [high, low] ≠ (crc16 (byte p.length :: code :: p)).toNat →
       exec (.hostFrameComplete (0xC3#8 :: byte p.length :: code :: (p ++ [high, low]))) s =
         .next (s.put (heard [])))) ∧
  (∀ (b : Byte) (s : State), s.part.awake = true →
     let host (rx : List Byte) : State := s.put { s.part with
       link := { s.part.link with rx := rx, rxLast := s.part.time.elapsed } }
     let line (rx : List Byte) : State := s.put { s.part with
       camera := { s.part.camera with rx := rx, rxLast := s.part.time.elapsed } }
     let begun : List Byte := if b = 0xC3#8 then [b] else []
     let hostGap : Prop := s.part.reached (s.part.link.rxLast + 656#48) = true
     let lineGap : Prop := s.part.reached (s.part.camera.rxLast + 1639#48) = true
     (s.part.link.rx = [] ∨ hostGap → exec (.hostInterByteGap b) s = .next (host begun)) ∧
     (∃ t : State, exec (.hostInterByteGap b) s = .next t ∧ t.pending = s.pending ∧
       t.part.link = { s.part.link with rx := begun, rxLast := t.part.time.elapsed }) ∧
     (∀ bytes, bytes ≠ [] → hostGap → exec (.hostFrameComplete bytes) s =
       exec (.hostFrameComplete bytes)
         (s.put { s.part with link := { s.part.link with rx := [] } })) ∧
     (s.part.camera.rx = [] ∨ lineGap → exec (.cameraLineGap b) s = .next (line begun)) ∧
     (∃ t : State, exec (.cameraLineGap b) s = .next t ∧ t.pending = s.pending ∧
       t.part.camera.rx = begun ∧ t.part.camera.rxLast = t.part.time.elapsed) ∧
     exec (.hostLenAbove250 b) s = .next (host []) ∧
     exec (.cameraLineLenAbove250 b) s = .next (line []) ∧
     (∀ x y : Byte, 250 < y.toNat →
       (receiveByte [x] y).building = [] ∧ (receiveByte [x] y).frame = none) ∧
     ∀ bytes : List Byte, discardedFrame bytes = true → s.part.camera.rx = [] ∨ lineGap →
       exec (.cameraFrameDiscarded bytes) s = .next (line []))

/-! ### What every step keeps -/

/-- The laws of the device on the journal and on notices (R166, R178), kept by every step from
every state: at most 256 records with consecutive numbers, only the newest open, and one notice
entry for each kind.
R166, R167, R171: but for COLD_START, a step only adds to the journal: it appends closed records,
records misses of a run, and closes the open record. An append closes the open record, removes the
oldest of a full ring and gives the new record the next number; above 4,294,967,294 it empties the
ring first and the record takes number 1. -/
def Obligations.JournalAndNoticesStayLawful : Prop :=
  (∀ s t : State, s.part.journal.Lawful → noticesLawful s.part.notices → step s = .next t →
     t.part.journal.Lawful ∧ noticesLawful t.part.notices) ∧
  (∀ (c : Instr) (s t : State), c ≠ .coldStart → exec c s = .next t →
     s.part.journal.Grows t.part.journal) ∧
  (∀ (j : Journal) (x : FrameRecord), j.Lawful →
     let closed (r : FrameRecord) : FrameRecord := { r with flags := { r.flags with isOpen := false } }
     (j.nextNumber ≤ 4294967294 → j.append x = { j with
        records := (j.records.map closed).drop (j.records.length - 255) ++
          [{ x with number := j.nextNumber }]
        nextNumber := j.nextNumber + 1 }) ∧
     (4294967294 < j.nextNumber → j.append x = { j with
        records := [{ x with number := 1 }], nextNumber := 2 }))

/-- The laws of the device on the port and on the camera's lines (R89, R95, R108, R121, R124,
R157), kept together by every step from every state that has them: the bus switch and the lend
timer follow the port state, an operation exists only while the port is OWNED or YIELDING and
the part awake, SHUTTER is active only in EXPOSING and FOCUS only in FOCUSING or EXPOSING,
neither in rehearsal, and no SET is sent in rehearsal or while the part is not awake. -/
def Obligations.PortAndLinesStayLawful : Prop :=
  ∀ s t : State, s.part.PortLawful → s.part.LinesLawful → step s = .next t →
    t.part.PortLawful ∧ t.part.LinesLawful

/-- The law of the device on readings (R44, R65, R79, R97, R111, R123, R168), kept by every step
from every state: every A held or recorded lies in −160..+160 and every B in −64..+64, the run's
A_prev and B_last among them. -/
def Obligations.ReadingsStayInRange : Prop :=
  ∀ s t : State, s.part.ReadingsLawful → step s = .next t → t.part.ReadingsLawful

/-- The state after reset has every law of the device: the records, the journal, the notices, the
port, the lines and the readings are lawful, no command waits, and the clock stands NOT_SET at 0
(R30, R163, R166, R178, R182). Every plan slot is EMPTY, and the other records hold the defaults
of their tables. -/
def Obligations.ResetIsLawful : Prop :=
  State.reset.part.tables.Lawful ∧ State.reset.part.time.Lawful ∧ State.reset.part.journal.Lawful ∧
  noticesLawful State.reset.part.notices ∧ State.reset.part.PortLawful ∧
  State.reset.part.LinesLawful ∧ State.reset.part.ReadingsLawful ∧
  State.reset.pending = [] ∧ State.reset.part.engine = .disarmed ∧
  State.reset.part.time.clock = .notSet ∧ State.reset.part.time.instant = 0 ∧
  State.reset.part.time.elapsed = 0 ∧ State.reset.part.run = none ∧
  State.reset.part.journal.records = [] ∧ State.reset.part.journal.nextNumber = 1 ∧
  State.reset.part.notices = [⟨.coldStart, 1, 0, 0, none⟩] ∧
  (∀ i, State.reset.part.planAt i = none) ∧
  (∀ i, State.reset.part.tables.profiles.get i =
    { lineMode := .settings, report := .noReport, sMin := -80, sMax := 32, sBulb := 24, sKnee := -24
      gMax := 32, gKnee := 16, targetB := 0, wakeMode := .fixedTime, wakeLead := 16
      readyTimeout := 40, settingTimeout := 8192, prefocus := 0, shutterPulse := 3277
      activityTimeout := 16384, writeTimeout := 240, reportWait := 16, reserve := 24
      keepWarmLimit := 80, burstSpacing := 8, faultLimit := 3, recoveryOff := 40
      recoveryAttempts := 3 }) ∧
  (∀ i, State.reset.part.tables.windows.get i =
    { enabled := false, startSod := 0, endSod := 0, dates := none, weekdays := 127, gate := .noGate
      plan := 0, essential := false }) ∧
  State.reset.part.tables.general =
    { levelSchedule := 2, levelExternal := 1, levelManual := 0, lateLimit := 16, triggerPlan := none
      triggerEdge := .falling, holdoff := 80, meterEnabled := true, meterPeriod := 128, cCal := 0
      lendLimit := 30, lendMin := 240, reclaimLead := 80, lendPolicy := .partFirst, mask := 16383 } ∧
  State.reset.part.tables.supply =
    { thrThrift := 7000, thrScarce := 6600, thrCritical := 6200, hysteresis := 150, confirm := 3
      coldSlope := 0, sagAllowance := 250, checkPeriod := 480, fThrift := 2, fScarce := 4
      rideThrough := 4, warmWindow := 10 }
end

