-- ==== Sys2Proof/Laws/Journal.lean ====
section
/-! SUPPORT. The journal's operations each say once what they do, and every one of them keeps the law
of the journal (R166). -/

set_option Elab.async false

namespace Sys2Proof.Machine

/-! ### Numbering -/

theorem numberedFrom_append (n : Nat) (xs ys : List FrameRecord) :
    numberedFrom n (xs ++ ys) = (numberedFrom n xs && numberedFrom (n + xs.length) ys) := by
  induction xs generalizing n with
  | nil => simp [numberedFrom]
  | cons x xs ih =>
    simp [numberedFrom, ih, Bool.and_assoc, Nat.add_assoc, Nat.add_comm 1]

theorem numberedFrom_drop_one (n : Nat) (xs : List FrameRecord) (h : numberedFrom n xs = true) :
    numberedFrom (n + 1) (xs.drop 1) = true := by
  cases xs with
  | nil => rfl
  | cons x xs => simpa [numberedFrom] using (by simpa [numberedFrom] using h : _ ∧ _).2

/-! ### Closing and extending the newest record -/

@[simp] theorem closeNewest_length (rs : List FrameRecord) :
    (closeNewest rs).length = rs.length := by
  fun_induction closeNewest rs <;> simp_all

@[simp] theorem numberedFrom_closeNewest (n : Nat) (rs : List FrameRecord) :
    numberedFrom n (closeNewest rs) = numberedFrom n rs := by
  fun_induction closeNewest rs generalizing n <;> simp_all [numberedFrom]

/-- No record of a closed ring is open. -/
def allClosed (rs : List FrameRecord) : Bool := rs.all (fun r => !r.flags.isOpen)

theorem onlyNewestOpen_of_allClosed (rs : List FrameRecord) (h : allClosed rs = true) :
    onlyNewestOpen rs = true := by
  fun_induction onlyNewestOpen rs <;> simp_all [allClosed]

theorem closeNewest_allClosed (rs : List FrameRecord) (h : onlyNewestOpen rs = true) :
    allClosed (closeNewest rs) = true := by
  fun_induction closeNewest rs <;> simp_all [allClosed, onlyNewestOpen]

theorem allClosed_drop (rs : List FrameRecord) (n : Nat) (h : allClosed rs = true) :
    allClosed (rs.drop n) = true := by
  simp only [allClosed, List.all_eq_true] at *
  exact fun r hr => h r (List.mem_of_mem_drop hr)

theorem onlyNewestOpen_concat (rs : List FrameRecord) (r : FrameRecord) (h : allClosed rs = true)
    (hr : (!r.flags.isOpen || (r.outcome == .missed && r.source == .schedule)) = true) :
    onlyNewestOpen (rs ++ [r]) = true := by
  induction rs with
  | nil => simpa [onlyNewestOpen] using hr
  | cons x xs ih =>
    have hx : x.flags.isOpen = false ∧ allClosed xs = true := by simpa [allClosed] using h
    cases xs <;> simp_all [onlyNewestOpen, allClosed]

@[simp] theorem extendNewest_length (due : Nat) (rs : List FrameRecord) :
    (extendNewest due rs).length = rs.length := by
  fun_induction extendNewest due rs <;> simp_all

@[simp] theorem numberedFrom_extendNewest (n due : Nat) (rs : List FrameRecord) :
    numberedFrom n (extendNewest due rs) = numberedFrom n rs := by
  fun_induction extendNewest due rs generalizing n <;> simp_all [numberedFrom]

theorem onlyNewestOpen_extendNewest (due : Nat) (rs : List FrameRecord) :
    onlyNewestOpen (extendNewest due rs) = onlyNewestOpen rs := by
  fun_induction extendNewest due rs with
  | case1 => rfl
  | case2 r => simp [onlyNewestOpen]
  | case3 r rs hne ih =>
    cases rs with
    | nil => simp at hne
    | cons x xs => cases xs <;> simp_all [onlyNewestOpen, extendNewest]

/-! ### The operations keep the law -/

theorem Journal.atAppend_lawful {j : Journal} (h : j.Lawful) :
    j.atAppend.Lawful ∧ j.atAppend.nextNumber ≤ lastFrameNumber := by
  unfold Journal.atAppend
  split
  · exact ⟨by simp [Journal.Lawful, numberedFrom, onlyNewestOpen, lastFrameNumber], by
      simp [lastFrameNumber]⟩
  · exact ⟨h, by omega⟩

/-- What an append does to a lawful journal that need not be renumbered: the record takes the next
number as the newest, every record is closed, and a full ring gives up its oldest (R166, R167). -/
theorem Journal.append_records (rec : FrameRecord) (j : Journal) :
    (j.append rec).records =
      (if j.atAppend.records.length < journalCapacity then closeNewest j.atAppend.records
        else (closeNewest j.atAppend.records).drop 1) ++
      [{ rec with number := j.numberFor }] := by
  simp [Journal.append, Journal.numberFor]

@[simp] theorem Journal.append_nextNumber (rec : FrameRecord) (j : Journal) :
    (j.append rec).nextNumber = j.numberFor + 1 := rfl

@[simp] theorem Journal.append_openRun (rec : FrameRecord) (j : Journal) :
    (j.append rec).openRun = j.openRun := by
  simp only [Journal.append, Journal.atAppend]; split <;> rfl

/-- The newest record after an append is the record appended, under the next number. -/
theorem Journal.append_getLast (rec : FrameRecord) (j : Journal) :
    (j.append rec).records.getLast? = some { rec with number := j.numberFor } := by
  simp [Journal.append_records]

@[simp] theorem Journal.append_newest (rec : FrameRecord) (j : Journal) :
    (j.append rec).newest = some j.numberFor := by
  simp [Journal.newest, Journal.append_getLast]

theorem Journal.append_lawful {j : Journal} (rec : FrameRecord) (h : j.Lawful)
    (hr : (!rec.flags.isOpen || (rec.outcome == .missed && rec.source == .schedule)) = true) :
    (j.append rec).Lawful := by
  obtain ⟨⟨hlen, hlt, hnext, hnum, hopen⟩, hroom⟩ := Journal.atAppend_lawful h
  have hcl := closeNewest_allClosed _ hopen
  refine ⟨?_, ?_, ?_, ?_, ?_⟩
  · rw [Journal.append_records]
    split <;> simp [journalCapacity] at * <;> omega
  · rw [Journal.append_records, Journal.append_nextNumber]
    simp only [Journal.numberFor]
    split <;> simp [journalCapacity] at * <;> omega
  · simp only [Journal.append_nextNumber, Journal.numberFor, lastFrameNumber] at *; omega
  · rw [Journal.append_records, Journal.append_nextNumber]
    simp only [Journal.numberFor] at *
    split
    · have : j.atAppend.nextNumber + 1 - (j.atAppend.records.length + 1) =
        j.atAppend.nextNumber - j.atAppend.records.length := by omega
      simp [numberedFrom_append, this, hnum, numberedFrom]; omega
    · have hd := numberedFrom_drop_one _ _ ((numberedFrom_closeNewest _ _).trans hnum)
      have e1 : j.atAppend.nextNumber + 1 - (j.atAppend.records.length - 1 + 1) =
        j.atAppend.nextNumber - j.atAppend.records.length + 1 := by
          simp [journalCapacity] at *; omega
      simp [numberedFrom_append, e1, numberedFrom]
      refine ⟨by simpa using hd, ?_⟩
      simp [journalCapacity] at *; omega
  · rw [Journal.append_records]
    split
    · exact onlyNewestOpen_concat _ _ hcl hr
    · exact onlyNewestOpen_concat _ _ (allClosed_drop _ _ hcl) hr

theorem Journal.close_lawful {j : Journal} (h : j.Lawful) : j.close.Lawful := by
  obtain ⟨hlen, hlt, hnext, hnum, hopen⟩ := h
  exact ⟨by simpa [Journal.close] using hlen, by simpa [Journal.close] using hlt, hnext,
    by simpa [Journal.close] using hnum,
    onlyNewestOpen_of_allClosed _ (closeNewest_allClosed _ hopen)⟩

/-- What one miss does: it extends the newest record where that is open and matches, and otherwise
appends an open MISSED record of its own (R48). -/
theorem Journal.miss_cases (r : Run) (due : Nat) (reason : MissReason) (j : Journal) :
    (∃ rec, j.records.getLast? = some rec ∧ extends? r reason j.openRun rec = true ∧
      j.miss r due reason = { j with records := extendNewest due j.records }) ∨
    ((∀ rec, j.records.getLast? = some rec → extends? r reason j.openRun rec = false) ∧
      j.miss r due reason =
        { j.append (missedRecord .schedule r.plan (some r.window) due none reason true) with
          openRun := r.number }) := by
  unfold Journal.miss
  split
  · next rec h =>
    split
    · next he => exact .inl ⟨rec, h, he, rfl⟩
    · next he => exact .inr ⟨by simp_all, rfl⟩
  · next h => exact .inr ⟨by simp_all, rfl⟩

theorem Journal.miss_lawful {j : Journal} (r : Run) (due : Nat) (reason : MissReason)
    (h : j.Lawful) : (j.miss r due reason).Lawful := by
  obtain ⟨rec, -, -, e⟩ | ⟨-, e⟩ := Journal.miss_cases r due reason j <;> rw [e]
  · obtain ⟨hlen, hlt, hnext, hnum, hopen⟩ := h
    exact ⟨by simpa using hlen, by simpa using hlt, hnext, by simpa using hnum,
      (onlyNewestOpen_extendNewest due j.records).trans hopen⟩
  · exact Journal.append_lawful
      (missedRecord .schedule r.plan (some r.window) due none reason true) h rfl

/-- Whatever way a lawful journal changes, it stays lawful (R166). -/
theorem Journal.Grows.lawful {j k : Journal} (h : j.Grows k) (hj : j.Lawful) : k.Lawful := by
  induction h with
  | same => exact hj
  | append rec closed _ ih => exact Journal.append_lawful rec ih (by simp [closed])
  | miss r due reason _ ih => exact Journal.miss_lawful r due reason ih
  | close _ ih => exact Journal.close_lawful ih

theorem Journal.Grows.trans {i j k : Journal} (h : i.Grows j) (h' : j.Grows k) : i.Grows k := by
  induction h' with
  | same => exact h
  | append rec closed _ ih => exact ih.append rec closed
  | miss r due reason _ ih => exact ih.miss r due reason
  | close _ ih => exact ih.close

end Sys2Proof.Machine
end

