-- ==== Sys2Proof/Laws/Notices.lean ====
section
/-! SUPPORT. The one operation on the notice set says once what it does, and keeps the law of the
notice set (R178). -/

set_option Elab.async false

namespace Sys2Proof.Machine

/-- The kinds in the set after a raise: the same, with the kind added as the newest where it was not
present (R178). -/
theorem raiseIn_kinds (kind : NoticeKind) (detail : Option Nat) (now : Nat) (ns : List Notice) :
    (raiseIn kind detail now ns).map (·.kind) =
      if kind ∈ ns.map (·.kind) then ns.map (·.kind) else ns.map (·.kind) ++ [kind] := by
  fun_induction raiseIn kind detail now ns with
  | case1 => simp
  | case2 n ns h => simp [h]
  | case3 n ns h ih =>
    simp only [List.map_cons, ih, List.mem_cons]
    have : kind ≠ n.kind := fun e => h e.symm
    by_cases hm : kind ∈ ns.map (·.kind) <;> simp [hm, this]

/-- Every entry after a raise is an entry before it, or that kind's entry with its count raised, or a
new entry of count 1 (R178). -/
theorem mem_raiseIn {kind : NoticeKind} {detail : Option Nat} {now : Nat} {ns : List Notice}
    {n : Notice} (h : n ∈ raiseIn kind detail now ns) :
    n ∈ ns ∨ n = ⟨kind, 1, now, now, detail⟩ ∨
      ∃ m ∈ ns, m.kind = kind ∧
        n = { m with count := min (m.count + 1) 255, last := now, detail := detail } := by
  fun_induction raiseIn kind detail now ns with
  | case1 => simp_all
  | case2 m ms hm =>
    obtain h | h := List.mem_cons.mp h
    · exact .inr (.inr ⟨m, by simp, hm, h⟩)
    · exact .inl (by simp [h])
  | case3 m ms hm ih =>
    obtain h | h := List.mem_cons.mp h
    · exact .inl (by simp [h])
    · obtain h | h | ⟨x, hx, e⟩ := ih h
      · exact .inl (by simp [h])
      · exact .inr (.inl h)
      · exact .inr (.inr ⟨x, by simp [hx], e⟩)

/-- A raise keeps the law of the notice set (R178). -/
theorem raiseIn_lawful {kind : NoticeKind} {detail : Option Nat} {now : Nat} {ns : List Notice}
    (h : noticesLawful ns) : noticesLawful (raiseIn kind detail now ns) := by
  refine ⟨?_, fun n hn => ?_⟩
  · rw [raiseIn_kinds]
    split
    · exact h.1
    · next hm => exact List.nodup_append.mpr ⟨h.1, by simp, by
        intro a ha b hb; simp only [List.mem_singleton] at hb; subst hb; exact fun e => hm (e ▸ ha)⟩
  · obtain hn | rfl | ⟨m, hm, -, rfl⟩ := mem_raiseIn hn
    · exact h.2 n hn
    · simp
    · have := h.2 m hm; exact ⟨by simp, by simp⟩

/-- A raise of a kind whose mask flag is clear changes nothing (R179). -/
theorem raiseNotice_masked {kind : NoticeKind} {detail : Option Nat} {s : Part}
    (h : s.tables.general.mask.getLsbD kind.index = false) : raiseNotice kind detail s = s := by
  simp [raiseNotice, h]

/-- A raise changes the notice set and nothing else (R178, R179). -/
theorem raiseNotice_eq (kind : NoticeKind) (detail : Option Nat) (s : Part) :
    raiseNotice kind detail s =
      { s with notices :=
          if s.tables.general.mask.getLsbD kind.index then raiseIn kind detail s.now s.notices
          else s.notices } := by
  unfold raiseNotice; split <;> simp_all

/-- A raise leaves the entry of every other kind as it was (R178). -/
theorem entryOf_raiseIn_other {kind k : NoticeKind} (h : k ≠ kind) (detail : Option Nat) (now : Nat)
    (ns : List Notice) : entryOf k (raiseIn kind detail now ns) = entryOf k ns := by
  have h' : kind ≠ k := fun e => h e.symm
  unfold entryOf
  fun_induction raiseIn kind detail now ns with
  | case1 => simp [h']
  | case2 n ns hn => simp [hn, h']
  | case3 n ns hn ih => simp [List.find?_cons, ih]

/-- After a raise the set holds an entry of the kind, with the raise's detail and time (R178). -/
theorem entryOf_raiseIn_self (kind : NoticeKind) (detail : Option Nat) (now : Nat)
    (ns : List Notice) :
    ∃ n, entryOf kind (raiseIn kind detail now ns) = some n ∧ n.kind = kind ∧ n.detail = detail ∧
      n.last = now := by
  unfold entryOf
  fun_induction raiseIn kind detail now ns with
  | case1 => exact ⟨⟨kind, 1, now, now, detail⟩, by simp, rfl, rfl, rfl⟩
  | case2 n ns hn =>
    exact ⟨{ n with count := min (n.count + 1) 255, last := now, detail := detail },
      by simp [hn], hn, rfl, rfl⟩
  | case3 n ns hn ih => simpa [List.find?_cons, hn] using ih

/-- The entries that remain after the oldest ones are returned are lawful (R180). -/
theorem noticesLawful_drop {ns : List Notice} (n : Nat) (h : noticesLawful ns) :
    noticesLawful (ns.drop n) :=
  ⟨by rw [List.map_drop]; exact h.1.sublist (List.drop_sublist n _),
   fun m hm => h.2 m (List.mem_of_mem_drop hm)⟩

end Sys2Proof.Machine
end

