-- ==== Sys2Proof/Laws/Frames.lean ====
section
/-! SUPPORT. What the shared operations leave alone: `Kept`, operation by operation, up to the tail of a
step. -/

set_option Elab.async false

namespace Sys2Proof.Machine

namespace Kept

variable {b : Bool} {s t u : Part}

theorem refl (s : Part) : Kept b s s :=
  ⟨rfl, rfl, rfl, rfl, rfl, rfl, rfl, rfl, rfl, .same _, id, fun _ _ => rfl, fun _ => ⟨rfl, rfl⟩,
    rfl, fun _ => rfl, rfl, rfl, rfl⟩

theorem trans (h : Kept b s t) (h' : Kept b t u) : Kept b s u where
  time := h'.time.trans h.time
  tables := h'.tables.trans h.tables
  gates := h'.gates.trans h.gates
  engine := h'.engine.trans h.engine
  rehearsal := h'.rehearsal.trans h.rehearsal
  monitor := h'.monitor.trans h.monitor
  link := h'.link.trans h.link
  pins := h'.pins.trans h.pins
  hold := h'.hold.trans h.hold
  journal := h.journal.trans h'.journal
  notices := h'.notices ∘ h.notices
  rare k hk := (h'.rare k hk).trans (h.rare k hk)
  health hb := ⟨(h'.health hb).1.trans (h.health hb).1, (h'.health hb).2.trans (h.health hb).2⟩
  meter := h'.meter.trans (by rw [h.meter])
  measuring hm := by
    have e := h.measuring hm
    exact (h'.measuring (by rw [e]; exact hm)).trans e
  cadence := ⟨h'.cadence.1.trans h.cadence.1, h'.cadence.2.1.trans h.cadence.2.1,
    h'.cadence.2.2.trans h.cadence.2.2⟩

theorem via (h' : Kept b t u) (h : Kept b s t) : Kept b s u := h.trans h'

/-- What keeps health keeps everything else too. -/
theorem weaken (h : Kept false s t) : Kept b s t := { h with health := fun _ => h.health rfl }

theorem now (h : Kept b s t) : t.now = s.now := by simp [Part.now, h.time]

theorem awake (h : Kept b s t) : t.awake = s.awake := by simp [Part.awake, h.monitor]

end Kept

/-- An edit of the fields that `Kept` does not name. -/
theorem kept_edit {b : Bool} (s : Part) {run : Option Run} {runCount : Nat}
    {lastBase : Option (Fin 16 × Int)} {doneMark : Option DoneMark} {arbiter : Arbiter}
    {op : Option Operation} {holders : Holders} {camera : CameraPort} {lending : Lending} :
    Kept b s { s with
      run := run, runCount := runCount, lastBase := lastBase, doneMark := doneMark
      arbiter := arbiter, op := op, holders := holders, camera := camera, lending := lending } :=
  ⟨rfl, rfl, rfl, rfl, rfl, rfl, rfl, rfl, rfl, .same _, id, fun _ _ => rfl, fun _ => ⟨rfl, rfl⟩,
    rfl, fun _ => rfl, rfl, rfl, rfl⟩

/-- An edit of what the capture engine and camera health judge by. -/
theorem kept_judge (s : Part) {run : Option Run} {arbiter : Arbiter} {op : Option Operation}
    {health : Health} {failCount : Nat} :
    Kept true s { s with
      run := run, arbiter := arbiter, op := op, health := health, failCount := failCount } :=
  ⟨rfl, rfl, rfl, rfl, rfl, rfl, rfl, rfl, rfl, .same _, id, fun _ _ => rfl, by simp,
    rfl, fun _ => rfl, rfl, rfl, rfl⟩

/-- An edit of the battery supervisor's reading, level and streaks. -/
theorem kept_level {b : Bool} (s : Part) {latest : Option BatteryReading} {level : Level}
    {worse better : Nat} {op : Option Operation} :
    Kept b s { s with
      op := op
      battery := { s.battery with latest := latest, level := level, worse := worse
                                  better := better } } :=
  ⟨rfl, rfl, rfl, rfl, rfl, rfl, rfl, rfl, rfl, .same _, id, fun _ _ => rfl, fun _ => ⟨rfl, rfl⟩,
    rfl, fun _ => rfl, rfl, rfl, rfl⟩

variable {b : Bool}

/-! ### Operations of Ops.lean -/

theorem raiseNotice_kept (k : NoticeKind) (d : Option Nat) (s : Part)
    (hk : k.rare = false := by rfl) : Kept b s (raiseNotice k d s) := by
  unfold raiseNotice; split
  · exact ⟨rfl, rfl, rfl, rfl, rfl, rfl, rfl, rfl, rfl, .same _, raiseIn_lawful,
      fun r hr => entryOf_raiseIn_other (fun e => by simp [← e, hr] at hk) _ _ _,
      fun _ => ⟨rfl, rfl⟩, rfl, fun _ => rfl, rfl, rfl, rfl⟩
  · exact .refl s

theorem appendRecord_kept (rec : FrameRecord) (h : rec.flags.isOpen = false) (s : Part) :
    Kept b s (appendRecord rec s) :=
  ⟨rfl, rfl, rfl, rfl, rfl, rfl, rfl, rfl, rfl, .append rec h (.same _), id, fun _ _ => rfl,
    fun _ => ⟨rfl, rfl⟩, rfl, fun _ => rfl, rfl, rfl, rfl⟩

theorem missRecord_kept (r : Run) (due : Nat) (reason : MissReason) (s : Part) :
    Kept b s { s with journal := s.journal.miss r due reason } :=
  ⟨rfl, rfl, rfl, rfl, rfl, rfl, rfl, rfl, rfl, .miss r due reason (.same _), id, fun _ _ => rfl,
    fun _ => ⟨rfl, rfl⟩, rfl, fun _ => rfl, rfl, rfl, rfl⟩

theorem dropKeepWarm_kept (s : Part) : Kept b s (dropKeepWarm s) := kept_edit s

theorem withdrawSchedule_kept (s : Part) : Kept b s (withdrawSchedule s) := kept_edit s

theorem markPastEnd_kept (s : Part) : Kept b s (markPastEnd s) := kept_edit s

theorem retimeMark_kept (s : Part) : Kept b s (retimeMark s) := kept_edit s

theorem readIfIdle_kept (s : Part) : Kept b s (readIfIdle s) := by
  unfold readIfIdle beginReading; split
  · next hi =>
      exact ⟨rfl, rfl, rfl, rfl, rfl, rfl, rfl, rfl, rfl, .same _, id, fun _ _ => rfl,
        fun _ => ⟨rfl, rfl⟩, rfl, fun h => absurd hi h, rfl, rfl, rfl⟩
  all_goals exact .refl s

theorem takeWakeTime_kept (r : Run) (s : Part) : Kept b s (takeWakeTime r s) :=
  (kept_edit s).trans (readIfIdle_kept _)

theorem noteNextDue_kept (s : Part) : Kept b s (noteNextDue s) := by
  unfold noteNextDue
  repeat' split
  all_goals first
    | exact .refl s
    | exact kept_edit s
    | exact takeWakeTime_kept _ s

theorem fillSchedule_kept (r : Run) (s : Part) : Kept b s (fillSchedule r s) := kept_edit s

theorem raiseSchedule_kept (s : Part) : Kept b s (raiseSchedule s) := by
  unfold raiseSchedule
  repeat' split
  all_goals first
    | exact .refl s
    | exact fillSchedule_kept _ s

theorem finishRun_kept (s : Part) : Kept b s (finishRun s) := by
  unfold finishRun; split
  · exact .refl s
  · exact (kept_edit s).trans (raiseNotice_kept _ _ _)

theorem enterEnding_kept (s : Part) : Kept b s (enterEnding s) := by
  unfold enterEnding; split
  · exact .refl s
  · exact kept_edit s

theorem endRun_kept (s : Part) : Kept b s (endRun s) := by
  unfold endRun; split
  · exact enterEnding_kept s
  · exact finishRun_kept s

theorem startRun_kept (w : Fin 8) (o : Occurrence) (s : Part) : Kept b s (startRun w o s) := by
  unfold startRun
  extract_lets planIx
  split
  · exact .refl s
  · extract_lets wraps
    refine (noteNextDue_kept _).via ((raiseNotice_kept _ _ _).via ?_)
    refine ⟨rfl, rfl, rfl, rfl, rfl, rfl, rfl, rfl, rfl, ?_, id, fun _ _ => rfl,
      fun _ => ⟨rfl, rfl⟩, rfl, fun _ => rfl, rfl, rfl, rfl⟩
    dsimp only
    split
    · exact .close (.same _)
    · exact .same _

theorem startSelected_kept (sel : Option (Fin 8)) (s : Part) : Kept b s (startSelected sel s) := by
  unfold startSelected
  repeat' split
  all_goals first
    | exact .refl s
    | exact startRun_kept _ _ s

theorem reEvaluate_kept (s : Part) : Kept b s (reEvaluate s) := by
  unfold reEvaluate
  extract_lets sel t
  have h : Kept b s t := kept_edit s
  refine Kept.trans h ?_
  repeat' split
  all_goals first
    | exact .refl _
    | exact startSelected_kept _ _
    | exact (startSelected_kept _ _).via (endRun_kept _)
    | exact endRun_kept _

theorem finishByAction_kept (s : Part) : Kept b s (finishByAction s) := by
  unfold finishByAction
  dsimp only
  repeat' split
  all_goals first
    | exact (kept_edit s).trans (finishRun_kept _)
    | exact (kept_edit s).trans (enterEnding_kept _)

theorem endAction_kept (p : Plan) (due : Nat) (r : Run) (s : Part) :
    Kept b s (endAction p due r s) := by
  unfold endAction
  extract_lets target here
  have h : Kept b s here := kept_edit s
  repeat' split
  all_goals first
    | exact h
    | exact kept_edit s
    | exact (finishByAction_kept _).via h
    | exact (raiseNotice_kept _ _ _).via h
    | exact (raiseNotice_kept _ _ _).via (kept_edit s)
    | exact (raiseNotice_kept _ _ _).via ((finishByAction_kept _).via h)

theorem stepDue_kept (f : Option (Int × Int)) (s : Part) : Kept b s (stepDue f s) := by
  unfold stepDue
  dsimp only
  repeat' split
  all_goals first
    | exact .refl s
    | exact kept_edit s
    | exact endAction_kept _ _ _ s

theorem consumeDue_kept (c : Consumption) (s : Part) : Kept b s (consumeDue c s) := by
  unfold consumeDue
  repeat' split
  · exact .refl s
  · exact stepDue_kept _ s
  · exact (missRecord_kept _ _ _ s).trans ((withdrawSchedule_kept _).trans
      ((dropKeepWarm_kept _).trans (stepDue_kept _ _)))

theorem missPassed_kept (n : Nat) (s : Part) : Kept b s (missPassed n s) := by
  induction n generalizing s with
  | zero => exact .refl s
  | succ n ih =>
    unfold missPassed
    dsimp only
    split
    · exact (noteNextDue_kept s).trans ((consumeDue_kept _ _).trans (ih _))
    · exact noteNextDue_kept s

theorem afterConsumption_kept (s : Part) : Kept b s (afterConsumption s) := missPassed_kept _ s

theorem consumePassed_kept (reason : MissReason) (n : Nat) (s : Part) :
    Kept b s (consumePassed reason n s) := by
  induction n generalizing s with
  | zero => exact .refl s
  | succ n ih =>
    unfold consumePassed
    split
    · exact (consumeDue_kept _ s).trans (ih _)
    · exact .refl s

theorem catchUp_kept (reason : MissReason) (s : Part) : Kept b s (catchUp reason s) :=
  (withdrawSchedule_kept s).trans (consumePassed_kept _ _ _)

/-! ### The capture engine -/

theorem releaseLines_kept (s : Part) : Kept b s (releaseLines s) := kept_edit s

theorem computeDue_kept (o : Operation) (r : Run) (p : Plan) (s : Part) :
    Kept b s (computeDue o r p s) := kept_edit s

theorem computeOperation_kept (o : Operation) (p : Plan) (s : Part) :
    Kept b s (computeOperation o p s) := kept_edit s

theorem enterExposing_kept (o : Operation) (s : Part) : Kept b s (enterExposing o s) := kept_edit s

theorem enterFocusing_kept (o : Operation) (s : Part) : Kept b s (enterFocusing o s) := by
  unfold enterFocusing; split
  · exact enterExposing_kept o s
  · exact kept_edit s

theorem enterSetting_kept (o : Operation) (s : Part) : Kept b s (enterSetting o s) := kept_edit s

theorem beginFrame_kept (s : Part) : Kept b s (beginFrame s) := by
  unfold beginFrame
  dsimp only
  repeat' split
  all_goals first
    | exact .refl s
    | exact enterSetting_kept _ s
    | exact enterFocusing_kept _ s

theorem endWaiting_kept (s : Part) : Kept b s (endWaiting s) := by
  unfold endWaiting
  repeat' split
  all_goals first
    | exact .refl s
    | exact (computeDue_kept _ _ _ s).trans (beginFrame_kept _)

theorem enterWaiting_kept (o : Operation) (s : Part) : Kept b s (enterWaiting o s) := by
  unfold enterWaiting
  dsimp only
  repeat' split
  all_goals first
    | exact kept_edit s
    | exact (kept_edit s).trans (endWaiting_kept _)

theorem leaveWaking_kept (o : Operation) (s : Part) : Kept b s (leaveWaking o s) := by
  unfold leaveWaking
  repeat' split
  all_goals first
    | exact .refl s
    | exact enterWaiting_kept o s
    | exact (computeOperation_kept o _ s).trans (beginFrame_kept _)

theorem endWaking_kept (s : Part) : Kept b s (endWaking s) := by
  unfold endWaking
  repeat' split
  all_goals first
    | exact .refl s
    | exact leaveWaking_kept _ s

/-- A frame record is never open (R169). -/
@[simp] theorem Operation.record_closed (o : Operation) (outcome : FrameOutcome) (b : Option Int)
    (cause : Option FailCause) (now merged : Nat) :
    (o.record outcome b cause now merged).flags.isOpen = false := by
  simp only [Operation.record, Operation.recordFlags]; split <;> rfl

theorem recordFrame_kept (o : Operation) (outcome : FrameOutcome) (v : Option Int)
    (cause : Option FailCause) (s : Part) : Kept b s (recordFrame o outcome v cause s) :=
  (appendRecord_kept _ (by simp) s).trans (kept_edit _)

theorem consumeByOperation_kept (o : Operation) (s : Part) : Kept b s (consumeByOperation o s) := by
  unfold consumeByOperation
  extract_lets feedback deferred t u
  have h : Kept b s t := (consumeDue_kept _ _).via (kept_edit s)
  have h' : Kept b s u := h.trans (kept_edit t)
  refine (afterConsumption_kept _).via ?_
  split
  · exact (catchUp_kept _ _).via h'
  · exact h'

theorem judgeHealth_kept (o : Operation) (s : Part) : Kept true s (judgeHealth o s) := by
  unfold judgeHealth; split
  · exact kept_judge s
  · exact .refl s

theorem decidePower_kept (o : Operation) (s : Part) : Kept b s (decidePower o s) := kept_edit s

theorem announceShoot_kept (o : Operation) (s : Part) : Kept b s (announceShoot o s) := by
  unfold announceShoot; split
  · exact raiseNotice_kept _ _ s
  · exact .refl s

theorem releaseOperation_kept (s : Part) : Kept b s (releaseOperation s) := by
  unfold releaseOperation
  dsimp only
  repeat' split
  all_goals first
    | exact kept_edit s
    | exact (kept_edit s).trans ((finishRun_kept _).trans (reEvaluate_kept _))
    | exact (kept_edit s).trans (finishRun_kept _)

theorem endOperation_kept (s : Part) : Kept true s (endOperation s) := by
  unfold endOperation
  dsimp only
  split
  · exact .refl s
  · next o _ =>
    refine Kept.trans ?_ ((judgeHealth_kept o _).trans ((decidePower_kept o _).trans
      ((announceShoot_kept o _).trans (releaseOperation_kept _))))
    split
    · exact consumeByOperation_kept _ s
    · exact .refl s

theorem failFrame_kept (cause : FailCause) (s : Part) : Kept true s (failFrame cause s) := by
  unfold failFrame
  dsimp only
  split
  · exact .refl s
  · exact (releaseLines_kept s).trans ((recordFrame_kept _ _ _ _ _).trans
      ((kept_judge _).trans (endOperation_kept _)))

theorem takeFrame_kept (b : Option Int) (s : Part) : Kept true s (takeFrame b s) := by
  unfold takeFrame
  split
  · exact .refl s
  · extract_lets offset frames o t u
    have h : Kept true s t := (releaseLines_kept s).trans (recordFrame_kept _ _ _ _ _)
    have h' : Kept true s u := h.trans (kept_judge t)
    split
    · exact h'.trans (kept_edit u)
    · exact h'.trans (endOperation_kept u)

theorem cutOperation_kept (cause : FailCause) (s : Part) : Kept true s (cutOperation cause s) := by
  unfold cutOperation
  repeat' split
  all_goals first
    | exact .refl s
    | exact endOperation_kept s
    | exact failFrame_kept cause s

theorem completeWrite_kept (o : Operation) (s : Part) : Kept true s (completeWrite o s) := by
  unfold completeWrite
  repeat' split
  all_goals first
    | exact failFrame_kept _ s
    | exact takeFrame_kept _ s
    | exact kept_edit s

theorem enterWriting_kept (o : Operation) (s : Part) : Kept true s (enterWriting o s) := by
  unfold enterWriting
  dsimp only
  refine (releaseLines_kept s).trans ?_
  repeat' split
  all_goals first
    | exact kept_edit _
    | exact (kept_edit _).trans (completeWrite_kept o _)

theorem grant_kept (src : Source) (s : Part) : Kept b s (grant src s) := by
  unfold grant
  dsimp only
  repeat' split
  all_goals first
    | exact .refl s
    | exact kept_edit s
    | exact (kept_edit s).trans (leaveWaking_kept _ _)

theorem arbiterTest_kept (s : Part) : Kept b s (arbiterTest s) := by
  unfold arbiterTest
  repeat' split
  all_goals first
    | exact .refl s
    | exact grant_kept _ s

/-! ### Lending and the battery supervisor -/

theorem reclaim_kept (s : Part) : Kept b s (reclaim s) :=
  (kept_edit s).trans (raiseNotice_kept _ _ _)

theorem reclaimTest_kept (s : Part) : Kept b s (reclaimTest s) := by
  unfold reclaimTest; split
  · exact reclaim_kept s
  · exact .refl s

theorem becomeLent_kept (s : Part) : Kept b s (becomeLent s) :=
  (kept_edit s).trans ((raiseNotice_kept _ _ _).trans ((kept_edit _).trans (reclaimTest_kept _)))

theorem lendGrant_kept (s : Part) : Kept b s (lendGrant s) := by
  unfold lendGrant
  dsimp only
  split
  · exact (kept_edit s).trans (becomeLent_kept _)
  · exact kept_edit s

theorem lendTest_kept (s : Part) : Kept b s (lendTest s) := by
  unfold lendTest; split
  · exact lendGrant_kept s
  · exact .refl s

theorem dropLend_kept (s : Part) : Kept b s (dropLend s) := kept_edit s

theorem ownPort_kept (allowed : Bool) (s : Part) : Kept b s (ownPort allowed s) := kept_edit s

theorem raiseAtHandover_kept (s : Part) : Kept b s (raiseAtHandover s) := by
  unfold raiseAtHandover
  repeat' split
  all_goals first
    | exact .refl s
    | exact fillSchedule_kept _ s

theorem handover_kept (s : Part) : Kept b s (handover s) :=
  (raiseAtHandover_kept s).trans ((arbiterTest_kept _).trans (dropLend_kept _))

theorem takeBack_kept (reason : TakenReason) (s : Part) : Kept b s (takeBack reason s) :=
  (ownPort_kept false s).trans ((raiseNotice_kept _ _ _).trans (handover_kept _))

theorem criticalEntry_kept (s : Part) : Kept b s (criticalEntry s) := by
  unfold criticalEntry
  dsimp only
  refine (dropKeepWarm_kept s).trans ((dropLend_kept _).trans ?_)
  split
  · exact .refl _
  · exact (ownPort_kept _ _).trans (raiseNotice_kept _ _ _)
  all_goals exact takeBack_kept _ _

theorem hostKeeps_kept (s : Part) : Kept b s (hostKeeps s) :=
  (consumeDue_kept _ s).trans ((kept_edit _).trans (afterConsumption_kept _))

theorem settleReclaim_kept (s : Part) : Kept b s (settleReclaim s) := by
  unfold settleReclaim; split
  · exact takeBack_kept _ s
  · exact hostKeeps_kept s

theorem excludeHolders_kept (old new : Level) (s : Part) : Kept b s (excludeHolders old new s) := by
  unfold excludeHolders
  extract_lets t u
  have ht : Kept b s t := by unfold t; split; exacts [dropKeepWarm_kept s, .refl s]
  have hu : Kept b t u := by unfold u; split; exacts [criticalEntry_kept t, .refl t]
  split
  · exact ht.trans hu
  · exact (arbiterTest_kept _).via ((raiseSchedule_kept u).via (ht.trans hu))

theorem changeLevel_kept (new : Level) (s : Part) : Kept b s (changeLevel new s) := by
  unfold changeLevel
  dsimp only
  split
  · exact (kept_level s).trans ((raiseNotice_kept _ _ _).trans ((excludeHolders_kept _ _ _).trans
      ((reEvaluate_kept _).trans ((raiseSchedule_kept _).trans ((arbiterTest_kept _).trans
        (lendTest_kept _))))))
  · exact (kept_level s).trans ((raiseNotice_kept _ _ _).trans ((excludeHolders_kept _ _ _).trans
      (reEvaluate_kept _)))

theorem judgeReading_kept (r : BatteryReading) (s : Part) : Kept b s (judgeReading r s) := by
  unfold judgeReading
  dsimp only
  split
  · exact (kept_level s).trans (changeLevel_kept _ _)
  · exact kept_level s

theorem takePeriodic_kept (s : Part) : Kept b s (takePeriodic s) := judgeReading_kept _ s

theorem takeLoaded_kept (s : Part) : Kept b s (takeLoaded s) := by
  unfold takeLoaded
  dsimp only
  repeat' split
  all_goals first
    | exact .refl s
    | exact (kept_level s).trans (judgeReading_kept _ _)

theorem endZeroWake_kept (s : Part) : Kept b s (endZeroWake s) := by
  unfold endZeroWake
  repeat' split
  all_goals first
    | exact .refl s
    | exact leaveWaking_kept _ s

theorem raiseAndGrant_kept (s : Part) : Kept b s (raiseAndGrant s) :=
  (raiseSchedule_kept s).trans (arbiterTest_kept _)

/-- The tail of a step keeps everything that `Kept` names. -/
theorem settle_kept (s : Part) : Kept b s (settle s) :=
  (raiseAndGrant_kept s).trans ((takeLoaded_kept _).trans ((endZeroWake_kept _).trans
    ((raiseAndGrant_kept _).trans ((lendTest_kept _).trans (reclaimTest_kept _)))))

end Sys2Proof.Machine
end

