-- ==== Sys2Proof/Laws/Newest.lean ====
section
/-! SUPPORT. The tail of a step and a battery reading record nothing: the journal stands, but for the
closing that the run number's return to 1 does (R36), which keeps the newest number. -/

set_option Elab.async false

namespace Sys2Proof.Machine

/-- Closing the open record keeps the newest number. -/
theorem Journal.newest_close (j : Journal) : j.close.newest = j.newest := by
  have h : ∀ rs : List FrameRecord,
      (closeNewest rs).getLast?.map (·.number) = rs.getLast?.map (·.number) := by
    intro rs
    induction rs with
    | nil => rfl
    | cons r rs ih =>
      cases rs with
      | nil => rfl
      | cons q qs =>
        have e : (closeNewest (q :: qs)).getLast? ≠ none := by
          intro h; rw [List.getLast?_eq_none_iff] at h; cases qs <;> simp [closeNewest] at h
        simp only [closeNewest, List.getLast?_cons_cons] at *
        rw [List.getLast?_cons]
        cases hq : (closeNewest (q :: qs)).getLast? with
        | none => exact absurd hq e
        | some x => simpa [hq] using ih
  exact h j.records

/-! ### Operations that leave the journal alone -/

theorem raiseNotice_journal (k : NoticeKind) (d : Option Nat) (s : Part) :
    (raiseNotice k d s).journal = s.journal := by unfold raiseNotice; split <;> rfl

theorem noteNextDue_journal (s : Part) : (noteNextDue s).journal = s.journal := by
  unfold noteNextDue takeWakeTime readIfIdle beginReading; repeat' split
  all_goals rfl

theorem raiseSchedule_journal (s : Part) : (raiseSchedule s).journal = s.journal := by
  unfold raiseSchedule fillSchedule; repeat' split
  all_goals rfl

theorem endRun_journal (s : Part) : (endRun s).journal = s.journal := by
  unfold endRun enterEnding finishRun; repeat' split
  all_goals first | rfl | exact raiseNotice_journal _ _ _

theorem beginFrame_journal (s : Part) : (beginFrame s).journal = s.journal := by
  unfold beginFrame enterSetting enterFocusing enterExposing; dsimp only
  repeat' split
  all_goals rfl

theorem endWaiting_journal (s : Part) : (endWaiting s).journal = s.journal := by
  unfold endWaiting; repeat' split
  all_goals first | rfl | exact beginFrame_journal _

theorem leaveWaking_journal (o : Operation) (s : Part) :
    (leaveWaking o s).journal = s.journal := by
  unfold leaveWaking enterWaiting; dsimp only
  repeat' split
  all_goals first | rfl | exact endWaiting_journal _ | exact beginFrame_journal _

theorem arbiterTest_journal (s : Part) : (arbiterTest s).journal = s.journal := by
  unfold arbiterTest grant; dsimp only
  repeat' split
  all_goals first | rfl | exact leaveWaking_journal _ _

theorem reclaimTest_journal (s : Part) : (reclaimTest s).journal = s.journal := by
  unfold reclaimTest; split
  · exact raiseNotice_journal _ _ _
  · rfl

theorem lendTest_journal (s : Part) : (lendTest s).journal = s.journal := by
  unfold lendTest lendGrant becomeLent; dsimp only
  repeat' split
  all_goals first
    | rfl
    | exact (reclaimTest_journal _).trans (raiseNotice_journal _ _ _)

theorem takeBack_journal (reason : TakenReason) (s : Part) :
    (takeBack reason s).journal = s.journal := by
  have h (p : Part) : (raiseAtHandover p).journal = p.journal := by
    unfold raiseAtHandover fillSchedule; repeat' split
    all_goals rfl
  exact (arbiterTest_journal _).trans ((h _).trans (raiseNotice_journal _ _ _))

theorem criticalEntry_journal (s : Part) : (criticalEntry s).journal = s.journal := by
  unfold criticalEntry; dsimp only
  split
  · rfl
  · exact raiseNotice_journal _ _ _
  all_goals exact takeBack_journal _ _

theorem excludeHolders_journal (old new : Level) (s : Part) :
    (excludeHolders old new s).journal = s.journal := by
  unfold excludeHolders
  extract_lets t u
  have ht : t.journal = s.journal := by unfold t; split <;> rfl
  have hu : u.journal = t.journal := by unfold u; split; exacts [criticalEntry_journal t, rfl]
  split
  · exact hu.trans ht
  · rw [arbiterTest_journal, raiseSchedule_journal, hu, ht]

/-! ### Operations that may close the open record -/

theorem startSelected_newest (sel : Option (Fin 8)) (s : Part) :
    (startSelected sel s).journal.newest = s.journal.newest := by
  unfold startSelected startRun; dsimp only
  repeat' split
  all_goals first
    | rfl
    | exact (congrArg Journal.newest ((noteNextDue_journal _).trans (raiseNotice_journal _ _ _)))
    | exact (congrArg Journal.newest ((noteNextDue_journal _).trans
        (raiseNotice_journal _ _ _))).trans (Journal.newest_close _)

theorem reEvaluate_newest (s : Part) : (reEvaluate s).journal.newest = s.journal.newest := by
  unfold reEvaluate; dsimp only
  repeat' split
  all_goals first
    | rfl
    | rw [startSelected_newest, endRun_journal]
    | rw [endRun_journal]
    | rw [startSelected_newest]

theorem changeLevel_newest (new : Level) (s : Part) :
    (changeLevel new s).journal.newest = s.journal.newest := by
  unfold changeLevel; dsimp only
  split
  · rw [lendTest_journal, arbiterTest_journal, raiseSchedule_journal, reEvaluate_newest,
      excludeHolders_journal, raiseNotice_journal]
  · rw [reEvaluate_newest, excludeHolders_journal, raiseNotice_journal]

theorem judgeReading_newest (r : BatteryReading) (s : Part) :
    (judgeReading r s).journal.newest = s.journal.newest := by
  unfold judgeReading; dsimp only
  split
  · exact changeLevel_newest _ _
  · rfl

/-- A periodic battery reading keeps the newest frame number. -/
theorem periodicDue_newest (d : Elapsed) (s : Part) :
    (periodicDue d s).journal.newest = s.journal.newest := by
  unfold periodicDue; dsimp only
  split
  · rfl
  · exact judgeReading_newest _ _

theorem takeLoaded_newest (s : Part) : (takeLoaded s).journal.newest = s.journal.newest := by
  unfold takeLoaded; dsimp only
  repeat' split
  all_goals first | rfl | exact judgeReading_newest _ _

theorem endZeroWake_journal (s : Part) : (endZeroWake s).journal = s.journal := by
  unfold endZeroWake; repeat' split
  all_goals first | rfl | exact leaveWaking_journal _ _

/-- The tail of a step keeps the newest frame number. -/
theorem settle_newest (s : Part) : (settle s).journal.newest = s.journal.newest := by
  simp only [settle, raiseAndGrant, reclaimTest_journal, lendTest_journal, arbiterTest_journal,
    raiseSchedule_journal, endZeroWake_journal, takeLoaded_newest]

end Sys2Proof.Machine
end

