-- ==== Sys2Proof/Laws/State.lean ====
section
/-! SUPPORT. The fields of the part after each named update: what the update writes, and every field
that it leaves. All hold by unfolding the update, so that no later proof unfolds it. -/

set_option Elab.async false

namespace Sys2Proof.Machine

@[simp] theorem dropKeepWarm_fields (s : Part) :
    (dropKeepWarm s).holders.keepWarm = false ∧ (dropKeepWarm s).time = s.time ∧
    (dropKeepWarm s).tables = s.tables ∧ (dropKeepWarm s).gates = s.gates ∧
    (dropKeepWarm s).engine = s.engine ∧ (dropKeepWarm s).run = s.run ∧
    (dropKeepWarm s).runCount = s.runCount ∧ (dropKeepWarm s).lastBase = s.lastBase ∧
    (dropKeepWarm s).doneMark = s.doneMark ∧ (dropKeepWarm s).arbiter = s.arbiter ∧
    (dropKeepWarm s).op = s.op ∧ (dropKeepWarm s).camera = s.camera ∧
    (dropKeepWarm s).health = s.health ∧ (dropKeepWarm s).failCount = s.failCount ∧
    (dropKeepWarm s).rehearsal = s.rehearsal ∧ (dropKeepWarm s).lending = s.lending ∧
    (dropKeepWarm s).battery = s.battery ∧ (dropKeepWarm s).meter = s.meter ∧
    (dropKeepWarm s).monitor = s.monitor ∧ (dropKeepWarm s).journal = s.journal ∧
    (dropKeepWarm s).notices = s.notices ∧ (dropKeepWarm s).link = s.link ∧
    (dropKeepWarm s).pins = s.pins ∧ (dropKeepWarm s).hold = s.hold := by
  simp [dropKeepWarm]

@[simp] theorem dropLend_fields (s : Part) :
    (dropLend s).holders.lend = false ∧ (dropLend s).time = s.time ∧
    (dropLend s).tables = s.tables ∧ (dropLend s).gates = s.gates ∧
    (dropLend s).engine = s.engine ∧ (dropLend s).run = s.run ∧
    (dropLend s).runCount = s.runCount ∧ (dropLend s).lastBase = s.lastBase ∧
    (dropLend s).doneMark = s.doneMark ∧ (dropLend s).arbiter = s.arbiter ∧
    (dropLend s).op = s.op ∧ (dropLend s).camera = s.camera ∧ (dropLend s).health = s.health ∧
    (dropLend s).failCount = s.failCount ∧ (dropLend s).rehearsal = s.rehearsal ∧
    (dropLend s).lending = s.lending ∧ (dropLend s).battery = s.battery ∧
    (dropLend s).meter = s.meter ∧ (dropLend s).monitor = s.monitor ∧
    (dropLend s).journal = s.journal ∧ (dropLend s).notices = s.notices ∧
    (dropLend s).link = s.link ∧ (dropLend s).pins = s.pins ∧ (dropLend s).hold = s.hold := by
  simp [dropLend]

@[simp] theorem emptyHolders_fields (s : Part) :
    (emptyHolders s).holders = ⟨false, false, false, false⟩ ∧ (emptyHolders s).time = s.time ∧
    (emptyHolders s).tables = s.tables ∧ (emptyHolders s).gates = s.gates ∧
    (emptyHolders s).engine = s.engine ∧ (emptyHolders s).run = s.run ∧
    (emptyHolders s).runCount = s.runCount ∧ (emptyHolders s).lastBase = s.lastBase ∧
    (emptyHolders s).doneMark = s.doneMark ∧ (emptyHolders s).arbiter = s.arbiter ∧
    (emptyHolders s).op = s.op ∧ (emptyHolders s).camera = s.camera ∧
    (emptyHolders s).health = s.health ∧ (emptyHolders s).failCount = s.failCount ∧
    (emptyHolders s).rehearsal = s.rehearsal ∧ (emptyHolders s).lending = s.lending ∧
    (emptyHolders s).battery = s.battery ∧ (emptyHolders s).meter = s.meter ∧
    (emptyHolders s).monitor = s.monitor ∧ (emptyHolders s).journal = s.journal ∧
    (emptyHolders s).notices = s.notices ∧ (emptyHolders s).link = s.link ∧
    (emptyHolders s).pins = s.pins ∧ (emptyHolders s).hold = s.hold := by
  simp [emptyHolders]

@[simp] theorem holdRecovery_fields (present : Bool) (s : Part) :
    (holdRecovery present s).holders.recovery = present ∧ (holdRecovery present s).time = s.time ∧
    (holdRecovery present s).tables = s.tables ∧ (holdRecovery present s).gates = s.gates ∧
    (holdRecovery present s).engine = s.engine ∧ (holdRecovery present s).run = s.run ∧
    (holdRecovery present s).runCount = s.runCount ∧
    (holdRecovery present s).lastBase = s.lastBase ∧
    (holdRecovery present s).doneMark = s.doneMark ∧
    (holdRecovery present s).arbiter = s.arbiter ∧ (holdRecovery present s).op = s.op ∧
    (holdRecovery present s).camera = s.camera ∧ (holdRecovery present s).health = s.health ∧
    (holdRecovery present s).failCount = s.failCount ∧
    (holdRecovery present s).rehearsal = s.rehearsal ∧
    (holdRecovery present s).lending = s.lending ∧ (holdRecovery present s).battery = s.battery ∧
    (holdRecovery present s).meter = s.meter ∧ (holdRecovery present s).monitor = s.monitor ∧
    (holdRecovery present s).journal = s.journal ∧ (holdRecovery present s).notices = s.notices ∧
    (holdRecovery present s).link = s.link ∧ (holdRecovery present s).pins = s.pins ∧
    (holdRecovery present s).hold = s.hold := by
  simp [holdRecovery]

@[simp] theorem withdrawSchedule_fields (s : Part) :
    (withdrawSchedule s).arbiter.schedule = none ∧
    (withdrawSchedule s).arbiter.external = s.arbiter.external ∧
    (withdrawSchedule s).arbiter.manual = s.arbiter.manual ∧ (withdrawSchedule s).time = s.time ∧
    (withdrawSchedule s).tables = s.tables ∧ (withdrawSchedule s).gates = s.gates ∧
    (withdrawSchedule s).engine = s.engine ∧ (withdrawSchedule s).run = s.run ∧
    (withdrawSchedule s).runCount = s.runCount ∧ (withdrawSchedule s).lastBase = s.lastBase ∧
    (withdrawSchedule s).doneMark = s.doneMark ∧ (withdrawSchedule s).op = s.op ∧
    (withdrawSchedule s).holders = s.holders ∧ (withdrawSchedule s).camera = s.camera ∧
    (withdrawSchedule s).health = s.health ∧ (withdrawSchedule s).failCount = s.failCount ∧
    (withdrawSchedule s).rehearsal = s.rehearsal ∧ (withdrawSchedule s).lending = s.lending ∧
    (withdrawSchedule s).battery = s.battery ∧ (withdrawSchedule s).meter = s.meter ∧
    (withdrawSchedule s).monitor = s.monitor ∧ (withdrawSchedule s).journal = s.journal ∧
    (withdrawSchedule s).notices = s.notices ∧ (withdrawSchedule s).link = s.link ∧
    (withdrawSchedule s).pins = s.pins ∧ (withdrawSchedule s).hold = s.hold := by
  simp [withdrawSchedule]

@[simp] theorem mergeEdge_fields (s : Part) :
    (mergeEdge s).arbiter.merged = min (s.arbiter.merged + 1) 255 ∧ (mergeEdge s).time = s.time ∧
    (mergeEdge s).tables = s.tables ∧ (mergeEdge s).gates = s.gates ∧
    (mergeEdge s).engine = s.engine ∧ (mergeEdge s).run = s.run ∧
    (mergeEdge s).runCount = s.runCount ∧ (mergeEdge s).lastBase = s.lastBase ∧
    (mergeEdge s).doneMark = s.doneMark ∧ (mergeEdge s).op = s.op ∧
    (mergeEdge s).holders = s.holders ∧ (mergeEdge s).camera = s.camera ∧
    (mergeEdge s).health = s.health ∧ (mergeEdge s).failCount = s.failCount ∧
    (mergeEdge s).rehearsal = s.rehearsal ∧ (mergeEdge s).lending = s.lending ∧
    (mergeEdge s).battery = s.battery ∧ (mergeEdge s).meter = s.meter ∧
    (mergeEdge s).monitor = s.monitor ∧ (mergeEdge s).journal = s.journal ∧
    (mergeEdge s).notices = s.notices ∧ (mergeEdge s).link = s.link ∧
    (mergeEdge s).pins = s.pins ∧ (mergeEdge s).hold = s.hold := by
  simp [mergeEdge]

@[simp] theorem raiseManual_fields (plan : Fin 16) (e : Option Int) (s : Part) :
    (raiseManual plan e s).arbiter.schedule = s.arbiter.schedule ∧
    (raiseManual plan e s).arbiter.external = s.arbiter.external ∧
    (raiseManual plan e s).time = s.time ∧ (raiseManual plan e s).tables = s.tables ∧
    (raiseManual plan e s).gates = s.gates ∧ (raiseManual plan e s).engine = s.engine ∧
    (raiseManual plan e s).run = s.run ∧ (raiseManual plan e s).runCount = s.runCount ∧
    (raiseManual plan e s).lastBase = s.lastBase ∧ (raiseManual plan e s).doneMark = s.doneMark ∧
    (raiseManual plan e s).op = s.op ∧ (raiseManual plan e s).holders = s.holders ∧
    (raiseManual plan e s).camera = s.camera ∧ (raiseManual plan e s).health = s.health ∧
    (raiseManual plan e s).failCount = s.failCount ∧
    (raiseManual plan e s).rehearsal = s.rehearsal ∧ (raiseManual plan e s).lending = s.lending ∧
    (raiseManual plan e s).battery = s.battery ∧ (raiseManual plan e s).meter = s.meter ∧
    (raiseManual plan e s).monitor = s.monitor ∧ (raiseManual plan e s).journal = s.journal ∧
    (raiseManual plan e s).notices = s.notices ∧ (raiseManual plan e s).link = s.link ∧
    (raiseManual plan e s).pins = s.pins ∧ (raiseManual plan e s).hold = s.hold := by
  simp [raiseManual]

@[simp] theorem raiseExternal_fields (plan : Fin 16) (s : Part) :
    (raiseExternal plan s).arbiter.schedule = s.arbiter.schedule ∧
    (raiseExternal plan s).arbiter.manual = s.arbiter.manual ∧
    (raiseExternal plan s).time = s.time ∧ (raiseExternal plan s).tables = s.tables ∧
    (raiseExternal plan s).gates = s.gates ∧ (raiseExternal plan s).engine = s.engine ∧
    (raiseExternal plan s).run = s.run ∧ (raiseExternal plan s).runCount = s.runCount ∧
    (raiseExternal plan s).lastBase = s.lastBase ∧ (raiseExternal plan s).doneMark = s.doneMark ∧
    (raiseExternal plan s).op = s.op ∧ (raiseExternal plan s).holders = s.holders ∧
    (raiseExternal plan s).camera = s.camera ∧ (raiseExternal plan s).health = s.health ∧
    (raiseExternal plan s).failCount = s.failCount ∧
    (raiseExternal plan s).rehearsal = s.rehearsal ∧ (raiseExternal plan s).lending = s.lending ∧
    (raiseExternal plan s).battery = s.battery ∧ (raiseExternal plan s).meter = s.meter ∧
    (raiseExternal plan s).monitor = s.monitor ∧ (raiseExternal plan s).journal = s.journal ∧
    (raiseExternal plan s).notices = s.notices ∧ (raiseExternal plan s).link = s.link ∧
    (raiseExternal plan s).pins = s.pins ∧ (raiseExternal plan s).hold = s.hold := by
  simp [raiseExternal]

@[simp] theorem releaseLines_fields (s : Part) :
    (releaseLines s).camera.focus = false ∧ (releaseLines s).camera.shutter = false ∧
    (releaseLines s).camera.lastTag = s.camera.lastTag ∧
    (releaseLines s).camera.tx = s.camera.tx ∧ (releaseLines s).time = s.time ∧
    (releaseLines s).tables = s.tables ∧ (releaseLines s).gates = s.gates ∧
    (releaseLines s).engine = s.engine ∧ (releaseLines s).run = s.run ∧
    (releaseLines s).runCount = s.runCount ∧ (releaseLines s).lastBase = s.lastBase ∧
    (releaseLines s).doneMark = s.doneMark ∧ (releaseLines s).arbiter = s.arbiter ∧
    (releaseLines s).op = s.op ∧ (releaseLines s).holders = s.holders ∧
    (releaseLines s).health = s.health ∧ (releaseLines s).failCount = s.failCount ∧
    (releaseLines s).rehearsal = s.rehearsal ∧ (releaseLines s).lending = s.lending ∧
    (releaseLines s).battery = s.battery ∧ (releaseLines s).meter = s.meter ∧
    (releaseLines s).monitor = s.monitor ∧ (releaseLines s).journal = s.journal ∧
    (releaseLines s).notices = s.notices ∧ (releaseLines s).link = s.link ∧
    (releaseLines s).pins = s.pins ∧ (releaseLines s).hold = s.hold := by
  simp [releaseLines]

@[simp] theorem quietCameraLine_fields (s : Part) :
    (quietCameraLine s).camera.rx = [] ∧ (quietCameraLine s).camera.tx = none ∧
    (quietCameraLine s).camera.focus = s.camera.focus ∧
    (quietCameraLine s).camera.shutter = s.camera.shutter ∧ (quietCameraLine s).time = s.time ∧
    (quietCameraLine s).tables = s.tables ∧ (quietCameraLine s).gates = s.gates ∧
    (quietCameraLine s).engine = s.engine ∧ (quietCameraLine s).run = s.run ∧
    (quietCameraLine s).runCount = s.runCount ∧ (quietCameraLine s).lastBase = s.lastBase ∧
    (quietCameraLine s).doneMark = s.doneMark ∧ (quietCameraLine s).arbiter = s.arbiter ∧
    (quietCameraLine s).op = s.op ∧ (quietCameraLine s).holders = s.holders ∧
    (quietCameraLine s).health = s.health ∧ (quietCameraLine s).failCount = s.failCount ∧
    (quietCameraLine s).rehearsal = s.rehearsal ∧ (quietCameraLine s).lending = s.lending ∧
    (quietCameraLine s).battery = s.battery ∧ (quietCameraLine s).meter = s.meter ∧
    (quietCameraLine s).monitor = s.monitor ∧ (quietCameraLine s).journal = s.journal ∧
    (quietCameraLine s).notices = s.notices ∧ (quietCameraLine s).link = s.link ∧
    (quietCameraLine s).pins = s.pins ∧ (quietCameraLine s).hold = s.hold := by
  simp [quietCameraLine]

@[simp] theorem cameraIdle_fields (s : Part) :
    (cameraIdle s).camera.rx = [] ∧ (cameraIdle s).camera.tx = s.camera.tx ∧
    (cameraIdle s).time = s.time ∧ (cameraIdle s).tables = s.tables ∧
    (cameraIdle s).gates = s.gates ∧ (cameraIdle s).engine = s.engine ∧
    (cameraIdle s).run = s.run ∧ (cameraIdle s).runCount = s.runCount ∧
    (cameraIdle s).lastBase = s.lastBase ∧ (cameraIdle s).doneMark = s.doneMark ∧
    (cameraIdle s).arbiter = s.arbiter ∧ (cameraIdle s).op = s.op ∧
    (cameraIdle s).holders = s.holders ∧ (cameraIdle s).health = s.health ∧
    (cameraIdle s).failCount = s.failCount ∧ (cameraIdle s).rehearsal = s.rehearsal ∧
    (cameraIdle s).lending = s.lending ∧ (cameraIdle s).battery = s.battery ∧
    (cameraIdle s).meter = s.meter ∧ (cameraIdle s).monitor = s.monitor ∧
    (cameraIdle s).journal = s.journal ∧ (cameraIdle s).notices = s.notices ∧
    (cameraIdle s).link = s.link ∧ (cameraIdle s).pins = s.pins ∧ (cameraIdle s).hold = s.hold := by
  simp [cameraIdle]

@[simp] theorem clearLink_fields (s : Part) :
    (clearLink s).link.rx = [] ∧ (clearLink s).link.handled = none ∧
    (clearLink s).link.waiting = none ∧ (clearLink s).link.reply = none ∧
    (clearLink s).link.softReset = false ∧ (clearLink s).time = s.time ∧
    (clearLink s).tables = s.tables ∧ (clearLink s).gates = s.gates ∧
    (clearLink s).engine = s.engine ∧ (clearLink s).run = s.run ∧
    (clearLink s).runCount = s.runCount ∧ (clearLink s).lastBase = s.lastBase ∧
    (clearLink s).doneMark = s.doneMark ∧ (clearLink s).arbiter = s.arbiter ∧
    (clearLink s).op = s.op ∧ (clearLink s).holders = s.holders ∧
    (clearLink s).camera = s.camera ∧ (clearLink s).health = s.health ∧
    (clearLink s).failCount = s.failCount ∧ (clearLink s).rehearsal = s.rehearsal ∧
    (clearLink s).lending = s.lending ∧ (clearLink s).battery = s.battery ∧
    (clearLink s).meter = s.meter ∧ (clearLink s).monitor = s.monitor ∧
    (clearLink s).journal = s.journal ∧ (clearLink s).notices = s.notices ∧
    (clearLink s).pins = s.pins ∧ (clearLink s).hold = s.hold := by
  simp [clearLink]

@[simp] theorem ownPort_fields (allowed : Bool) (s : Part) :
    (ownPort allowed s).lending = ⟨.owned, false, none, none, allowed⟩ ∧
    (ownPort allowed s).time = s.time ∧ (ownPort allowed s).tables = s.tables ∧
    (ownPort allowed s).gates = s.gates ∧ (ownPort allowed s).engine = s.engine ∧
    (ownPort allowed s).run = s.run ∧ (ownPort allowed s).runCount = s.runCount ∧
    (ownPort allowed s).lastBase = s.lastBase ∧ (ownPort allowed s).doneMark = s.doneMark ∧
    (ownPort allowed s).arbiter = s.arbiter ∧ (ownPort allowed s).op = s.op ∧
    (ownPort allowed s).holders = s.holders ∧ (ownPort allowed s).camera = s.camera ∧
    (ownPort allowed s).health = s.health ∧ (ownPort allowed s).failCount = s.failCount ∧
    (ownPort allowed s).rehearsal = s.rehearsal ∧ (ownPort allowed s).battery = s.battery ∧
    (ownPort allowed s).meter = s.meter ∧ (ownPort allowed s).monitor = s.monitor ∧
    (ownPort allowed s).journal = s.journal ∧ (ownPort allowed s).notices = s.notices ∧
    (ownPort allowed s).link = s.link ∧ (ownPort allowed s).pins = s.pins ∧
    (ownPort allowed s).hold = s.hold := by
  simp [ownPort]

@[simp] theorem beginYield_fields (s : Part) :
    (beginYield s).lending.port = .yielding ∧ (beginYield s).lending.wake = s.lending.wake ∧
    (beginYield s).time = s.time ∧ (beginYield s).tables = s.tables ∧
    (beginYield s).gates = s.gates ∧ (beginYield s).engine = s.engine ∧
    (beginYield s).run = s.run ∧ (beginYield s).runCount = s.runCount ∧
    (beginYield s).lastBase = s.lastBase ∧ (beginYield s).doneMark = s.doneMark ∧
    (beginYield s).arbiter = s.arbiter ∧ (beginYield s).op = s.op ∧
    (beginYield s).holders = s.holders ∧ (beginYield s).camera = s.camera ∧
    (beginYield s).health = s.health ∧ (beginYield s).failCount = s.failCount ∧
    (beginYield s).rehearsal = s.rehearsal ∧ (beginYield s).battery = s.battery ∧
    (beginYield s).meter = s.meter ∧ (beginYield s).monitor = s.monitor ∧
    (beginYield s).journal = s.journal ∧ (beginYield s).notices = s.notices ∧
    (beginYield s).link = s.link ∧ (beginYield s).pins = s.pins ∧ (beginYield s).hold = s.hold := by
  simp [beginYield]

@[simp] theorem meterStop_fields (s : Part) :
    (meterStop s).meter.state = .stopped ∧ (meterStop s).meter.latest = none ∧
    (meterStop s).meter.startGate = s.meter.startGate ∧ (meterStop s).time = s.time ∧
    (meterStop s).tables = s.tables ∧ (meterStop s).gates = s.gates ∧
    (meterStop s).engine = s.engine ∧ (meterStop s).run = s.run ∧
    (meterStop s).runCount = s.runCount ∧ (meterStop s).lastBase = s.lastBase ∧
    (meterStop s).doneMark = s.doneMark ∧ (meterStop s).arbiter = s.arbiter ∧
    (meterStop s).op = s.op ∧ (meterStop s).holders = s.holders ∧
    (meterStop s).camera = s.camera ∧ (meterStop s).health = s.health ∧
    (meterStop s).failCount = s.failCount ∧ (meterStop s).rehearsal = s.rehearsal ∧
    (meterStop s).lending = s.lending ∧ (meterStop s).battery = s.battery ∧
    (meterStop s).monitor = s.monitor ∧ (meterStop s).journal = s.journal ∧
    (meterStop s).notices = s.notices ∧ (meterStop s).link = s.link ∧
    (meterStop s).pins = s.pins ∧ (meterStop s).hold = s.hold := by
  simp [meterStop]

@[simp] theorem setStartGate_fields (g : Fin 3) (s : Part) :
    (setStartGate g s).meter.startGate = g ∧ (setStartGate g s).meter.state = s.meter.state ∧
    (setStartGate g s).time = s.time ∧ (setStartGate g s).tables = s.tables ∧
    (setStartGate g s).gates = s.gates ∧ (setStartGate g s).engine = s.engine ∧
    (setStartGate g s).run = s.run ∧ (setStartGate g s).runCount = s.runCount ∧
    (setStartGate g s).lastBase = s.lastBase ∧ (setStartGate g s).doneMark = s.doneMark ∧
    (setStartGate g s).arbiter = s.arbiter ∧ (setStartGate g s).op = s.op ∧
    (setStartGate g s).holders = s.holders ∧ (setStartGate g s).camera = s.camera ∧
    (setStartGate g s).health = s.health ∧ (setStartGate g s).failCount = s.failCount ∧
    (setStartGate g s).rehearsal = s.rehearsal ∧ (setStartGate g s).lending = s.lending ∧
    (setStartGate g s).battery = s.battery ∧ (setStartGate g s).monitor = s.monitor ∧
    (setStartGate g s).journal = s.journal ∧ (setStartGate g s).notices = s.notices ∧
    (setStartGate g s).link = s.link ∧ (setStartGate g s).pins = s.pins ∧
    (setStartGate g s).hold = s.hold := by
  simp [setStartGate]

@[simp] theorem skipBoundaries_fields (s : Part) :
    (skipBoundaries s).time.boundarySeen = s.now ∧ (skipBoundaries s).time.midnightSeen = s.now ∧
    (skipBoundaries s).time.instant = s.time.instant ∧
    (skipBoundaries s).time.elapsed = s.time.elapsed ∧ (skipBoundaries s).tables = s.tables ∧
    (skipBoundaries s).gates = s.gates ∧ (skipBoundaries s).engine = s.engine ∧
    (skipBoundaries s).run = s.run ∧ (skipBoundaries s).runCount = s.runCount ∧
    (skipBoundaries s).lastBase = s.lastBase ∧ (skipBoundaries s).doneMark = s.doneMark ∧
    (skipBoundaries s).arbiter = s.arbiter ∧ (skipBoundaries s).op = s.op ∧
    (skipBoundaries s).holders = s.holders ∧ (skipBoundaries s).camera = s.camera ∧
    (skipBoundaries s).health = s.health ∧ (skipBoundaries s).failCount = s.failCount ∧
    (skipBoundaries s).rehearsal = s.rehearsal ∧ (skipBoundaries s).lending = s.lending ∧
    (skipBoundaries s).battery = s.battery ∧ (skipBoundaries s).meter = s.meter ∧
    (skipBoundaries s).monitor = s.monitor ∧ (skipBoundaries s).journal = s.journal ∧
    (skipBoundaries s).notices = s.notices ∧ (skipBoundaries s).link = s.link ∧
    (skipBoundaries s).pins = s.pins ∧ (skipBoundaries s).hold = s.hold := by
  simp [skipBoundaries]

@[simp] theorem markPastEnd_fields (s : Part) :
    (markPastEnd s).doneMark =
      (s.doneMark.map (fun m => { m with stop := m.stop - Config.calendarSpan })).filter
        (fun m => decide (s.now < m.stop)) ∧
    (markPastEnd s).time = s.time ∧ (markPastEnd s).tables = s.tables ∧
    (markPastEnd s).gates = s.gates ∧ (markPastEnd s).engine = s.engine ∧
    (markPastEnd s).run = s.run ∧ (markPastEnd s).runCount = s.runCount ∧
    (markPastEnd s).lastBase = s.lastBase ∧ (markPastEnd s).arbiter = s.arbiter ∧
    (markPastEnd s).op = s.op ∧ (markPastEnd s).holders = s.holders ∧
    (markPastEnd s).camera = s.camera ∧ (markPastEnd s).health = s.health ∧
    (markPastEnd s).failCount = s.failCount ∧ (markPastEnd s).rehearsal = s.rehearsal ∧
    (markPastEnd s).lending = s.lending ∧ (markPastEnd s).battery = s.battery ∧
    (markPastEnd s).meter = s.meter ∧ (markPastEnd s).monitor = s.monitor ∧
    (markPastEnd s).journal = s.journal ∧ (markPastEnd s).notices = s.notices ∧
    (markPastEnd s).link = s.link ∧ (markPastEnd s).pins = s.pins ∧
    (markPastEnd s).hold = s.hold := by
  simp [markPastEnd]

@[simp] theorem retimeMark_fields (s : Part) :
   
    (retimeMark s).doneMark = s.doneMark.map (fun m =>
      if (s.tables.windows.get m.window).wholeDay then
        { m with stop := min m.stop (nextSecondOfDay s.now 0) }
      else m) ∧
    (retimeMark s).time = s.time ∧ (retimeMark s).tables = s.tables ∧
    (retimeMark s).gates = s.gates ∧ (retimeMark s).engine = s.engine ∧
    (retimeMark s).run = s.run ∧ (retimeMark s).runCount = s.runCount ∧
    (retimeMark s).lastBase = s.lastBase ∧ (retimeMark s).arbiter = s.arbiter ∧
    (retimeMark s).op = s.op ∧ (retimeMark s).holders = s.holders ∧
    (retimeMark s).camera = s.camera ∧ (retimeMark s).health = s.health ∧
    (retimeMark s).failCount = s.failCount ∧ (retimeMark s).rehearsal = s.rehearsal ∧
    (retimeMark s).lending = s.lending ∧ (retimeMark s).battery = s.battery ∧
    (retimeMark s).meter = s.meter ∧ (retimeMark s).monitor = s.monitor ∧
    (retimeMark s).journal = s.journal ∧ (retimeMark s).notices = s.notices ∧
    (retimeMark s).link = s.link ∧ (retimeMark s).pins = s.pins ∧
    (retimeMark s).hold = s.hold := by
  simp [retimeMark]

@[simp] theorem clearStreaks_fields (s : Part) :
    (clearStreaks s).battery.worse = 0 ∧ (clearStreaks s).battery.better = 0 ∧
    (clearStreaks s).battery.level = s.battery.level ∧ (clearStreaks s).time = s.time ∧
    (clearStreaks s).tables = s.tables ∧ (clearStreaks s).gates = s.gates ∧
    (clearStreaks s).engine = s.engine ∧ (clearStreaks s).run = s.run ∧
    (clearStreaks s).runCount = s.runCount ∧ (clearStreaks s).lastBase = s.lastBase ∧
    (clearStreaks s).doneMark = s.doneMark ∧ (clearStreaks s).arbiter = s.arbiter ∧
    (clearStreaks s).op = s.op ∧ (clearStreaks s).holders = s.holders ∧
    (clearStreaks s).camera = s.camera ∧ (clearStreaks s).health = s.health ∧
    (clearStreaks s).failCount = s.failCount ∧ (clearStreaks s).rehearsal = s.rehearsal ∧
    (clearStreaks s).lending = s.lending ∧ (clearStreaks s).meter = s.meter ∧
    (clearStreaks s).monitor = s.monitor ∧ (clearStreaks s).journal = s.journal ∧
    (clearStreaks s).notices = s.notices ∧ (clearStreaks s).link = s.link ∧
    (clearStreaks s).pins = s.pins ∧ (clearStreaks s).hold = s.hold := by
  simp [clearStreaks]

@[simp] theorem dropDeferred_fields (s : Part) :
    (dropDeferred s).battery.deferred = false ∧ (dropDeferred s).battery.level = s.battery.level ∧
    (dropDeferred s).time = s.time ∧ (dropDeferred s).tables = s.tables ∧
    (dropDeferred s).gates = s.gates ∧ (dropDeferred s).engine = s.engine ∧
    (dropDeferred s).run = s.run ∧ (dropDeferred s).runCount = s.runCount ∧
    (dropDeferred s).lastBase = s.lastBase ∧ (dropDeferred s).doneMark = s.doneMark ∧
    (dropDeferred s).arbiter = s.arbiter ∧ (dropDeferred s).op = s.op ∧
    (dropDeferred s).holders = s.holders ∧ (dropDeferred s).camera = s.camera ∧
    (dropDeferred s).health = s.health ∧ (dropDeferred s).failCount = s.failCount ∧
    (dropDeferred s).rehearsal = s.rehearsal ∧ (dropDeferred s).lending = s.lending ∧
    (dropDeferred s).meter = s.meter ∧ (dropDeferred s).monitor = s.monitor ∧
    (dropDeferred s).journal = s.journal ∧ (dropDeferred s).notices = s.notices ∧
    (dropDeferred s).link = s.link ∧ (dropDeferred s).pins = s.pins ∧
    (dropDeferred s).hold = s.hold := by
  simp [dropDeferred]

@[simp] theorem putPack_fields (mv : Nat) (s : Part) :
    (putPack mv s).pins.packMv = mv ∧ (putPack mv s).time = s.time ∧
    (putPack mv s).tables = s.tables ∧ (putPack mv s).gates = s.gates ∧
    (putPack mv s).engine = s.engine ∧ (putPack mv s).run = s.run ∧
    (putPack mv s).runCount = s.runCount ∧ (putPack mv s).lastBase = s.lastBase ∧
    (putPack mv s).doneMark = s.doneMark ∧ (putPack mv s).arbiter = s.arbiter ∧
    (putPack mv s).op = s.op ∧ (putPack mv s).holders = s.holders ∧
    (putPack mv s).camera = s.camera ∧ (putPack mv s).health = s.health ∧
    (putPack mv s).failCount = s.failCount ∧ (putPack mv s).rehearsal = s.rehearsal ∧
    (putPack mv s).lending = s.lending ∧ (putPack mv s).battery = s.battery ∧
    (putPack mv s).meter = s.meter ∧ (putPack mv s).monitor = s.monitor ∧
    (putPack mv s).journal = s.journal ∧ (putPack mv s).notices = s.notices ∧
    (putPack mv s).link = s.link ∧ (putPack mv s).hold = s.hold := by
  simp [putPack]

@[simp] theorem putSense_fields (mv : Nat) (c : Int) (s : Part) :
    (putSense mv c s).pins.packMv = mv ∧ (putSense mv c s).pins.celsius = c ∧
    (putSense mv c s).time = s.time ∧ (putSense mv c s).tables = s.tables ∧
    (putSense mv c s).gates = s.gates ∧ (putSense mv c s).engine = s.engine ∧
    (putSense mv c s).run = s.run ∧ (putSense mv c s).runCount = s.runCount ∧
    (putSense mv c s).lastBase = s.lastBase ∧ (putSense mv c s).doneMark = s.doneMark ∧
    (putSense mv c s).arbiter = s.arbiter ∧ (putSense mv c s).op = s.op ∧
    (putSense mv c s).holders = s.holders ∧ (putSense mv c s).camera = s.camera ∧
    (putSense mv c s).health = s.health ∧ (putSense mv c s).failCount = s.failCount ∧
    (putSense mv c s).rehearsal = s.rehearsal ∧ (putSense mv c s).lending = s.lending ∧
    (putSense mv c s).battery = s.battery ∧ (putSense mv c s).meter = s.meter ∧
    (putSense mv c s).monitor = s.monitor ∧ (putSense mv c s).journal = s.journal ∧
    (putSense mv c s).notices = s.notices ∧ (putSense mv c s).link = s.link ∧
    (putSense mv c s).hold = s.hold := by
  simp [putSense]

@[simp] theorem putMonitor_fields (state : SupplyState) (s : Part) :
    (putMonitor state s).monitor.state = state ∧
    (putMonitor state s).monitor.lost = s.monitor.lost ∧ (putMonitor state s).time = s.time ∧
    (putMonitor state s).tables = s.tables ∧ (putMonitor state s).gates = s.gates ∧
    (putMonitor state s).engine = s.engine ∧ (putMonitor state s).run = s.run ∧
    (putMonitor state s).runCount = s.runCount ∧ (putMonitor state s).lastBase = s.lastBase ∧
    (putMonitor state s).doneMark = s.doneMark ∧ (putMonitor state s).arbiter = s.arbiter ∧
    (putMonitor state s).op = s.op ∧ (putMonitor state s).holders = s.holders ∧
    (putMonitor state s).camera = s.camera ∧ (putMonitor state s).health = s.health ∧
    (putMonitor state s).failCount = s.failCount ∧ (putMonitor state s).rehearsal = s.rehearsal ∧
    (putMonitor state s).lending = s.lending ∧ (putMonitor state s).battery = s.battery ∧
    (putMonitor state s).meter = s.meter ∧ (putMonitor state s).journal = s.journal ∧
    (putMonitor state s).notices = s.notices ∧ (putMonitor state s).link = s.link ∧
    (putMonitor state s).pins = s.pins ∧ (putMonitor state s).hold = s.hold := by
  simp [putMonitor]

@[simp] theorem timeMonitor_fields (state : SupplyState) (s : Part) :
    (timeMonitor state s).monitor.state = state ∧
    (timeMonitor state s).monitor.lost = s.monitor.lost ∧ (timeMonitor state s).time = s.time ∧
    (timeMonitor state s).tables = s.tables ∧ (timeMonitor state s).gates = s.gates ∧
    (timeMonitor state s).engine = s.engine ∧ (timeMonitor state s).run = s.run ∧
    (timeMonitor state s).runCount = s.runCount ∧ (timeMonitor state s).lastBase = s.lastBase ∧
    (timeMonitor state s).doneMark = s.doneMark ∧ (timeMonitor state s).arbiter = s.arbiter ∧
    (timeMonitor state s).op = s.op ∧ (timeMonitor state s).holders = s.holders ∧
    (timeMonitor state s).camera = s.camera ∧ (timeMonitor state s).health = s.health ∧
    (timeMonitor state s).failCount = s.failCount ∧
    (timeMonitor state s).rehearsal = s.rehearsal ∧ (timeMonitor state s).lending = s.lending ∧
    (timeMonitor state s).battery = s.battery ∧ (timeMonitor state s).meter = s.meter ∧
    (timeMonitor state s).journal = s.journal ∧ (timeMonitor state s).notices = s.notices ∧
    (timeMonitor state s).link = s.link ∧ (timeMonitor state s).pins = s.pins ∧
    (timeMonitor state s).hold = s.hold := by
  simp [timeMonitor]

@[simp] theorem healCamera_fields (s : Part) :
    (healCamera s).health = .healthy ∧ (healCamera s).failCount = 0 ∧
    (healCamera s).time = s.time ∧ (healCamera s).tables = s.tables ∧
    (healCamera s).gates = s.gates ∧ (healCamera s).engine = s.engine ∧
    (healCamera s).run = s.run ∧ (healCamera s).runCount = s.runCount ∧
    (healCamera s).lastBase = s.lastBase ∧ (healCamera s).doneMark = s.doneMark ∧
    (healCamera s).arbiter = s.arbiter ∧ (healCamera s).op = s.op ∧
    (healCamera s).holders = s.holders ∧ (healCamera s).camera = s.camera ∧
    (healCamera s).rehearsal = s.rehearsal ∧ (healCamera s).lending = s.lending ∧
    (healCamera s).battery = s.battery ∧ (healCamera s).meter = s.meter ∧
    (healCamera s).monitor = s.monitor ∧ (healCamera s).journal = s.journal ∧
    (healCamera s).notices = s.notices ∧ (healCamera s).link = s.link ∧
    (healCamera s).pins = s.pins ∧ (healCamera s).hold = s.hold := by
  simp [healCamera]

@[simp] theorem putMask_fields (mask : BitVec 14) (s : Part) :
    (putMask mask s).tables.general.mask = mask ∧ (putMask mask s).tables.plans = s.tables.plans ∧
    (putMask mask s).time = s.time ∧ (putMask mask s).gates = s.gates ∧
    (putMask mask s).engine = s.engine ∧ (putMask mask s).run = s.run ∧
    (putMask mask s).runCount = s.runCount ∧ (putMask mask s).lastBase = s.lastBase ∧
    (putMask mask s).doneMark = s.doneMark ∧ (putMask mask s).arbiter = s.arbiter ∧
    (putMask mask s).op = s.op ∧ (putMask mask s).holders = s.holders ∧
    (putMask mask s).camera = s.camera ∧ (putMask mask s).health = s.health ∧
    (putMask mask s).failCount = s.failCount ∧ (putMask mask s).rehearsal = s.rehearsal ∧
    (putMask mask s).lending = s.lending ∧ (putMask mask s).battery = s.battery ∧
    (putMask mask s).meter = s.meter ∧ (putMask mask s).monitor = s.monitor ∧
    (putMask mask s).journal = s.journal ∧ (putMask mask s).notices = s.notices ∧
    (putMask mask s).link = s.link ∧ (putMask mask s).pins = s.pins ∧
    (putMask mask s).hold = s.hold := by
  simp [putMask]

@[simp] theorem appendRecord_fields (rec : FrameRecord) (s : Part) :
    (appendRecord rec s).journal = s.journal.append rec ∧ (appendRecord rec s).time = s.time ∧
    (appendRecord rec s).tables = s.tables ∧ (appendRecord rec s).gates = s.gates ∧
    (appendRecord rec s).engine = s.engine ∧ (appendRecord rec s).run = s.run ∧
    (appendRecord rec s).runCount = s.runCount ∧ (appendRecord rec s).lastBase = s.lastBase ∧
    (appendRecord rec s).doneMark = s.doneMark ∧ (appendRecord rec s).arbiter = s.arbiter ∧
    (appendRecord rec s).op = s.op ∧ (appendRecord rec s).holders = s.holders ∧
    (appendRecord rec s).camera = s.camera ∧ (appendRecord rec s).health = s.health ∧
    (appendRecord rec s).failCount = s.failCount ∧ (appendRecord rec s).rehearsal = s.rehearsal ∧
    (appendRecord rec s).lending = s.lending ∧ (appendRecord rec s).battery = s.battery ∧
    (appendRecord rec s).meter = s.meter ∧ (appendRecord rec s).monitor = s.monitor ∧
    (appendRecord rec s).notices = s.notices ∧ (appendRecord rec s).link = s.link ∧
    (appendRecord rec s).pins = s.pins ∧ (appendRecord rec s).hold = s.hold := by
  simp [appendRecord]

@[simp] theorem startReply_fields (frame : HostFrame) (reply : Reply) (s : Part) :
    (startReply frame reply s).link.rx = s.link.rx ∧
    (startReply frame reply s).link.waiting = s.link.waiting ∧
    (startReply frame reply s).time = s.time ∧ (startReply frame reply s).tables = s.tables ∧
    (startReply frame reply s).gates = s.gates ∧ (startReply frame reply s).engine = s.engine ∧
    (startReply frame reply s).run = s.run ∧ (startReply frame reply s).runCount = s.runCount ∧
    (startReply frame reply s).lastBase = s.lastBase ∧
    (startReply frame reply s).doneMark = s.doneMark ∧
    (startReply frame reply s).arbiter = s.arbiter ∧ (startReply frame reply s).op = s.op ∧
    (startReply frame reply s).holders = s.holders ∧
    (startReply frame reply s).camera = s.camera ∧ (startReply frame reply s).health = s.health ∧
    (startReply frame reply s).failCount = s.failCount ∧
    (startReply frame reply s).rehearsal = s.rehearsal ∧
    (startReply frame reply s).lending = s.lending ∧
    (startReply frame reply s).battery = s.battery ∧ (startReply frame reply s).meter = s.meter ∧
    (startReply frame reply s).monitor = s.monitor ∧
    (startReply frame reply s).journal = s.journal ∧
    (startReply frame reply s).notices = s.notices ∧ (startReply frame reply s).pins = s.pins ∧
    (startReply frame reply s).hold = s.hold := by
  simp [startReply]

/-! ### The receivers, rehearsal, boundaries and the timing of a cold start -/

@[simp] theorem passBoundaries_fields (s : Part) :
    (passBoundaries s).time.boundarySeen = s.now ∧
    (passBoundaries s).time.instant = s.time.instant ∧
    (passBoundaries s).time.elapsed = s.time.elapsed ∧
    (passBoundaries s).time.clock = s.time.clock ∧ (passBoundaries s).time.trim = s.time.trim ∧
    (passBoundaries s).time.withheld = s.time.withheld ∧
    (passBoundaries s).time.midnightSeen = s.time.midnightSeen ∧
    (passBoundaries s).tables = s.tables ∧ (passBoundaries s).gates = s.gates ∧
    (passBoundaries s).engine = s.engine ∧ (passBoundaries s).run = s.run ∧
    (passBoundaries s).runCount = s.runCount ∧ (passBoundaries s).lastBase = s.lastBase ∧
    (passBoundaries s).doneMark = s.doneMark ∧ (passBoundaries s).arbiter = s.arbiter ∧
    (passBoundaries s).op = s.op ∧ (passBoundaries s).holders = s.holders ∧
    (passBoundaries s).camera = s.camera ∧ (passBoundaries s).health = s.health ∧
    (passBoundaries s).failCount = s.failCount ∧ (passBoundaries s).rehearsal = s.rehearsal ∧
    (passBoundaries s).lending = s.lending ∧ (passBoundaries s).battery = s.battery ∧
    (passBoundaries s).meter = s.meter ∧ (passBoundaries s).monitor = s.monitor ∧
    (passBoundaries s).journal = s.journal ∧ (passBoundaries s).notices = s.notices ∧
    (passBoundaries s).link = s.link ∧ (passBoundaries s).pins = s.pins ∧
    (passBoundaries s).hold = s.hold := by
  simp [passBoundaries]

@[simp] theorem timeCold_fields (mv : Nat) (s : Part) :
    (timeCold mv s).monitor.state = s.monitor.state ∧
    (timeCold mv s).monitor.lost = s.monitor.lost ∧
    (timeCold mv s).monitor.cellLow = s.monitor.cellLow ∧ (timeCold mv s).time = s.time ∧
    (timeCold mv s).tables = s.tables ∧ (timeCold mv s).gates = s.gates ∧
    (timeCold mv s).engine = s.engine ∧ (timeCold mv s).run = s.run ∧
    (timeCold mv s).runCount = s.runCount ∧ (timeCold mv s).lastBase = s.lastBase ∧
    (timeCold mv s).doneMark = s.doneMark ∧ (timeCold mv s).arbiter = s.arbiter ∧
    (timeCold mv s).op = s.op ∧ (timeCold mv s).holders = s.holders ∧
    (timeCold mv s).camera = s.camera ∧ (timeCold mv s).health = s.health ∧
    (timeCold mv s).failCount = s.failCount ∧ (timeCold mv s).rehearsal = s.rehearsal ∧
    (timeCold mv s).lending = s.lending ∧ (timeCold mv s).battery = s.battery ∧
    (timeCold mv s).meter = s.meter ∧ (timeCold mv s).journal = s.journal ∧
    (timeCold mv s).notices = s.notices ∧ (timeCold mv s).link = s.link ∧
    (timeCold mv s).pins = s.pins ∧ (timeCold mv s).hold = s.hold := by
  simp [timeCold]

@[simp] theorem putHostRx_fields (rx : List Byte) (s : Part) :
    (putHostRx rx s).link.rx = rx ∧ (putHostRx rx s).link.rxLast = s.time.elapsed ∧
    (putHostRx rx s).link.handled = s.link.handled ∧
    (putHostRx rx s).link.waiting = s.link.waiting ∧ (putHostRx rx s).link.reply = s.link.reply ∧
    (putHostRx rx s).link.replyEnds = s.link.replyEnds ∧
    (putHostRx rx s).link.softReset = s.link.softReset ∧ (putHostRx rx s).time = s.time ∧
    (putHostRx rx s).tables = s.tables ∧ (putHostRx rx s).gates = s.gates ∧
    (putHostRx rx s).engine = s.engine ∧ (putHostRx rx s).run = s.run ∧
    (putHostRx rx s).runCount = s.runCount ∧ (putHostRx rx s).lastBase = s.lastBase ∧
    (putHostRx rx s).doneMark = s.doneMark ∧ (putHostRx rx s).arbiter = s.arbiter ∧
    (putHostRx rx s).op = s.op ∧ (putHostRx rx s).holders = s.holders ∧
    (putHostRx rx s).camera = s.camera ∧ (putHostRx rx s).health = s.health ∧
    (putHostRx rx s).failCount = s.failCount ∧ (putHostRx rx s).rehearsal = s.rehearsal ∧
    (putHostRx rx s).lending = s.lending ∧ (putHostRx rx s).battery = s.battery ∧
    (putHostRx rx s).meter = s.meter ∧ (putHostRx rx s).monitor = s.monitor ∧
    (putHostRx rx s).journal = s.journal ∧ (putHostRx rx s).notices = s.notices ∧
    (putHostRx rx s).pins = s.pins ∧ (putHostRx rx s).hold = s.hold := by
  simp [putHostRx]

@[simp] theorem putCameraRx_fields (rx : List Byte) (s : Part) :
    (putCameraRx rx s).camera.rx = rx ∧ (putCameraRx rx s).camera.rxLast = s.time.elapsed ∧
    (putCameraRx rx s).camera.tx = s.camera.tx ∧
    (putCameraRx rx s).camera.lastTag = s.camera.lastTag ∧
    (putCameraRx rx s).camera.focus = s.camera.focus ∧
    (putCameraRx rx s).camera.shutter = s.camera.shutter ∧ (putCameraRx rx s).time = s.time ∧
    (putCameraRx rx s).tables = s.tables ∧ (putCameraRx rx s).gates = s.gates ∧
    (putCameraRx rx s).engine = s.engine ∧ (putCameraRx rx s).run = s.run ∧
    (putCameraRx rx s).runCount = s.runCount ∧ (putCameraRx rx s).lastBase = s.lastBase ∧
    (putCameraRx rx s).doneMark = s.doneMark ∧ (putCameraRx rx s).arbiter = s.arbiter ∧
    (putCameraRx rx s).op = s.op ∧ (putCameraRx rx s).holders = s.holders ∧
    (putCameraRx rx s).health = s.health ∧ (putCameraRx rx s).failCount = s.failCount ∧
    (putCameraRx rx s).rehearsal = s.rehearsal ∧ (putCameraRx rx s).lending = s.lending ∧
    (putCameraRx rx s).battery = s.battery ∧ (putCameraRx rx s).meter = s.meter ∧
    (putCameraRx rx s).monitor = s.monitor ∧ (putCameraRx rx s).journal = s.journal ∧
    (putCameraRx rx s).notices = s.notices ∧ (putCameraRx rx s).link = s.link ∧
    (putCameraRx rx s).pins = s.pins ∧ (putCameraRx rx s).hold = s.hold := by
  simp [putCameraRx]

@[simp] theorem putRehearsal_fields (on : Bool) (s : Part) :
    (putRehearsal on s).rehearsal = on ∧ (putRehearsal on s).camera.lastTag = s.camera.lastTag ∧
    (putRehearsal on s).camera.focus = s.camera.focus ∧
    (putRehearsal on s).camera.shutter = s.camera.shutter ∧
    (putRehearsal on s).camera.rx = s.camera.rx ∧ (putRehearsal on s).time = s.time ∧
    (putRehearsal on s).tables = s.tables ∧ (putRehearsal on s).gates = s.gates ∧
    (putRehearsal on s).engine = s.engine ∧ (putRehearsal on s).run = s.run ∧
    (putRehearsal on s).runCount = s.runCount ∧ (putRehearsal on s).lastBase = s.lastBase ∧
    (putRehearsal on s).doneMark = s.doneMark ∧ (putRehearsal on s).arbiter = s.arbiter ∧
    (putRehearsal on s).op = s.op ∧ (putRehearsal on s).holders = s.holders ∧
    (putRehearsal on s).health = s.health ∧ (putRehearsal on s).failCount = s.failCount ∧
    (putRehearsal on s).lending = s.lending ∧ (putRehearsal on s).battery = s.battery ∧
    (putRehearsal on s).meter = s.meter ∧ (putRehearsal on s).monitor = s.monitor ∧
    (putRehearsal on s).journal = s.journal ∧ (putRehearsal on s).notices = s.notices ∧
    (putRehearsal on s).link = s.link ∧ (putRehearsal on s).pins = s.pins ∧
    (putRehearsal on s).hold = s.hold := by
  cases on <;> simp [putRehearsal]

end Sys2Proof.Machine
end

