-- ==== Sys2Proof/Laws/Settle.lean ====
section
/-! SUPPORT. What the tail of a step does in the two plain cases: with an operation past WAKING it can
only raise the SCHEDULE request, and with nothing requested and nothing lent it does nothing. -/

set_option Elab.async false

namespace Sys2Proof.Machine

@[simp] theorem raiseSchedule_op (s : Part) : (raiseSchedule s).op = s.op := by
  unfold raiseSchedule; repeat' split
  all_goals rfl

@[simp] theorem raiseSchedule_lending (s : Part) : (raiseSchedule s).lending = s.lending := by
  unfold raiseSchedule; repeat' split
  all_goals rfl

/-- No request is raised while one is pending (R85). -/
theorem raiseSchedule_pending {s : Part} (h : s.arbiter.schedule.isSome = true) :
    raiseSchedule s = s := by
  unfold raiseSchedule; split
  · rfl
  · next r _ =>
      have : s.raisable r = false := by
        cases hs : s.arbiter.schedule <;> simp_all [Part.raisable]
      simp [this]

/-- Raising twice is raising once (R85). -/
@[simp] theorem raiseSchedule_twice (s : Part) :
    raiseSchedule (raiseSchedule s) = raiseSchedule s := by
  cases h : s.run with
  | none => simp [raiseSchedule, h]
  | some r =>
    by_cases hc : s.raisable r && r.wakeReached && (!s.camPwr || decide (r.nextDue ≤ s.now))
    · have e : raiseSchedule s = fillSchedule r s := by simp only [raiseSchedule, h, hc, if_true]
      rw [e]; exact raiseSchedule_pending rfl
    · have e : raiseSchedule s = s := by
        simp only [raiseSchedule, h]; exact if_neg hc
      rw [e, e]

/-- Without a run no request is raised. -/
theorem raiseSchedule_noRun {s : Part} (h : s.run = none) : raiseSchedule s = s := by
  simp [raiseSchedule, h]

/-- Outside ARMED no request is raised (R40). -/
theorem raiseSchedule_notArmed {s : Part} (h : s.engine ≠ .armed) : raiseSchedule s = s := by
  unfold raiseSchedule; split
  · rfl
  · simp [Part.raisable, Part.serves, h]

/-- No grant is made while an operation exists (R89). -/
theorem arbiterTest_busy {s : Part} (h : s.op.isSome = true) : arbiterTest s = s := by
  have : s.op ≠ none := fun e => by simp [e] at h
  simp [arbiterTest, Part.mayGrant, this]

/-- No grant is made where no request is pending (R89). -/
theorem arbiterTest_empty {s : Part} (h : s.arbiter.schedule = none)
    (h' : s.arbiter.external = none) (h'' : s.arbiter.manual = none) : arbiterTest s = s := by
  simp [arbiterTest, Part.candidate, Part.pick, Arbiter.slot, h, h', h'']

/-- A port that does not yield is not lent (R126). -/
theorem lendTest_idle {s : Part} (h : s.lending.port ≠ .yielding ∨ s.op.isSome = true) :
    lendTest s = s := by
  have : s.lendable = false := by
    rcases h with h | h
    · simp [Part.lendable, h]
    · have : s.op ≠ none := fun e => by simp [e] at h
      simp [Part.lendable, this]
  simp [lendTest, this]

/-- A port that is not LENT is not reclaimed (R130). -/
theorem reclaimTest_idle {s : Part} (h : s.lending.port ≠ .lent) : reclaimTest s = s := by
  have : s.reclaimable = false := by
    unfold Part.reclaimable; split
    · simp [h]
    · rfl
  simp [reclaimTest, this]

/-- With an operation past WAKING the tail of a step only raises the SCHEDULE request. -/
theorem settle_busy {s : Part} {o : Operation} (h : s.op = some o) (hr : o.askReading = false)
    (hp : o.phase.isWaking = false) (hl : s.lending.port.hostSide = false) :
    settle s = raiseSchedule s := by
  have hb : (raiseSchedule s).op.isSome = true := by simp [h]
  have hnl : s.lending.port ≠ .lent := fun e => by simp [e, PortState.hostSide] at hl
  have hz : endZeroWake (raiseSchedule s) = raiseSchedule s := by
    cases hph : o.phase <;> simp_all [endZeroWake, Phase.isWaking]
  have ht : takeLoaded (raiseSchedule s) = raiseSchedule s := by
    simp [takeLoaded, h, hr]
  simp only [settle, raiseAndGrant, arbiterTest_busy hb, ht, hz, raiseSchedule_twice]
  rw [lendTest_idle (.inr hb), reclaimTest_idle (by simpa using hnl)]

/-- With no operation, nothing requested and the port OWNED, the tail of a step does nothing. -/
theorem settle_still {s : Part} (h : s.Still) (hs : s.arbiter.schedule = none)
    (hr : raiseSchedule s = s) : settle s = s := by
  obtain ⟨ho, he, hm, hp⟩ := h
  have ha : arbiterTest s = s := arbiterTest_empty hs he hm
  have ht : takeLoaded s = s := by simp [takeLoaded, ho]
  have hz : endZeroWake s = s := by simp [endZeroWake, ho]
  simp only [settle, raiseAndGrant, hr, ha, ht, hz]
  rw [lendTest_idle (.inl (by simp [hp])), reclaimTest_idle (by simp [hp])]

/-- With nothing going on but the tail, nothing happens. -/
theorem settle_alone {s : Part} (h : s.Alone) (ho : s.op = none) : settle s = s :=
  settle_still ⟨ho, h.2.2.1, h.2.2.2.1, h.2.2.2.2⟩ h.2.1 (raiseSchedule_noRun h.1)

/-- Of a part that is awake and to be settled. -/
theorem whileAwake_awake {s : Part} (h : s.awake = true) (f : Part → Part) :
    whileAwake f s = settle (f s) := by simp [whileAwake, h]

/-- Of a part that is not awake. -/
theorem whileAwake_asleep {s : Part} (h : s.awake = false) (f : Part → Part) :
    whileAwake f s = s := by simp [whileAwake, h]

/-- A deadline that stands and has been reached is acted on with no time passing (R2). -/
theorem expireAt_reached {s : Part} {due : Part → Option Elapsed} {d : Elapsed}
    (ha : s.awake = true) (h : due s = some d) (hr : s.reached d = true)
    (f : Elapsed → Part → Part) : expireAt due f s = settle (f d s) := by
  simp [expireAt, whileAwake, ha, h, reachElapsed, hr]

/-- Nothing happens where no such deadline stands, but for the tail of the step. -/
theorem expireAt_none {s : Part} {due : Part → Option Elapsed} (ha : s.awake = true)
    (h : due s = none) (f : Elapsed → Part → Part) : expireAt due f s = settle s := by
  simp [expireAt, whileAwake, ha, h]

/-- A calendar moment that stands and has been reached is acted on with no time passing. -/
theorem arriveAt_reached {s : Part} {moment : Part → Option Nat} {t : Nat} (ha : s.awake = true)
    (h : moment s = some t) (hr : t ≤ s.now) (hc : s.now < Config.calendarSpan) (f : Part → Part) :
    arriveAt moment f s = settle (f s) := by
  have h1 : t < Config.calendarSpan := by omega
  have h2 : ¬ s.now < t := by omega
  simp [arriveAt, whileAwake, ha, h, h1, reachInstant, h2]

/-! ### The receive buffer, and time that passes -/

/-- A request with the buffer empty is handled at once, and its reply begins (R174). -/
theorem request_handled {s : Part} (ha : s.awake = true) (h : s.link.handled = none) (code : Byte)
    (p : List Byte) (f : Part → Handled) :
    request code p f s = startReply ⟨code, p⟩ (f s).reply (f s).part := by
  simp [request, queueFrame, serve, ha, h]

/-- A request behind a handled frame waits its turn (R174). -/
theorem request_waits {s : Part} (ha : s.awake = true) (h : s.link.handled.isSome = true)
    (h' : s.link.waiting = none) (code : Byte) (p : List Byte) (f : Part → Handled) :
    request code p f s = { s with link := { s.link with waiting := some ⟨code, p⟩ } } := by
  have : s.link.handled ≠ none := fun e => by simp [e] at h
  simp [request, queueFrame, ha, h', this]

/-- A request behind a handled and a waiting frame is discarded (R174). -/
theorem request_dropped {s : Part} (h : s.link.handled.isSome = true)
    (h' : s.link.waiting.isSome = true) (code : Byte) (p : List Byte) (f : Part → Handled) :
    request code p f s = s := by
  have : s.link.handled ≠ none := fun e => by simp [e] at h
  have : s.link.waiting ≠ none := fun e => by simp [e] at h'
  simp [request, queueFrame, *]

/-- Ticks that end on a trim boundary take nothing of its trim (R6). -/
theorem trimBeyond_atBoundary {t : TimeBase} {n : Nat}
    (h : (t.elapsed + BitVec.ofNat 48 n).toNat % Config.trimSpacing = 0) : t.trimBeyond n = 0 := by
  simp only [TimeBase.trimBeyond, h]; simp

/-- The ticks of a trim count no trim again (R6). -/
theorem trimBeyond_ownTrim {t : TimeBase}
    (h' : (t.elapsed + BitVec.ofNat 48 t.trim.toNat).toNat % Config.trimSpacing = t.trim.toNat) :
    t.trimBeyond t.trim.toNat = 0 := by
  simp only [TimeBase.trimBeyond, h']; simp

/-- What a boundary adds beyond the ticks asked for is at most its trim (R6). -/
theorem trimBeyond_le (t : TimeBase) (n : Nat) : t.trimBeyond n ≤ t.trim.toNat := by
  unfold TimeBase.trimBeyond; extract_lets past; split <;> omega

end Sys2Proof.Machine
end

