-- ==== Sys2Proof/Laws/Timed.lean ====
section
/-! SUPPORT. What the events that time brings do: each acts as its command does, and what every one of
them keeps, the addition at a trim boundary keeps as far as it takes them. -/

set_option Elab.async false

namespace Sys2Proof.Machine

/-- An event that time brings acts as its command does. -/
theorem take_eq_exec {s : Part} {e : Timed} (h : e ∈ s.ownEvents) : e.take = exec e.event := by
  simp only [Part.ownEvents] at h
  split at h <;>
    simp only [Part.supplyEvents, Part.replyEvents, Part.operationEvents, Part.blockEvents,
      Part.sequenceEvents, Part.byElapsed, Part.byInstant, List.mem_append, List.mem_cons,
      List.not_mem_nil, or_false, or_assoc] at h
  · rcases h with rfl | rfl | rfl | rfl | rfl | rfl | rfl | rfl | rfl | rfl | rfl | rfl | rfl | rfl |
      rfl | rfl | rfl | rfl | rfl | rfl | rfl | rfl | rfl | rfl | rfl | rfl | rfl | rfl | rfl | rfl |
      rfl | rfl <;> rfl
  · rcases h with rfl | rfl <;> rfl

/-- The part after a command's meaning, of a command that answers a next state. -/
theorem takenBy_advance (f : Part → Part) (s : Part) : takenBy (advance f) s = f s := rfl

/-- What every event keeps, the events of a span keep together. -/
theorem takeReached_keeps {holds : Part → Prop} (ago fuel : Nat) {s : Part} (hs : holds s)
    (h : ∀ (t : Part) (e : Timed), e ∈ (t.ago ago).ownEvents → holds t → holds (takenBy e.take t)) :
    holds (takeReached ago fuel s) := by
  induction fuel generalizing s with
  | zero => exact hs
  | succ n ih =>
    unfold takeReached
    split
    · next e he => exact ih (h s e (List.mem_of_find?_eq_some he) hs)
    · exact hs

/-- A trim whose ticks stay within the range is counted as any other ticks are (R6). -/
theorem addTrim_within {n : Nat} {s : Part} (h : s.now + n < Config.calendarSpan) :
    addTrim n s = passTime n s := if_pos h

/-- With nothing reached before the end of the range, a trim that passes it brings R5 at once. -/
theorem addTrim_over {n : Nat} {s : Part} (h : ¬ s.now + n < Config.calendarSpan)
    {t : Part}
    (ht : t = { s with time := { s.time with
      instant := Config.calendarSpan - 1, elapsed := s.time.elapsed + BitVec.ofNat 48 n
      trimTaken := false } })
    (hn : (t.ago (s.now + n - Config.calendarSpan + 1)).ownEvents.find? (·.reached) = none) :
    addTrim n s =
      calendarEnds { t with time := { t.time with instant := s.now + n - Config.calendarSpan } } := by
  subst ht
  simp only [addTrim, if_neg h, additionFuel, takeReached, hn]

end Sys2Proof.Machine
end

