-- ==== Sys2Proof/Tests/Slice0.lean ====
section
/-! SUPPORT. The model's own tests: what WellFormed refuses, the worked examples of spec/, and, for
every statement with hypotheses, a state and operands that meet them. Expected values come from the
chapters named in the docstrings. -/

set_option Elab.async false

namespace Sys2Proof.Tests

open Machine

/-! ### Small states -/

/-- The part after reset. -/
def base : Part := State.reset.part

/-- A part with an empty queue. -/
def st (p : Part) : State := ⟨p, []⟩

/-- The calendar instant of a number of eighths. -/
def at8 (n : Nat) : Nat := n * 4096

/-- A FEEDBACK plan with a three-entry burst, a ramp and a limit of three frames. -/
def aPlan : Plan where
  mode := .feedback
  profile := 0
  intervalStart := 160
  intervalEnd := 80
  rampFrames := 4
  frameLimit := 3
  startRule := .fromPlan
  eInit := 0
  cAmb := 20
  gainK := 8
  deadband := 2
  stepLimit := 4
  bracketMode := .burst
  brackets := [0, 8, -8]
  endAction := .stopNotify
  chainTarget := none

/-- A plan that chains to plan 1. -/
def chainPlan : Plan := { aPlan with endAction := .chain, chainTarget := some 1 }

/-- Plan slots 0 and 1. -/
def withPlans (p q : Option Plan) (s : Part) : Part :=
  { s with tables := { s.tables with plans := (s.tables.plans.set 0 p).set 1 q } }

/-- A part with two plans and window 0 enabled for the whole day. -/
def planned : Part :=
  let s := withPlans (some aPlan) (some aPlan) base
  let w : Window := { Window.default with enabled := true }
  { s with tables := { s.tables with windows := s.tables.windows.set 0 w } }

/-- A run of window 0 under plan 0 whose next due stands at 20 s. -/
def aRun : Run where
  number := 1
  window := 0
  originPlan := 0
  plan := 0
  state := .active
  occStart := 0
  k := 0
  remaining := 3
  ring := 0
  nextDue := at8 160
  eBase := some 4
  aPrev := none
  bLast := none
  lateLimit := 16
  wakeReached := false
  dueReached := false
  ringReset := false
  stepCatchUp := false
  byEndAction := false

/-- The calendar instant set without more. -/
def atInstant (t : Nat) (s : Part) : Part := { s with time := { s.time with instant := t } }

/-- The clock SET. -/
def clockSet (s : Part) : Part := { s with time := { s.time with clock := .set } }

/-- An engine in a state, with the clock SET. -/
def engineIn (e : EngineState) (s : Part) : Part := { clockSet s with engine := e }

/-- An ARMED part with a run. -/
def running (r : Run) : Part := { engineIn .armed planned with run := some r, runCount := 1 }

/-- A MANUAL request for plan 0. -/
def aRequest : Request := ⟨0, none, 0, 0, none, 16⟩

/-- One frame's setting at s = 4. -/
def aSetting : FrameSetting := ⟨0, 4, 4, 0, false, 3277, false, false⟩

/-- A computation of a number of frames. -/
def aComp (n : Nat) : Computation :=
  ⟨4, none, 20, false, false, false, false, false, List.replicate n aSetting⟩

/-- An operation of a source in a phase, with a profile and a computation of some frames. -/
def anOp (src : Source) (prof : Profile) (frames : Nat) (phase : Phase) : Operation where
  source := src
  request := aRequest
  window := none
  profile := prof
  plan? := if src = .schedule then none else some aPlan
  level := .normal
  volts := none
  rehearsal := false
  reduced := false
  comp := if frames = 0 then none else some (aComp frames)
  index := 0
  phase := phase
  startAt := none
  tag := some 1
  acked := false
  heldB := none
  camActSeen := false
  aborting := false
  newest := none
  lastRecord := none
  lastCounted := false
  settled := false
  askReading := false

/-- A MANUAL operation of one frame under the default profile. -/
def manualIn (phase : Phase) : Operation := anOp .manual Profile.default 1 phase

/-- A part with an operation in flight, which holds camera power. -/
def busy (o : Operation) (s : Part) : Part :=
  { s with op := some o, holders := { s.holders with operation := true } }

/-- A port in a state, with the switch and the timer that it calls for. -/
def portIn (p : PortState) (s : Part) : Part :=
  { s with lending :=
      ⟨p, p.hostSide, none, if p.hostSide then some 100 else none, true⟩ }

/-- A power level. -/
def levelIn (l : Level) (s : Part) : Part := { s with battery := { s.battery with level := l } }

/-- The supply monitor in a state, with its deadline reached. -/
def supplyIn (m : SupplyState) (s : Part) : Part :=
  { s with monitor := { s.monitor with state := m, deadline := 0 } }

/-- A WAIT_READY profile with REPORT. -/
def reporting : Profile := { Profile.default with wakeMode := .waitReady, report := .report }

/-- A recovery in a phase. -/
def aRecovery (attempt : Nat) (mode : WakeMode) (phase : AttemptPhase) : Recovery :=
  ⟨attempt, phase, 40, 3, mode, 16, 40, 0⟩

/-- A closed record of a number. -/
def aRecord (n : Nat) : FrameRecord :=
  { missedRecord .manual 0 none 0 none .busy false with number := n }

/-- A journal that holds frames 2 to 4. -/
def aJournal : Journal := ⟨[aRecord 2, aRecord 3, aRecord 4], 5, 0⟩

/-- The part that a command leaves, from an empty queue. -/
def after (c : Instr) (p : Part) : Option Part :=
  match exec c (st p) with
  | .next t => some t.part
  | .fault _ => none
  | .refused _ => none

/-! ### WellFormed: each check refuses an ill-formed term -/

theorem test_payload_over_250_refused :
    (Instr.shoot (List.replicate 251 0)).wellFormed = false := by decide +kernel

theorem test_known_code_is_not_unknown : (Instr.unknownType 0x01#8 []).wellFormed = false := by
  decide

theorem test_unknown_type_payload_bounded :
    (Instr.unknownType 0x7F#8 (List.replicate 251 0)).wellFormed = false := by decide +kernel

theorem test_no_bytes_complete_nothing : (Instr.hostFrameComplete []).wellFormed = false := by decide

theorem test_256_bytes_are_no_frame :
    (Instr.hostFrameComplete (List.replicate 256 0)).wellFormed = false := by decide +kernel

theorem test_len_250_is_not_above_250 :
    (Instr.hostLenAbove250 250#8).wellFormed = false ∧
      (Instr.cameraLineLenAbove250 250#8).wellFormed = false := by decide

theorem test_good_ready_is_not_discarded :
    (Instr.cameraFrameDiscarded (frameBytes 0x61#8 [])).wellFormed = false := by decide +kernel

theorem test_wrong_crc_is_discarded :
    (Instr.cameraFrameDiscarded [0xC3#8, 0#8, 0x61#8, 0#8, 0#8]).wellFormed = true := by
  decide +kernel

/-! ### The table gives no row any bits -/

theorem test_no_word_spells_a_command : decodeTableWord 8 0x01 = none := rfl

theorem test_no_word_reaches_the_queue : State.reset.withFetchWord 8 0x01 = State.reset := rfl

/-! ### Worked examples of spec/ -/

/-- R173's CRC: polynomial 0x1021, initial value 0xFFFF, no reflection, no final XOR; its
well-known check value over the digits 1 to 9 is 0x29B1. -/
theorem test_crc_check_value :
    crc16 [0x31#8, 0x32#8, 0x33#8, 0x34#8, 0x35#8, 0x36#8, 0x37#8, 0x38#8, 0x39#8] = 0x29B1#16 := by
  decide +kernel

/-- The table of R52. -/
theorem test_durations :
    [-96, -80, -24, -20, -1, 0, 20, 24, 27, 31, 32, 33, 44, 64].map duration =
      [8, 32, 4096, 5793, 30049, 32768, 185364, 262144, 339960, 480776, 524288, 571744, 1482912,
        8388608] := by decide +kernel

/-- The table of R57. -/
theorem test_budgets :
    fitBudget 160 24 8 1 = 557056 ∧ fitBudget 160 24 8 3 = 163840 ∧ fitBudget 80 24 8 3 = 54613 ∧
      fitBudget 248 24 8 1 = 917504 ∧ fitBudget 8 24 8 1 < 0 := by decide +kernel

/-- Section 5.4: one rate read at the three gates gives 95 at each. -/
theorem test_ambient_agrees_over_gates :
    ambientOf 64 0 0 = 96 ∧ ambientOf 63 0 0 = 95 ∧ ambientOf 1000 1 0 = 95 ∧
      ambientOf 16000 2 0 = 95 := by decide +kernel

/-- Section 1.1: 2024-03-15 12:00:00 is day 8,840, a Friday. -/
theorem test_date :
    dayOf (763819200 * 32768) = 8840 ∧ sodOf (763819200 * 32768) = 43200 ∧
      weekdayOf (dayOf (763819200 * 32768)) = 5 := by decide +kernel

/-- Section 9.7: readings 1, 4, 8 and 11, with cold_slope 4. -/
theorem test_effective_voltages :
    let g : Supply := { Supply.default with coldSlope := 4 }
    effectiveMv g .periodic 6650 (-10) = 6690 ∧ effectiveMv g .loaded 6300 (-12) = 6598 ∧
      effectiveMv g .loaded 5800 (-13) = 6102 ∧ effectiveMv g .periodic 6360 0 = 6360 ∧
      indicatedLevel g 6690 = .thrift ∧ indicatedLevel g 6598 = .scarce ∧
      indicatedLevel g 6102 = .critical := by decide

/-- Section 9.7: readings 8 and 13 confirm CRITICAL and SCARCE. -/
theorem test_level_confirmations :
    let g : Supply := { Supply.default with coldSlope := 4 }
    judge g .thrift 2 0 ⟨5800, -13, .loaded, 6102, .critical⟩ = ⟨0, 0, some .critical⟩ ∧
      judge g .critical 0 2 ⟨6380, 2, .periodic, 6380, .scarce⟩ = ⟨0, 0, some .scarce⟩ ∧
      judge g .critical 0 0 ⟨6340, -2, .periodic, 6348, .scarce⟩ = ⟨0, 0, none⟩ := by decide

/-- R62: a frame bracketed +8 that reports +6 counts as −2, within a deadband of 2. -/
theorem test_feedback_subtracts_the_offset : correction aPlan 0 (some (6, 8)) = 0 := by decide

/-- R176: a request of the wrong length is answered BAD_LENGTH under TYPE OR 0x80. -/
theorem test_bad_length_reply :
    exec (.arm [0#8]) (st base) =
      .next (st (startReply ⟨0x20#8, [0#8]⟩ .badLength base)) := rfl

/-- R41: ARM with the clock NOT_SET is refused. -/
theorem test_arm_needs_the_clock :
    exec (.arm []) (st base) =
      .next (st (startReply ⟨0x20#8, []⟩ (.refused .clockNotSet) base)) := rfl

/-- R173: a whole ARM frame on the link does what the request does. -/
theorem test_arm_frame :
    after (.hostFrameComplete (frameBytes 0x20#8 [])) base = after (.arm []) base := by
  decide +kernel

/-! ### Witnesses: the step, the time base and requests -/

theorem witness_IdlePartRunsByItself :
    (supplyIn .riding base).nextEvent = some .rideThroughDeadline ∧
      (base.nextEvent = none ∧ base.monitor.lost = false ∧ base.time.withheld = 0 ∧
        base.now + 1 < Config.calendarSpan) ∧
      (let s : Part := { base with monitor := { base.monitor with lost := true } };
        s.nextEvent = none ∧ s.monitor.lost = true ∧
          ({ s with monitor := { s.monitor with coldIn := some 1 } } : Part).nextEvent = none) ∧
      (let s : Part := { base with time := { base.time with withheld := 1 } };
        s.nextEvent = none ∧ s.monitor.lost = false ∧ 0 < s.time.withheld) ∧
      (let s := skipBoundaries (atInstant (Config.calendarSpan - 2) base);
        s.nextEvent = none ∧ s.now + 1 < Config.calendarSpan) := by decide +kernel

theorem witness_SleepingPartTakesNoOtherCommand :
    (supplyIn .outage base).awake = false ∧ (supplyIn .restoring base).awake = false ∧
      takenAsleep (.camActChange true) = false ∧ takenAsleep (.getStatus []) = false ∧
      (∀ active, Instr.getStatus [] ≠ .camActChange active) ∧
      (∀ rising, Instr.getStatus [] ≠ .triggerEdge rising) ∧
      (after (.camActChange true) (supplyIn .outage base)).map (·.pins.camAct) = some true := by
  decide +kernel

theorem witness_TrimBoundaryAppliesTheTrim :
    let early (trim : Int) : Part :=
      { base with time := { base.time with
          instant := Config.calendarSpan - 33554432 - 1024, trim := trim } }
    ((early 1023).time.Lawful ∧ (early 0).time.Lawful ∧ (early (-1023)).time.Lawful) ∧
    (let p : Part := { base with time := { base.time with trim := 1023 } };
      p.time.Lawful ∧ p.now + 33554442 + 1023 < Config.calendarSpan ∧
        (p.time.elapsed + BitVec.ofNat 48 33554432).toNat % 33554432 = 0 ∧
        (passTime 33554442 p).time.elapsed = 33555455#48) ∧
    ((early 1023).monitor.lost = false ∧ 0 ≤ (early 1023).time.trim ∧
      (early 1023).now + (early 1023).time.toBoundary + (early 1023).time.trim.toNat <
        Config.calendarSpan) ∧
    ((early 0).monitor.lost = false ∧ 0 ≤ (early 0).time.trim) ∧
    ((early (-1023)).time.trim < 0 ∧
      (early (-1023)).now + (early (-1023)).time.toBoundary + (early (-1023)).time.trim.toNat <
        Config.calendarSpan) := by unfold TimeBase.Lawful; decide +kernel

/-- R5, R6: an addition of 100 ticks, 10 ticks before the end of the range, with a due 5 ticks ahead. -/
theorem witness_TrimBoundaryAppliesTheTrim_over :
    let o := anOp .schedule Profile.default 0 .waiting;
    let r : Run := { aRun with nextDue := Config.calendarSpan - 5, wakeReached := true };
    let p := busy o (running r);
    let s : Part :=
      { p with
        time := { p.time with
          instant := Config.calendarSpan - 10, elapsed := 33554432, trim := 100, trimTaken := false
          boundarySeen := Config.calendarSpan - 10, midnightSeen := Config.calendarSpan - 10 }
        battery := { p.battery with deadline := none }
        meter := { p.meter with state := .stopped } };
    let last : Part := { s with time := { s.time with
      instant := Config.calendarSpan - 1, withheld := 0, trimTaken := false
      elapsed := s.time.elapsed + BitVec.ofNat 48 s.time.trim.toNat } };
    (s.monitor.lost = false ∧ s.time.toBoundary = 0 ∧
        Config.calendarSpan ≤ s.now + s.time.trim.toNat ∧ s.awake = true ∧ s.op = some o ∧
        o.source = .schedule ∧ o.phase = .waiting ∧ o.settled = false ∧ o.askReading = false ∧
        s.lending.port.hostSide = false ∧ s.run = some r ∧ r.state = .active ∧
        s.planAt r.plan = some aPlan ∧ r.wakeReached = true ∧ r.dueReached = false ∧
        r.nextDue < Config.calendarSpan ∧
        ∀ e ∈ (last.ago 91).ownEvents, e.reached = true → e.event = .dueReached) ∧
      (after .trimBoundary s).map (fun t => (t.now, t.journal.records.length)) = some (90, 0) ∧
      (after .trimBoundary s).map (fun t => t.op.map (·.phase)) = some (some (.setting none)) := by
  decide +kernel

theorem witness_TrimBoundaryAppliesTheTrim_lawful :
    Profile.default.Lawful ∧
      ({ base.time with instant := Config.calendarSpan - 10, trim := 100 } : TimeBase).Lawful := by
  refine ⟨by simp [Profile.Lawful, Profile.default], ?_⟩
  unfold TimeBase.Lawful; decide +kernel

theorem witness_CalendarEndClearsTheClock :
    (let s := atInstant (Config.calendarSpan - 1) base;
      s.monitor.lost = false ∧ s.time.Lawful ∧
        s.tables.general.mask.getLsbD NoticeKind.clockNeeded.index = true) ∧
    (let s : Part := { base with time := { base.time with
        instant := Config.calendarSpan - 2, elapsed := 33554431, trim := 100 } };
      s.time.Lawful ∧ s.time.trimBeyond 2 = 99 ∧
        (after .calendarEnd s).map (·.now) = some 99) ∧
    (atInstant (Config.calendarSpan - 1) base).Still := by
  refine ⟨?_, ?_, rfl, rfl, rfl, rfl⟩ <;> unfold TimeBase.Lawful <;> decide +kernel

/-- R39: the mark of a whole-day window, whose next midnight is the jump, goes at the end of the range;
one that ends a second later stands. -/
theorem witness_CalendarEndClearsTheClock_mark :
    let s (extra : Nat) : Part :=
      { atInstant (Config.calendarSpan - 1) planned with
        doneMark := some ⟨0, Config.calendarSpan + extra⟩ };
    ((s 0).run = none ∧ Config.calendarSpan + 0 ≤ Config.calendarSpan + (s 0).time.trimBeyond 1) ∧
      (after .calendarEnd (s 0)).map (·.doneMark) = some none ∧
      (after .calendarEnd (s 32768)).map (·.doneMark) = some (some ⟨0, 32768⟩) := by
  decide +kernel

theorem witness_ClockAndTrimAreSet :
    base.awake = true ∧ base.link.handled = none ∧
      (putNat 4 3155759999).length = 4 ∧
      fieldNat 0 4 (putNat 4 3155759999) = Config.lastSecond ∧
      Config.lastSecond < fieldNat 0 4 (putNat 4 3155760000) ∧
      (putInt 2 1023).length = 2 ∧ fieldInt 0 2 (putInt 2 1023) = 1023 ∧
      fieldInt 0 2 (putInt 2 (-1024)) = -1024 := by decide +kernel

/-- R39: after a step back from day 2 to day 1 the whole-day mark ends at day 1's midnight, and MIDNIGHT
there removes it; a step past its end removes it at once. -/
theorem witness_ClockAndTrimAreSet_mark :
    let s : Part :=
      { clockSet (atInstant (172800 * 32768 + 9) planned) with
        doneMark := some ⟨0, 259200 * 32768⟩ };
    let back : Option Part := after (.setClock (putNat 4 90000)) s;
    s.run = none ∧ s.link.handled = none ∧
      back.map (·.doneMark) = some (some ⟨0, 172800 * 32768⟩) ∧
      (back.map (fun t => atInstant (172800 * 32768) t)).bind
        (fun t => (after .midnight t).map (·.doneMark)) = some none ∧
      (after (.setClock (putNat 4 259200)) s).map (·.doneMark) = some none := by decide +kernel

theorem witness_ClockStepSettlesTheDue :
    let s (p : Part) (r : Run) : Part := { engineIn .paused p with run := some r, runCount := 1 };
    let a := s planned aRun;
    let far : Run := { aRun with nextDue := at8 1600 };
    let back := s (atInstant (at8 800) planned) far;
    (a.awake = true ∧ a.link.handled = none ∧ (putNat 4 20).length = 4 ∧
        fieldNat 0 4 (putNat 4 20) = 20 ∧ a.time.clock = .set ∧ a.run = some aRun ∧
        a.planAt aRun.plan = some aPlan ∧ aRun.state = .active ∧ a.engine = .paused ∧
        (putClock 20 a).selectedWindow = some aRun.window ∧
        (a.tables.windows.get aRun.window).plan = aRun.originPlan ∧
        aRun.nextDue ≤ 20 * Config.ticksPerSecond ∧ 2 ≤ aRun.remaining ∧
        20 * Config.ticksPerSecond <
          aRun.nextDue + eighths (a.effectiveInterval aPlan aRun.k)) ∧
      (fieldNat 0 4 (putNat 4 19) = 19 ∧ (putClock 19 a).selectedWindow = some aRun.window ∧
        19 * Config.ticksPerSecond < aRun.nextDue ∧ a.now ≤ 19 * Config.ticksPerSecond) ∧
      (fieldNat 0 4 (putNat 4 10) = 10 ∧ (putClock 10 back).selectedWindow = some far.window ∧
        10 * Config.ticksPerSecond < back.now ∧ back.run = some far ∧
        10 * Config.ticksPerSecond + eighths (back.effectiveInterval aPlan far.k) < far.nextDue) ∧
      (let o := anOp .schedule Profile.default 1 (.exposing 9);
        let w := anOp .schedule Profile.default 0 .waiting;
        (busy o (running aRun)).op = some o ∧ o.askReading = false ∧ o.source = .schedule ∧
          (busy o (running aRun)).lending.port.hostSide = false ∧ o.settled = false ∧
          o.phase.isUnderway = true ∧ (busy w (running aRun)).op = some w ∧ w.phase = .waiting ∧
          w.source = .schedule ∧ w.settled = false ∧
          (busy w (running aRun)).time.clock = .set ∧
          ({ aRun with state := .ending } : Run).state = .ending) ∧
      (after (.setClock (putNat 4 20)) a).map (·.run.map (·.nextDue)) = some (some (at8 320)) ∧
      (after (.setClock (putNat 4 10)) back).map (·.run.map (·.nextDue)) = some (some (at8 240)) := by
  decide +kernel

/-- A PAUSED part with a run and nothing else. -/
theorem paused_still :
    ({ engineIn .paused planned with run := some aRun, runCount := 1 } : Part).Still :=
  ⟨rfl, rfl, rfl, rfl⟩

theorem witness_ClockStepSettlesTheDue_spacing :
    let o := anOp .schedule Profile.default 1 (.spacing 9);
    let s := busy o (running aRun);
    (s.op = some o ∧ o.askReading = false ∧ s.lending.port.hostSide = false ∧
        o.source = .schedule ∧ o.settled = false ∧ o.phase = .spacing 9 ∧ s.run = some aRun ∧
        aRun.nextDue ≤ 20 * Config.ticksPerSecond) ∧
      (after (.setClock (putNat 4 20)) s).map (fun t => t.run.map (fun r => (r.nextDue, r.stepCatchUp))) =
        some (some (at8 160, true)) := by decide +kernel

theorem witness_ReportsChangeOnlyTheReply :
    base.awake = true ∧ base.link.handled = none ∧ 16 ≤ (16#8 : Byte).toNat ∧ 4 ≤ (4#8 : Byte).toNat ∧
      8 ≤ (8#8 : Byte).toNat := by decide +kernel

/-- The table of section 12.4 for GET_STATUS, read off a part with a run, a LENT port and the reading of a
cold start. -/
theorem test_status_bytes :
    let s : Part := { portIn .lent (running aRun) with failCount := 2 };
    (statusData s).take 27 =
      [1, 1, 2, 0, 2, 0, 0, 0, 0, 0x33, 0, 0, 0, 0, 0, 0, 20, 0, 0, 0, 0, 0, 3, 0, 0, 0, 0] ∧
      slice 32 11 (statusData s) = [0xFF, 0xFF, 0xFF, 0xFF, 1, 0, 0, 0, 0, 0, 100] := by
  decide +kernel

/-- The worked example under R21: profile 2 with line_mode NONE, s_bulb 8 and g_knee 24. -/
theorem test_effective_values :
    let p : Profile :=
      { Profile.default with lineMode := .noSettings, report := .noReport, sBulb := 8, gKnee := 24 };
    slice 42 8 (putProfile 2 p) = [0, 8, 0, 32, 0, 8, 0, 0] ∧
      slice 42 8 (putProfile 2 { p with sBulb := 40 }) = [0, 32, 0, 32, 0, 32, 0, 0] := by
  decide +kernel

/-- The clock of R10 on day 1, a Sunday, at 00:00:01 and 2 ticks, with a trim of −2. -/
theorem test_clock_bytes :
    let s : Part :=
      { clockSet (atInstant (86401 * 32768 + 2) base) with
        time := { (clockSet (atInstant (86401 * 32768 + 2) base)).time with
          trim := -2, elapsed := 258 } };
    clockData s =
      [1, 0, 1, 0x51, 0x81, 0, 2, 0, 1, 0, 0, 0, 1, 0, 0xFF, 0xFE, 0, 0, 0, 0, 1, 2] := by
  decide +kernel

theorem witness_ReadFramesReturnsTheRecordsAsked :
    let ask (f n : Nat) : List Byte := putNat 4 f ++ [byte n]
    base.awake = true ∧ base.link.handled = none ∧ (ask 1 1).length = 5 ∧ 1 ≤ fieldNat 4 1 (ask 1 1) ∧
      fieldNat 4 1 (ask 1 4) ≤ 4 ∧ aJournal.Lawful ∧ aJournal.oldest = some 2 ∧
      aJournal.newest = some 4 ∧ base.journal.Lawful ∧ base.journal.oldest = none ∧
      fieldNat 4 1 (ask 1 0) < 1 ∧ 4 < fieldNat 4 1 (ask 1 5) := by
  unfold Journal.Lawful; decide +kernel

/-- Section 12.4: the reply to READ_FRAMES over an empty ring, and a record's first bytes over a ring of
one. -/
theorem test_frame_bytes :
    let j : Journal := ⟨[aRecord 258], 259, 0⟩;
    framesData ⟨[], 1, 0⟩ 1 4 = [0, 255, 255, 255, 255, 255, 255, 255, 255, 0] ∧
      (framesData j 1 4).take 14 = [3, 0, 0, 1, 2, 0, 0, 1, 2, 1, 0, 0, 1, 2] ∧
      (framesData j 1 4).length = 58 ∧ (framesData j 259 4).take 1 = [2] := by decide +kernel

theorem witness_RefusedRequestsChangeNothing :
    base.awake = true ∧ base.link.handled = none ∧
      fixedRequest (.getStatus [0]) = some (0x01#8, [0], 0) ∧
      ([0#8] : List Byte).length ≠ 0 ∧ firstFailed (planChecks []) = some .badLength ∧
      firstFailed (profileChecks []) = some .badLength ∧
      firstFailed (windowChecks []) = some .badLength ∧
      firstFailed (supplyChecks []) = some .badLength ∧
      firstFailed (generalChecks []) = some .badLength ∧
      firstFailed (planChecks [16, 0]) = some (.badField 255) ∧
      firstFailed (planChecks [15, 0]) = none ∧
      firstFailed (planChecks [16, 2]) = some (.badField 0) := by decide +kernel

theorem witness_AcceptedWriteIsStored :
    base.awake = true ∧ base.link.handled = none ∧
      checkPlan (putPlan 15 (some aPlan)) = .store 15 (some aPlan) [] ∧
      checkProfile ((putProfile 3 Profile.default).take 42) = .store 3 Profile.default [] ∧
      checkWindow (putWindow 7 Window.default) = .store 7 Window.default [] ∧
      checkSupply (putSupply Supply.default) = .store () Supply.default [] ∧
      Supply.default.checkPeriod = base.tables.supply.checkPeriod ∧
      checkSupply (putSupply { Supply.default with checkPeriod := 8 }) =
        .store () { Supply.default with checkPeriod := 8 } [] ∧
      base.op = none ∧ base.engine = .disarmed ∧ base.doneMark = none := by decide +kernel

/-- A new check_period: not passed, passed with a reading that confirms nothing or a level, and passed
in RIDING (R25). -/
theorem witness_AcceptedWriteIsStored_supply :
    let g : Supply := { Supply.default with checkPeriod := 8 };
    let s (elapsed worse : Nat) : Part :=
      { base with
        time := { base.time with elapsed := BitVec.ofNat 48 elapsed }
        battery := { base.battery with worse := worse }
        pins := { base.pins with packMv := if worse = 0 then 8000 else 6999 } };
    let d : Elapsed := base.battery.lastDue + BitVec.ofNat 48 (4096 * g.checkPeriod);
    let confirmed (p : Part) : Option Level :=
      (judge g p.battery.level p.battery.worse p.battery.better
        (({ p with tables := { p.tables with supply := g } } : Part).sample .periodic)).confirmed;
    (checkSupply (putSupply g) = .store () g [] ∧ g.checkPeriod ≠ base.tables.supply.checkPeriod ∧
        base.battery.deadline ≠ none ∧ (s 32767 0).reached d = false ∧
        (s 32767 0).awake = true ∧ (s 32767 0).link.handled = none ∧ (s 32767 0).op = none) ∧
      ((s 32768 0).reached d = true ∧ (s 32768 0).monitor.state ≠ .riding ∧
        confirmed (s 32768 0) = none) ∧
      (confirmed (s 32768 2) = some .thrift ∧ (s 32768 2).engine = .disarmed) ∧
      ((supplyIn .riding (s 32768 0)).awake = true ∧
        (supplyIn .riding (s 32768 0)).monitor.state = .riding ∧
        (supplyIn .riding (s 32768 0)).reached d = true) ∧
      (after (.writeSupply (putSupply g)) (s 32768 2)).map (·.battery.level) = some .thrift := by
  decide +kernel

/-- After reset no run, no request and no lend stands. -/
theorem base_alone : base.Alone := ⟨rfl, rfl, rfl, rfl, rfl⟩

/-- A payload of each write request whose checks pass, with an EMPTY and a DEFINED plan. -/
theorem witness_AcceptedWriteIsStored_checks :
    firstFailed (planChecks (putPlan 15 none)) = none ∧ fieldNat 1 1 (putPlan 15 none) = 0 ∧
      firstFailed (planChecks (putPlan 15 (some aPlan))) = none ∧
      fieldNat 1 1 (putPlan 15 (some aPlan)) = 1 ∧
      firstFailed (profileChecks ((putProfile 3 Profile.default).take 42)) = none ∧
      firstFailed (windowChecks (putWindow 7 Window.default)) = none ∧
      firstFailed (windowChecks (putWindow 7
        { Window.default with dates := some (0, 36524), gate := .below (-160) })) = none ∧
      firstFailed (supplyChecks (putSupply Supply.default)) = none ∧
      firstFailed (generalChecks (putGeneral General.default)) = none := by decide +kernel

/-- The worked example under R18: plan 5 with a chain target of 5 and then of 6. -/
theorem test_plan_write :
    let p (target : Byte) : List Byte :=
      [5, 1, 3, 1] ++ putNat 4 4 ++ putNat 4 800000 ++ putNat 2 360 ++ putNat 4 0 ++ [2] ++
        putInt 2 0 ++ putInt 2 (-100) ++ [20, 2, 4, 1, 3, 0, 60, BitVec.ofInt 8 (-16), 2, target];
    firstFailed (planChecks (p 5)) = some (.badField 16) ∧ firstFailed (planChecks (p 6)) = none ∧
      (after (.writePlan (p 5)) base).map (fun t => t.link.reply.map (·.reply)) =
        some (some (.badField 16)) ∧
      (after (.writePlan (p 6)) base).map (fun t => t.link.reply.map (·.reply)) =
        some (some (.adjusted [3, 4, 10, 14])) ∧
      ((after (.writePlan (p 6)) base).bind (·.planAt 5)).map (fun x =>
        [x.intervalStart, x.intervalEnd, x.gainK]) = some [8, 691200, 16] ∧
      ((after (.writePlan (p 6)) base).bind (·.planAt 5)).map (·.brackets) =
        some [0, 48, -16] := by decide +kernel

theorem witness_AcceptedGeneralWriteIsStored :
    let off : General := { General.default with meterEnabled := false }
    let dark : Part := { meterStop base with tables := { base.tables with general := off } }
    (base.awake = true ∧ base.link.handled = none ∧ checkGeneral (putGeneral off) = .store () off [] ∧
      base.tables.general.meterEnabled = true) ∧
    (dark.awake = true ∧ dark.link.handled = none ∧ dark.tables.general.meterEnabled = false ∧
      checkGeneral (putGeneral General.default) = .store () General.default []) ∧
    (base.tables.general.meterPeriod = General.default.meterPeriod ∧
      General.default.meterEnabled = true) := by decide +kernel

/-- A new meter_period: not passed, passed with an IDLE or a MEASURING meter, and a STOPPED one (R23). -/
theorem witness_AcceptedGeneralWriteIsStored_period :
    let g : General := { General.default with meterPeriod := 64 };
    let s (elapsed : Nat) (state : MeterState) : Part :=
      { base with
        time := { base.time with elapsed := BitVec.ofNat 48 elapsed }
        meter := { base.meter with state := state } };
    let d : Elapsed := base.meter.lastDue + BitVec.ofNat 48 (4096 * g.meterPeriod);
    (checkGeneral (putGeneral g) = .store () g [] ∧
        base.tables.general.meterEnabled = g.meterEnabled ∧
        base.tables.general.meterPeriod ≠ g.meterPeriod ∧ (s 262143 .idle).awake = true ∧
        (s 262143 .idle).link.handled = none) ∧
      ((s 262143 .idle).reached d = false ∧ (s 262143 .idle).meter.state ≠ .stopped ∧
        (s 262143 .idle).op = none ∧ base.meter.state ≠ .stopped ∧ base.meter.state ≠ .idle) ∧
      ((s 262144 .idle).reached d = true ∧ (s 262144 base.meter.state).reached d = true ∧
        (s 262144 .stopped).meter.state = .stopped) ∧
      (after (.writeGeneral (putGeneral g)) (s 262144 .idle)).map (·.meter.lastDue) =
        some 262144 := by decide +kernel

theorem aPlan_lawful (i : Fin 16) : aPlan.Lawful i := by
  simp [Plan.Lawful, aPlan, EndAction.chains]

theorem planned_lawful : planned.tables.Lawful := by
  have hp : ∀ i, planned.tables.plans.get i = none ∨ planned.tables.plans.get i = some aPlan := by
    decide +kernel
  have hf : ∀ i, planned.tables.profiles.get i = Profile.default := by decide +kernel
  have hw : ∀ i, planned.tables.windows.get i = Window.default ∨
      planned.tables.windows.get i = { Window.default with enabled := true } := by decide +kernel
  refine ⟨fun i p h => ?_, fun i => ?_, fun i => ?_, ?_, ?_⟩
  · rcases hp i with e | e <;> rw [e] at h <;> simp at h
    exact h ▸ aPlan_lawful i
  · rw [hf i]; simp [Profile.Lawful, Profile.default]
  · rcases hw i with e | e <;> rw [e] <;> simp [Window.Lawful, Window.default]
  · simp [planned, withPlans, base, State.reset, Part.coldStart, Tables.coldStart, General.Lawful,
      General.default]
  · simp [planned, withPlans, base, State.reset, Part.coldStart, Tables.coldStart, Supply.Lawful,
      Supply.default, lawfulFactor]

theorem witness_RecordsStayLawful :
    planned.tables.Lawful ∧ planned.time.Lawful ∧ ∃ t, step ⟨planned, [.arm []]⟩ = .next t :=
  ⟨planned_lawful, by unfold TimeBase.Lawful; decide +kernel, _, rfl⟩

theorem witness_RecordsReadBackAsWritten :
    (∀ i, aPlan.Lawful i) ∧ Profile.default.Lawful ∧ Window.default.Lawful ∧
      General.default.Lawful ∧ Supply.default.Lawful :=
  ⟨aPlan_lawful, by simp [Profile.Lawful, Profile.default], by simp [Window.Lawful, Window.default],
    by simp [General.Lawful, General.default], by simp [Supply.Lawful, Supply.default, lawfulFactor]⟩

/-! ### Witnesses: schedule -/

theorem witness_DuesFollowTheInterval :
    (0 < 4096 ∧ 0 ≤ 0) ∧ (∀ i, aPlan.Lawful i) ∧
      ({ aPlan with rampFrames := 0 } : Plan).rampFrames = 0 ∧
      (0 < aPlan.rampFrames ∧ aPlan.rampFrames ≤ 4) ∧ Supply.default.Lawful ∧
      firstDue 0 4096 1 = 4096 ∧ 0 < aPlan.rampFrames ∧ intervalAt aPlan 1 = 140 ∧ intervalAt aPlan 4 = 80 :=
  ⟨by decide, aPlan_lawful, by decide, by decide,
    by simp [Supply.Lawful, Supply.default, lawfulFactor], by decide +kernel, by decide,
    by decide +kernel, by decide +kernel⟩

/-- The factors of the defaults, 2 at THRIFT and 4 at SCARCE and CRITICAL, and the longest interval. -/
theorem test_interval_factors :
    [Level.normal, .thrift, .scarce, .critical].map (intervalFactor Supply.default) =
        [1, 2, 4, 4] ∧ stretched 345600 2 = 691200 ∧ stretched 345601 2 = 691200 := by
  decide +kernel

theorem witness_OccurrencesAreThoseOfTheirStartDay :
    let day : Window := Window.default
    let plain : Window := { Window.default with startSod := 10, endSod := 86399 }
    let wrap : Window := { Window.default with startSod := 86399, endSod := 1 }
    (day.startSod ≤ 86399 ∧ plain.endSod ≤ 86399 ∧ wrap.startSod ≤ 86399) ∧
      occurrenceAt day 0 = some ⟨0, 0, instantOf 1 0⟩ ∧
      occurrenceAt plain (instantOf 0 10) = some ⟨0, instantOf 0 10, instantOf 0 86399⟩ ∧
      occurrenceAt plain (instantOf 0 10 - 1) = none ∧
      occurrenceAt wrap (instantOf 1 0) = some ⟨0, instantOf 0 86399, instantOf 1 1⟩ ∧
      occurrenceAt wrap (instantOf 1 1) = none ∧ occurrenceAt wrap 0 = none := by decide +kernel

theorem witness_ReadingsAreLogarithmsThatSetTheGates :
    let above : Window := { Window.default with gate := .above 20 }
    let below : Window := { Window.default with gate := .below 20 }
    (above.gate = .above 20 ∧ gateAfter above true 12 = true ∧ gateAfter above true 11 = false) ∧
      (below.gate = .below 20 ∧ gateAfter below true 28 = true ∧ gateAfter below true 29 = false) ∧
      Window.default.gate = .noGate ∧
      (1 ≤ 1 ∧ ambientOf 1 1 0 = 16 ∧ mantissa 7 * 2 ^ 0 ≤ 2 * 32768) := by decide +kernel

theorem witness_SelectedWindowIsTheLowestActive :
    planned.selectedWindow = some 0 ∧ base.selectedWindow = none ∧
      (levelIn .critical planned).selectedWindow = none := by decide +kernel

theorem witness_ReEvaluationKeepsEndsAndStartsRuns :
    let r := aRun
    let lone := running r
    let closed : Part := { lone with tables := base.tables }
    (base.engine = .disarmed) ∧
    (lone.engine ≠ .disarmed ∧ lone.run = some r ∧ r.state = .active ∧
      lone.selectedWindow = some r.window ∧ (lone.tables.windows.get r.window).plan = r.originPlan) ∧
    ((running { r with state := .ending }).run = some { r with state := .ending }) ∧
    (closed.engine ≠ .disarmed ∧ closed.selectedWindow ≠ some r.window ∧ closed.op = none ∧
      closed.selectedWindow = none ∧ r.eBase = some 4 ∧ ({ r with eBase := none } : Run).eBase = none) ∧
    ((busy (manualIn .waiting) closed).op.isSome = true ∧
      (busy (manualIn .waiting) closed).selectedWindow ≠ some r.window) ∧
    (r.byEndAction = false ∧
      closed.tables.general.mask.getLsbD NoticeKind.runEnded.index = true ∧
      planned.tables.general.mask.getLsbD NoticeKind.runStarted.index = true) ∧
    (let s := engineIn .armed planned;
      s.engine ≠ .disarmed ∧ s.run = none ∧ s.selectedWindow = some 0 ∧ s.doneMark = none ∧
        s.planAt (s.tables.windows.get 0).plan = some aPlan ∧
        s.occurrenceNow 0 = some ⟨0, 0, instantOf 1 0⟩) ∧
    (let s := { engineIn .armed planned with doneMark := some ⟨0, 0⟩ };
      ∀ m ∈ s.doneMark, m.window = 0 → m.stop ≤ s.now) := by decide +kernel

theorem witness_ConsumptionMovesTheRunByOneInterval :
    let r : Run := { aRun with remaining := 2 }
    (running r).run = some r ∧ (running r).planAt r.plan = some aPlan ∧ 2 ≤ r.remaining ∧
      ({ aPlan with frameLimit := 0 } : Plan).frameLimit = 0 := by decide +kernel

/-- R48, R171: a miss of the same run, plan and reason extends the open record; one of another reason,
and one of a full record, append a new one. -/
theorem witness_ConsumptionMovesTheRunByOneInterval_miss :
    let j := (⟨[aRecord 2, aRecord 3], 4, 0⟩ : Journal).miss aRun 7 .busy;
    let x : FrameRecord := { missedRecord .schedule 0 (some 0) 7 none .busy true with number := 4 };
    let full : Journal := { j with records := [aRecord 3, { x with missCount := 65535 }] };
    (j.records = [aRecord 2, aRecord 3] ++ [x] ∧ x.flags.isOpen = true ∧ x.outcome = .missed ∧
        x.source = .schedule ∧ j.openRun = aRun.number ∧ x.plan = aRun.plan ∧
        x.reason = some .busy ∧ x.missCount < 65535) ∧
      ((j.miss aRun 8 .busy).records.map (fun r => (r.number, r.missCount, r.lastDue)) =
        [(2, 1, some 0), (3, 1, some 0), (4, 2, some 8)]) ∧
      ((j.miss aRun 8 .paused).records.map (fun r => (r.number, r.missCount, r.flags.isOpen)) =
        [(2, 1, false), (3, 1, false), (4, 1, false), (5, 1, true)]) ∧
      ((full.miss aRun 8 .busy).records.map (fun r => (r.number, r.missCount)) =
        [(3, 1), (4, 65535), (5, 1)]) ∧
      (Journal.mk [] 1 0).records = [] := by decide +kernel

theorem witness_CountdownTakesTheEndAction :
    let r : Run := { aRun with remaining := 1 }
    let s := running r
    let q := withPlans (some chainPlan) (some aPlan) s
    let e := withPlans (some chainPlan) none s
    (s.run = some r ∧ r.state = .active ∧ s.planAt r.plan = some aPlan ∧ 0 < aPlan.frameLimit ∧
      r.remaining = 1 ∧ s.op = none ∧ aPlan.endAction.chains = false ∧
      s.occurrenceNow r.window = some ⟨0, 0, instantOf 1 0⟩ ∧ r.eBase = some 4) ∧
    (e.planAt r.plan = some chainPlan ∧ (chainPlan.chainTarget.bind e.planAt) = none) ∧
    (q.planAt r.plan = some chainPlan ∧ chainPlan.endAction.chains = true ∧
      chainPlan.chainTarget = some 1 ∧ q.planAt 1 = some aPlan ∧ q.op = none) ∧
    (s.tables.general.mask.getLsbD NoticeKind.planDone.index = true ∧
      s.tables.general.mask.getLsbD NoticeKind.runEnded.index = true) ∧
    (let of (a : EndAction) (p : Plan) : Part :=
        withPlans (some { p with endAction := a }) (some aPlan) s;
      let shown (p : Part) : Option (List NoticeKind) :=
        some ((consumeDue (.missed .busy) p).notices.map (·.kind));
      shown (of .stopNotify aPlan) = some (s.notices.map (·.kind) ++ [.runEnded, .planDone]) ∧
        shown (of .stopSilent aPlan) = some (s.notices.map (·.kind) ++ [.runEnded]) ∧
        shown (of .chain chainPlan) = some (s.notices.map (·.kind)) ∧
        shown (of .chainNotify chainPlan) = some (s.notices.map (·.kind) ++ [.planDone])) := by
  decide +kernel

theorem witness_CountdownTakesTheEndAction_operations :
    let r : Run := { aRun with remaining := 1 };
    let s := running r;
    let due := anOp .schedule Profile.default 1 (.exposing 9);
    let held := manualIn (.exposing 9);
    let ending : Run := { r with state := .ending, byEndAction := true };
    let e : Part := { busy held s with run := some ending };
    ((busy due s).op = some due ∧ due.source = .schedule ∧ (busy due s).run = some r ∧
        (consumeDue (.byOperation (some (3, 0))) (busy due s)).run = none) ∧
      ((busy held s).op = some held ∧ held.source ≠ .schedule ∧
        (consumeDue (.missed .busy) (busy held s)).run.map (·.state) = some .ending ∧
        (consumeDue (.missed .busy) (busy held s)).notices.map (·.kind) =
          s.notices.map (·.kind) ++ [.planDone]) ∧
      (e.run = some ending ∧ ending.state = .ending ∧
        s.tables.general.mask.getLsbD NoticeKind.runEnded.index = true ∧
        ({ e with hold := true } : Part).hold = true ∧
        (releaseOperation { e with engine := .disarmed }).run = none) := by decide +kernel

theorem witness_CatchUpPassesEveryDue :
    let s := atInstant (at8 320) (running aRun)
    s.tables.Lawful ∧ s.dueGranted = false ∧ (∀ r ∈ s.run, (s.planAt r.plan).isSome = true) ∧
      (s.run = some aRun ∧ aRun.state = .active ∧ aRun.nextDue ≤ s.now) ∧
      (catchUp .power s).run = some { aRun with
        k := 2, remaining := 1, nextDue := at8 (160 + 160 + 140)} :=
  ⟨planned_lawful, by decide +kernel, by decide +kernel, by decide +kernel, by decide +kernel⟩

theorem witness_CatchUpPassesEveryDue_sets :
    (atInstant (at8 320) (running aRun)).duePassed = true ∧ (running aRun).duePassed = false := by
  decide +kernel

theorem witness_WindowMomentsReEvaluate :
    (let s := atInstant (instantOf 1 0) planned;
      s.awake = true ∧ s.now < Config.calendarSpan ∧ s.boundaryMoment = some (instantOf 1 0) ∧
        s.midnightMoment = some (instantOf 1 0) ∧ instantOf 1 0 ≤ s.now ∧ s.engine = .disarmed ∧
        s.arbiter.schedule = none) ∧
    (atInstant (instantOf 1 0) planned).Still ∧
    (let s : Part := { planned with doneMark := some ⟨0, 0⟩ };
      s.doneMark = some ⟨0, 0⟩ ∧ 0 ≤ s.now ∧ s.engine = .disarmed) := by
  refine ⟨by decide +kernel, ⟨rfl, rfl, rfl, rfl⟩, by decide +kernel⟩

theorem witness_ArmDisarmAndResume :
    base.awake = true ∧ base.link.handled = none ∧ base.time.clock = .notSet ∧ base.engine = .disarmed ∧
      ((engineIn .paused base).time.clock = .set ∧ (engineIn .paused base).engine = .paused) ∧
      (engineIn .suspended base).engine = .suspended ∧ (engineIn .armed base).engine = .armed ∧
      (engineIn .disarmed base).time.clock = .set ∧ base.engine ≠ .paused ∧
      (engineIn .armed base).Still :=
  ⟨rfl, rfl, rfl, rfl, ⟨rfl, rfl⟩, rfl, rfl, rfl, by decide, rfl, rfl, rfl, rfl⟩

theorem witness_WakeTimesAndDuesActOnce :
    (let s := atInstant (at8 144) (running aRun);
      s.awake = true ∧ s.wakeMoment = some (at8 144) ∧ at8 144 ≤ s.now ∧
        s.now < Config.calendarSpan ∧ s.meter.state ≠ .idle) ∧
    (let s : Part :=
        { atInstant (at8 144) (running aRun) with meter := { base.meter with state := .idle } };
      s.wakeMoment = some (at8 144) ∧ s.meter.state = .idle) ∧
    (let s : Part := { atInstant (at8 144) (running aRun) with rehearsal := true };
      s.awake = true ∧ s.wakeMoment = some (at8 144) ∧ s.rehearsal = true ∧ s.op = none ∧
        (after .wakeTime s).map (·.wakeMoment) = some none) ∧
    (let o := anOp .schedule Profile.default 0 .waiting;
      let s := busy o (atInstant (at8 160) (running aRun));
      s.awake = true ∧ s.run = some aRun ∧ aRun.dueReached = false ∧ aRun.nextDue ≤ s.now ∧
        s.now < Config.calendarSpan ∧ s.op = some o ∧ o.phase = .waiting ∧ o.askReading = false ∧
        s.lending.port.hostSide = false ∧ s.planAt aRun.plan = some aPlan) := by decide +kernel

/-- R84, R85: the wake time reached with CAM_PWR off, CAM_PWR on one tick before the due and at it, the
late deadline and one tick past it, and a port on the host side. -/
theorem witness_WakeTimesAndDuesActOnce_raise :
    let r : Run := { aRun with wakeReached := true };
    let off (t : Nat) : Part := atInstant t (running r);
    let on (t : Nat) : Part :=
      { off t with holders := { (off t).holders with keepWarm := true } };
    let lent : Part := portIn .lent (off (at8 144));
    let filled (p : Part) : Option (Option Nat) := (raiseSchedule p).arbiter.schedule.map (·.due);
    ((off 0).run = some r ∧ (off 0).awake = true ∧ (off 0).hold = false ∧
        (off 0).engine = .armed ∧ r.state = .active ∧ (off 0).arbiter.schedule = none ∧
        (off 0).op = none ∧ (off 0).arbiter.external = none ∧ (off 0).arbiter.manual = none ∧
        (off 0).health = .healthy ∧ (off 0).battery.level = .normal ∧
        (off 0).tables.general.lateLimit = 16 ∧ lent.lending.port.hostSide = true) ∧
      ((off (at8 144)).camPwr = false ∧ filled (off (at8 144)) = some (some (at8 160))) ∧
      ((on 0).camPwr = true ∧ filled (on (at8 160 - 1)) = none ∧
        filled (on (at8 160)) = some (some (at8 160))) ∧
      (filled (off (at8 176)) = some (some (at8 160)) ∧ filled (off (at8 176 + 1)) = none) ∧
      (running aRun).run = some aRun ∧ filled (atInstant (at8 144) (running aRun)) = none := by
  decide +kernel

/-- CAM_PWR going off at SET_REHEARSAL before the due, and the due itself (R85). -/
theorem witness_WakeTimesAndDuesActOnce_power :
    let r : Run := { aRun with wakeReached := true };
    let p : Part := atInstant (at8 150) (running r);
    let s : Part := { p with holders := ⟨false, true, false, false⟩ };
    let due : Part := { s with time := { s.time with instant := at8 160 } };
    (s.awake = true ∧ s.link.handled = none ∧ s.hold = false ∧ s.run = some r ∧
        s.engine = .armed ∧ r.state = .active ∧ s.op = none ∧ s.arbiter.schedule = none ∧
        s.arbiter.external = none ∧ s.arbiter.manual = none ∧ s.health = .healthy ∧
        s.battery.level = .normal ∧ s.lending.port = .owned ∧
        s.now ≤ r.nextDue + 4096 * s.tables.general.lateLimit ∧ (1#8).toNat ≤ 1) ∧
      (after (.setRehearsal [1]) s).map (fun t => t.op.map (·.source)) = some (some .schedule) ∧
      (due.awake = true ∧ due.run = some r ∧ r.dueReached = false ∧ r.nextDue ≤ due.now ∧
        due.now < Config.calendarSpan ∧ due.lending.port = .owned) ∧
      (after .dueReached due).map (fun t => t.op.map (·.source)) = some (some .schedule) := by
  decide +kernel

/-- A part whose one operation is neither waking nor waiting for a reading. -/
theorem witness_WakeTimesAndDuesActOnce_busy :
    let o := manualIn (.exposing 9);
    let s := busy o (running aRun);
    s.run = some aRun ∧ s.op = some o ∧ o.askReading = false ∧ o.phase.isWaking = false ∧
      s.lending.port.hostSide = false ∧ base.run = none := by decide +kernel

theorem witness_DueIsMissedAtItsLateLimit :
    (let s := atInstant (at8 176) (running aRun);
      s.awake = true ∧ s.run = some aRun ∧ aRun.state = .active ∧ s.dueGranted = false ∧
        aRun.lateInstant ≤ s.now ∧ s.now < Config.calendarSpan) ∧
    (let s := { atInstant (at8 176) (running aRun) with engine := .paused };
      s.engine ≠ .armed ∧ s.planAt aRun.plan = some aPlan ∧ 2 ≤ aRun.remaining ∧
        s.now < aRun.nextDue + eighths (s.effectiveInterval aPlan aRun.k) ∧
        s.missReason = .paused) ∧
    ({ atInstant (at8 176) (running aRun) with engine := .paused } : Part).Still := by
  refine ⟨by decide +kernel, by decide +kernel, rfl, rfl, rfl, rfl⟩

/-! ### Witnesses: exposure and the meter -/

theorem witness_DurationNeverFalls :
    (7 ≤ 7 ∧ 1 ≤ 12) ∧ (-96 : Int) ≤ 64 ∧ duration (0 - 8 * ((12 : Nat) : Int)) = 8 := by
  decide +kernel

theorem witness_FitCapFollowsTheBudget :
    let e := Profile.default.effective
    0 < 1 ∧ e.sMin ≤ e.sMax ∧ (fitOf (-1) e).tight = true ∧ (fitOf 32 e).tight = false ∧
      (fitOf 31 e).tight = true ∧ (fitOf 32 e).cap = -80 ∧ (fitOf 163840 e).cap = 18 := by
  decide +kernel

theorem witness_BaseMovesByALimitedCorrection :
    (((0 : Int) - (2 - 0)).natAbs ≤ aPlan.deadband ∧ (aPlan.deadband : Int) < 0 - (-3 - 0) ∧
      (0 : Int) - (3 - 0) < -(aPlan.deadband : Int) ∧ correction aPlan 0 (some (-6, 0)) = 2 ∧
      correction aPlan 0 (some (7, 0)) = -2) ∧
    (-80 : Int) ≤ -80 ∧
      (baseUpdate { aPlan with mode := .ambient, cAmb := 10 } 0 (-80) 64 (some 4) none (some 3) none
        none).eBase = 7 ∧
      (baseUpdate { aPlan with mode := .blend } 0 (-80) 64 (some 4) (some 5) (some 3) none
        none).eBase = 6 ∧
      (baseUpdate aPlan 0 (-80) 64 (some 4) none none (some (-16, 0)) none).eBase = 8 ∧
      (baseUpdate aPlan 0 (-80) 64 (some 4) none none (some (-16, 0)) none).rateLimited = true ∧
      (baseUpdate aPlan 0 (-80) 64 none none none none none).eBase = 0 := by decide +kernel

/-- A first update under INHERIT with and without a last base. -/
theorem witness_BaseMovesByALimitedCorrection_start :
    let p : Plan := { aPlan with startRule := .inherit };
    p.startRule = .inherit ∧ aPlan.startRule = .fromPlan ∧
      ({ aPlan with startRule := .fromAmbient } : Plan).startRule = .fromAmbient ∧
      (baseUpdate p 0 (-80) 64 none none (some 3) none (some (2, 70))).eBase = 64 ∧
      (baseUpdate p 0 (-80) 64 none none (some 3) none (some (2, 70))).high = true ∧
      (baseUpdate p 0 (-80) 64 none none (some 3) none none).eBase = 17 := by decide +kernel

/-- R61: INHERIT with and without a last base, and FROM_AMBIENT with and without a reading. -/
theorem test_start_values :
    let p : Plan := { aPlan with eInit := 5, startRule := .inherit };
    startValue p (some 3) (some (2, 9)) = 9 ∧ startValue p (some 3) none = 17 ∧
      startValue p none none = 5 ∧ startValue aPlan (some 3) (some (2, 9)) = 0 ∧
      startValue { p with startRule := .fromAmbient } (some 3) (some (2, 9)) = 17 := by
  decide +kernel

theorem witness_FrameSettingsKeepTheExposureLaw :
    Profile.default.Lawful ∧ ({ Profile.default with lineMode := .noSettings } : Profile).Lawful :=
  ⟨by simp [Profile.Lawful, Profile.default], by simp [Profile.Lawful, Profile.default]⟩

/-- R68: the four regions of E_frame under a profile with its knee at 8 and g_knee 6. -/
theorem witness_FrameSettingsKeepTheExposureLaw_split :
    let prof : Profile := { Profile.default with sKnee := 8, gKnee := 6, gMax := 10, sMax := 20 };
    let f := fitOf 1000000 prof.effective;
    let x (base : Int) := (frameSetting prof f base 0);
    f.cap = 20 ∧ ((x 5).s, (x 5).g) = (5, 0) ∧ ((x 11).s, (x 11).g) = (8, 3) ∧
      ((x 20).s, (x 20).g) = (14, 6) ∧ ((x 28).s, (x 28).g) = (20, 8) ∧
      ((x 99).s, (x 99).g) = (20, 10) := by decide +kernel

theorem witness_MeterReadsByItsPeriodAndGates :
    let idle : Part := { base with meter := { base.meter with state := .idle, deadline := 0 } }
    let at_ (g : Fin 3) (used : BitVec 3) : Part :=
      { base with meter := { base.meter with state := .measuring ⟨g, used, 0⟩, deadline := 0 } }
    (idle.awake = true ∧ idle.meter.state ≠ .stopped ∧ idle.reached idle.meter.deadline = true) ∧
      ((at_ 1 0).meter.state = .measuring ⟨1, 0, 0⟩ ∧
        (at_ 1 0).reached (at_ 1 0).meter.deadline = true) ∧
      (min ((at_ 1 0).meter.count + 1048575) 1048575 = 1048575 ∧ (0 : Fin 3).val + 1 = (1 : Fin 3).val ∧
        (0 : BitVec 3).getLsbD 0 = false) ∧
      (min ((at_ 1 0).meter.count + 1023) 1048575 < 1024 ∧ (2 : Fin 3).val = (1 : Fin 3).val + 1) ∧
      (after (.gateEnd 1023) (at_ 1 0)).map (·.meter.state) =
        some (.measuring ⟨2, 2, 131072⟩) ∧
      (after (.gateEnd 1024) (at_ 1 0)).map (·.meter.latest.map (·.a)) = some (some 96) ∧
      (after (.gateEnd 5) (at_ 1 4)).map (·.meter.state) = some .idle := by decide +kernel

/-! ### Witnesses: requests and operations -/

theorem witness_ShootFollowsItsTable :
    let ready := planned
    (base.awake = true ∧ base.link.handled = none ∧ ([] : List Byte).length ≠ 1 ∧ ([] : List Byte).length ≠ 3) ∧
      (([16#8] : List Byte).length = 1 ∧ 15 < fieldNat 0 1 [16#8]) ∧
      (fieldNat 0 1 [15#8] = 15 ∧ base.planAt 15 = none) ∧
      ((ready.planAt 0).isSome = true ∧ (0#8 :: putInt 2 129).length = 3 ∧
        fieldInt 1 2 (0#8 :: putInt 2 129) = 129 ∧ fieldInt 1 2 (0#8 :: putInt 2 (-96)) = -96) ∧
      ({ ready.arbiter with manual := some aRequest } : Arbiter).manual.isSome = true ∧
      (portIn .lent ready).lending.port ≠ .owned ∧
      (engineIn .suspended ready).engine = .suspended ∧
      (levelIn .critical ready).battery.level = .critical ∧
      (ready.arbiter.manual = none ∧ ready.lending.port = .owned ∧ ready.engine ≠ .suspended ∧
        ready.battery.level ≠ .critical ∧ ready.awake = true ∧ ready.link.handled = none) ∧
      (let o := manualIn (.exposing 0);
        (busy o ready).op = some o ∧ o.askReading = false ∧ o.phase.isWaking = false) := by
  decide +kernel

theorem witness_TriggerEdgesRaiseOrMerge :
    let armed : Part := { planned with tables :=
      { planned.tables with general := { General.default with triggerPlan := some 0 } } }
    let granted (ticks : BitVec 48) : Part := { armed with
      time := { armed.time with elapsed := ticks }
      arbiter := { armed.arbiter with lastExternal := some 0 } }
    (armed.awake = true ∧ ¬ (armed.tables.general.triggerEdge = .rising ↔ true = true) ∧
        (armed.tables.general.triggerEdge = .rising ↔ false = true)) ∧
      (base.tables.general.triggerPlan.bind base.planAt) = none ∧
      (armed.tables.general.triggerPlan = some 0 ∧ (armed.planAt 0).isSome = true) ∧
      ({ armed.arbiter with external := some aRequest } : Arbiter).external.isSome = true ∧
      ((granted 327679).time.elapsed - 0).toNat < 80 * 4096 ∧
      ¬ ((granted 327680).time.elapsed - 0).toNat < 80 * 4096 ∧ armed.arbiter.external = none := by
  decide +kernel

theorem witness_LateRequestsAreWithdrawn :
    let q : Request := { aRequest with lateLimit := 0 }
    let s (src : Source) : Part :=
      { planned with arbiter := match src with
        | .external => { planned.arbiter with external := some q }
        | _ => { planned.arbiter with manual := some q } }
    ((s .external).awake = true ∧ (s .external).arbiter.slot (heldSource .external) = some q ∧
        (s .external).reached q.lateDeadline = true ∧ (s .external).arbiter.manual = none ∧
        (s .external).run = none ∧ (s .external).op = none ∧
        (s .external).lending.port = .owned ∧ (s .external).arbiter.schedule = none) ∧
      ((s .manual).arbiter.slot (heldSource .manual) = some q ∧
        (s .manual).arbiter.external = none ∧ (s .manual).reached q.lateDeadline = true) := by
  decide +kernel

theorem witness_GrantAndKeepWarm :
    let s : Part := { planned with arbiter :=
      { planned.arbiter with manual := some aRequest, external := some aRequest } }
    (s.mayGrant = true ∧ s.candidate = some .external ∧ s.arbiter.slot .external = some aRequest ∧
        s.camPwr = false) ∧
      (portIn .lent s).lending.port.hostSide = true ∧ (levelIn .critical s).mayGrant = false ∧
      (running aRun).keepsWarm Profile.default = false ∧
      (running { aRun with nextDue := at8 96 }).keepsWarm Profile.default = true ∧
      (running { aRun with nextDue := at8 96 + 1 }).keepsWarm Profile.default = false := by
  decide +kernel

/-- R92: a grant with CAM_PWR on, of a MANUAL request, and of a SCHEDULE one before and at its due; and
the ends of WAKING under each wake_mode. -/
theorem witness_GrantAndKeepWarm_power :
    let lit (p : Part) : Part := { p with holders := { p.holders with keepWarm := true } };
    let held : Part := { planned with arbiter := { planned.arbiter with manual := some aRequest } };
    let due : Request := { aRequest with due := some aRun.nextDue };
    let dueAt (t : Nat) : Part :=
      let p := atInstant t (running aRun);
      { p with arbiter := { p.arbiter with schedule := some due } };
    let ready : Profile := { Profile.default with wakeMode := .waitReady };
    let answered : Part :=
      { held with tables := { held.tables with profiles := held.tables.profiles.set 0 ready } };
    ((lit held).mayGrant = true ∧ (lit held).candidate = some .manual ∧ (lit held).camPwr = true ∧
        (arbiterTest (lit held)).op.map (·.phase.isWaking) = some false) ∧
      ((lit (dueAt 5)).mayGrant = true ∧ (lit (dueAt 5)).candidate = some .schedule ∧
        (lit (dueAt 5)).camPwr = true ∧ 5 < aRun.nextDue ∧
        (arbiterTest (lit (dueAt 5))).op.map (·.phase) = some .waiting) ∧
      ((lit (dueAt aRun.nextDue)).candidate = some .schedule ∧
        (lit (dueAt aRun.nextDue)).now = aRun.nextDue ∧
        (arbiterTest (lit (dueAt aRun.nextDue))).op.map (·.comp.isSome) = some true) ∧
      ((arbiterTest held).op.map (·.phase) =
          some (.waking (BitVec.ofNat 48 (4096 * Profile.default.wakeLead))) ∧
        (arbiterTest answered).op.map (·.phase) =
          some (.waking (BitVec.ofNat 48 (4096 * Profile.default.readyTimeout)))) := by decide +kernel

theorem witness_GrantAndKeepWarm_leaves :
    let y : Part := { portIn .yielding planned with arbiter :=
      { planned.arbiter with manual := some aRequest } };
    let warm : Part :=
      { running aRun with holders := { (running aRun).holders with keepWarm := true } };
    (y.mayGrant = true ∧ y.candidate = none ∧ (arbiterTest y).op = none) ∧
      ({ y with arbiter := { y.arbiter with schedule := some aRequest } } : Part).candidate =
        some .schedule ∧
      (warm.run.isSome = true ∧ warm.battery.level = .normal ∧
        (endRun warm).holders.keepWarm = false ∧ (changeLevel .thrift warm).holders.keepWarm = false ∧
        (after (.disarm []) warm).map (·.holders.keepWarm) = some false) := by decide +kernel

theorem witness_AbortActsByPhase :
    let s (ph : Phase) : Part := busy (manualIn ph) planned
    let lit (ph : Phase) : Part := { s ph with pins := { base.pins with camAct := true } }
    (base.awake = true ∧ base.link.handled = none ∧ base.op = none) ∧
      ((s (.writing (.write 0))).op = some (manualIn (.writing (.write 0))) ∧
        (manualIn (.writing (.write 0))).phase = .writing (.write 0)) ∧
      ((lit (.exposing 9)).op = some (manualIn (.exposing 9)) ∧
        (manualIn (.exposing 9)).rehearsal = false ∧ (manualIn (.exposing 9)).askReading = false ∧
        (lit (.exposing 9)).lending.port.hostSide = false ∧
        (lit (.exposing 9)).link.handled = none ∧
        (lit (.exposing 9)).pins.camAct = true) ∧
      ((manualIn (.waking 9)).phase.isWaking = true ∧ (manualIn .waiting).phase = .waiting ∧
        (manualIn (.setting none)).phase = .setting none ∧
        (manualIn (.focusing 9)).phase = .focusing 9 ∧
        (manualIn (.spacing 9)).phase = .spacing 9) := by decide +kernel

/-- A part with no run, no request and no lend, with an operation in flight. -/
theorem alone_busy (o : Operation) : (busy o planned).Alone := ⟨rfl, rfl, rfl, rfl, rfl⟩

/-- EXPOSING in rehearsal, and with CAM_ACT inactive, not yet seen active and seen so. -/
theorem witness_AbortActsByPhase_exposing :
    let o := manualIn (.exposing 9);
    let acting : Operation := { o with rehearsal := true };
    let seen : Operation := { o with camActSeen := true };
    let s := busy seen planned;
    ((busy acting planned).op = some acting ∧ acting.rehearsal = true ∧
        acting.phase = .exposing 9 ∧ acting.askReading = false) ∧
      (o.rehearsal = false ∧ o.camActSeen = false ∧ (busy o planned).pins.camAct = false) ∧
      (s.awake = true ∧ s.link.handled = none ∧ s.op = some seen ∧ seen.camActSeen = true ∧
        s.lending.port.hostSide = false) ∧
      (after (.abort []) (busy o planned)).map (fun t => t.op.map (·.phase)) =
        some (some (.writing (.activity 16384))) ∧
      (after (.abort []) s).map (fun t => t.journal.records.map (·.cause)) =
        some [some .aborted] := by decide +kernel

theorem witness_WakingEnds :
    let timed := manualIn (.waking 0)
    let waits := anOp .manual reporting 0 (.waking 9)
    let sched := anOp .schedule Profile.default 0 (.waking 0)
    ((busy timed planned).awake = true ∧ timed.phase = .waking 0 ∧ timed.askReading = false ∧
        (busy timed planned).lending.port.hostSide = false ∧ timed.timedWake = true ∧
        (busy timed planned).reached 0 = true ∧ timed.source ≠ .schedule ∧
        timed.plan? = some aPlan ∧ timed.profile.wakeMode = .fixedTime ∧
        0 < timed.profile.wakeLead ∧ (busy timed planned).rehearsal = false) ∧
      (waits.phase = .waking 9 ∧ waits.profile.wakeMode = .waitReady ∧ waits.plan? = some aPlan) ∧
      (sched.source = .schedule ∧ (∀ r ∈ (busy sched (running aRun)).run, 0 < r.nextDue) ∧
        sched.timedWake = true) ∧
      (let s := busy sched (atInstant (at8 160) (running aRun));
        s.run = some aRun ∧ aRun.nextDue ≤ s.now ∧ s.planAt aRun.plan = some aPlan) := by
  decide +kernel

theorem witness_FramePhasesFollow :
    let focusing := manualIn (.focusing 0)
    let setting := manualIn (.setting (some 9))
    let focus := anOp .manual { Profile.default with prefocus := 1 } 1 (.setting none)
    let sending := manualIn (.setting none)
    let spaced := manualIn (.spacing 0)
    ((busy focusing planned).awake = true ∧ (busy focusing planned).op = some focusing ∧
        focusing.askReading = false ∧ (busy focusing planned).lending.port.hostSide = false ∧
        (busy focusing planned).rehearsal = focusing.rehearsal ∧ focusing.phase = .focusing 0 ∧
        (busy focusing planned).reached 0 = true) ∧
      (setting.phase = .setting (some 9) ∧ setting.rehearsal = false ∧ setting.tag = some 1 ∧
        setting.profile.prefocus = 0 ∧ setting.tag ≠ some 2) ∧
      (focus.phase = .setting none ∧ 0 < focus.profile.prefocus ∧ focus.tag = some 1) ∧
      (let s : Part := { busy sending planned with
          camera := { base.camera with tx := some ⟨1, false, 4, 0⟩, txEnds := 0 } };
        s.camera.tx = some ⟨1, false, 4, 0⟩ ∧ sending.tag = some 1 ∧
          sending.phase = .setting none ∧ s.reached s.camera.txEnds = true) ∧
      (spaced.phase = .spacing 0 ∧ spaced.frame = some aSetting ∧
        spaced.profile.lineMode = .settings ∧ spaced.rehearsal = false) ∧
      (let waits := manualIn .waiting;
        let exposes := manualIn (.exposing 9);
        let writes := manualIn (.writing (.activity 9));
        let rehearses : Operation := { exposes with rehearsal := true };
        let rehearsing : Part := { busy rehearses planned with rehearsal := true };
        (waits.phase = .waiting ∧ waits.askReading = false ∧
            (busy waits planned).rehearsal = waits.rehearsal) ∧
          (exposes.phase = .exposing 9 ∧ exposes.rehearsal = false ∧ exposes.askReading = false) ∧
          (writes.phase = .writing (.activity 9) ∧ writes.rehearsal = false) ∧
          (rehearsing.awake = true ∧ rehearsing.op = some rehearses ∧
            rehearsing.rehearsal = rehearses.rehearsal ∧ rehearses.rehearsal = true)) := by
  decide +kernel

theorem witness_FramePhasesFollow_spacing :
    let plain (prefocus : Nat) : Operation :=
      anOp .manual { Profile.default with lineMode := .noSettings, prefocus := prefocus } 1 (.spacing 0);
    let reh : Operation := { manualIn (.spacing 0) with rehearsal := true };
    let s (o : Operation) : Part := { busy o planned with rehearsal := o.rehearsal };
    ((s (plain 0)).awake = true ∧ (s (plain 0)).reached 0 = true ∧ (plain 0).askReading = false ∧
        (plain 0).profile.lineMode = .noSettings ∧ (plain 0).profile.prefocus = 0 ∧
        0 < (plain 9).profile.prefocus ∧ (s (plain 9)).lending.port.hostSide = false) ∧
      (reh.rehearsal = true ∧ (s reh).rehearsal = reh.rehearsal ∧ reh.phase = .spacing 0) ∧
      (after .burstSpacingEnd (s reh)).map (fun t => (t.camera.shutter, t.camera.tx.isNone, t.camera.lastTag)) =
        some (false, true, base.camera.lastTag) ∧
      (after .burstSpacingEnd (s (plain 9))).map (fun t => (t.camera.focus, t.camera.tx.isNone)) =
        some (true, true) := by decide +kernel

theorem witness_HoldEndsInWriting :
    let o := manualIn (.exposing 0)
    let seen : Operation := { o with camActSeen := true }
    let s := busy o planned
    (s.awake = true ∧ s.op = some o ∧ o.phase = .exposing 0 ∧ s.reached 0 = true ∧
        o.askReading = false ∧ s.lending.port.hostSide = false ∧ o.rehearsal = false ∧
        s.pins.camAct = false ∧ o.camActSeen = false) ∧
      ({ o with rehearsal := true } : Operation).rehearsal = true ∧
      ({ s with pins := { s.pins with camAct := true } } : Part).pins.camAct = true ∧
      (seen.camActSeen = true ∧ seen.aborting = false ∧ seen.profile.report = .noReport) := by
  decide +kernel

theorem witness_HoldEndsInWriting_report :
    let o : Operation := { anOp .manual reporting 1 (.exposing 0) with camActSeen := true };
    let s (o : Operation) := busy o planned;
    ((s o).awake = true ∧ (s o).reached 0 = true ∧ (s o).pins.camAct = false ∧
        o.camActSeen = true ∧ o.aborting = false ∧ o.rehearsal = false ∧ o.askReading = false ∧
        o.profile.report = .report ∧ o.heldB = none) ∧
      ({ o with heldB := some 3 } : Operation).heldB = some 3 ∧
      ({ o with aborting := true } : Operation).aborting = true ∧
      (after .holdElapsed (s o)).map (fun t => t.op.map (·.phase)) =
        some (some (.writing (.report (BitVec.ofNat 48 (4096 * reporting.reportWait))))) := by
  decide +kernel

theorem witness_FramesFailByTheirPhase :
    let wakes := anOp .manual reporting 0 (.waking 0)
    ((busy wakes planned).awake = true ∧ wakes.timedWake = false ∧
        (busy wakes planned).reached 0 = true) ∧
      (manualIn (.setting (some 0))).phase = .setting (some 0) ∧
      (manualIn (.setting (some 0))).tag = some 1 ∧ planned.rehearsal = false ∧
      (manualIn (.writing (.activity 0))).phase = .writing (.activity 0) ∧
      (manualIn (.writing (.write 0))).phase = .writing (.write 0) ∧
      (manualIn (.focusing 9)).phase = .focusing 9 ∧
      ({ manualIn (.writing (.write 0)) with aborting := true } : Operation).aborting = true ∧
      (let o : Operation := { manualIn (.exposing 9) with rehearsal := true };
        let s : Part := { busy o planned with rehearsal := true };
        s.awake = true ∧ s.op = some o ∧ s.rehearsal = true ∧ o.askReading = false ∧
          o.phase.isWaking = false ∧ s.lending.port.hostSide = false ∧
          (after .ready s).map (·.op) = some (some o)) ∧
      (after .settingTimeout (busy (manualIn (.setting (some 0))) planned)).map
        (·.journal.records.map (·.cause)) = some [some .noAck] := by decide +kernel

/-- The frames that a record is made from, computed and not, and the failure that brings the count to
a fault_limit of 1 (R113, R114). -/
theorem witness_FramesFailByTheirPhase_record :
    let o := manualIn (.setting (some 0));
    let p : Profile := { Profile.default with faultLimit := 1, recoveryOff := 8 };
    let last : Operation := { o with profile := p };
    (o.comp = some (aComp 1) ∧ (aComp 1).frames[o.index]? = some aSetting) ∧
      (anOp .manual reporting 0 (.waking 0)).comp = none ∧
      (after .settingTimeout (busy last planned)).map (·.health) =
        some (.recovering ⟨1, .off 32768, 8, 3, .fixedTime, 16, 40, 0⟩) ∧
      (after .settingTimeout (busy last planned)).map (·.journal.records.map (·.exposure)) =
        some [some ⟨4, 0, 0, 4, 0⟩] ∧
      (after .settingTimeout (busy last planned)).map (·.journal.records.map (·.startAt)) =
        some [some 0] := by decide +kernel

theorem witness_FramesAreTaken :
    let held : Operation :=
      { anOp .manual reporting 1 (.writing (.write 9)) with heldB := some 3, acked := true }
    let waits : Operation := { anOp .manual reporting 2 (.writing (.report 0)) with acked := true }
    ((busy (manualIn (.writing (.write 9))) planned).awake = true ∧
        (manualIn (.writing (.write 9))).aborting = false ∧ planned.rehearsal = false ∧
        (manualIn (.writing (.write 9))).profile.report = .noReport) ∧
      (held.profile.report = .report ∧ held.heldB = some 3 ∧ held.phase = .writing (.write 9)) ∧
      (waits.phase = .writing (.report 0) ∧ (busy waits planned).reached 0 = true ∧
        waits.acked = true ∧ waits.tag = some 1 ∧ waits.profile.report = .report ∧
        waits.index + 1 < ((waits.comp.map (·.frames.length)).getD 0)) ∧
      (manualIn (.writing (.rehearsal 0))).phase = .writing (.rehearsal 0) ∧
      (let early : Operation := { anOp .manual reporting 1 (.exposing 9) with acked := true };
        (busy early planned).awake = true ∧ early.aborting = false ∧ early.phase = .exposing 9 ∧
          early.askReading = false ∧ (busy early planned).lending.port.hostSide = false ∧
          early.profile.report = .report ∧ early.acked = true ∧ early.tag = some 1 ∧
          early.tag ≠ some 2) ∧
      (after (.report 1 65) (busy waits planned)).map (·.journal.records.map (·.b)) =
        some [some 64] := by decide +kernel

/-- A rehearsal frame under REPORT with and without A_now, under NONE, and with no computation (R123). -/
theorem witness_FramesAreTaken_rehearsal :
    let o (prof : Profile) (frames : Nat) : Operation :=
      { anOp .manual prof frames (.writing (.rehearsal 0)) with rehearsal := true };
    let lit (a : Int) : Operation :=
      { o reporting 1 with comp := some { aComp 1 with aNow := some a } };
    let s (x : Operation) : Part := { busy x planned with rehearsal := true };
    let b (x : Operation) : Option (List (Option Int)) :=
      (after .rehearsalWriteEnd (s x)).map (fun t => t.journal.records.map (·.b));
    ((s (lit 30)).awake = true ∧ (s (lit 30)).op = some (lit 30) ∧ (lit 30).aborting = false ∧
        (lit 30).phase = .writing (.rehearsal 0) ∧ (s (lit 30)).reached 0 = true ∧
        (lit 30).profile.report = .report ∧
        (lit 30).comp = some { aComp 1 with aNow := some 30 } ∧
        (aComp 1).frames[(lit 30).index]? = some aSetting) ∧
      ((o Profile.default 1).profile.report = .noReport ∧ (o reporting 0).comp = none) ∧
      b (lit 30) = some [some 14] ∧ b (lit 160) = some [some 64] ∧
      b (o reporting 1) = some [none] ∧ b (o Profile.default 1) = some [none] := by decide +kernel

theorem witness_FramesAreTaken_wait :
    let o : Operation := anOp .manual reporting 1 (.writing (.write 9));
    ((busy o planned).awake = true ∧ o.aborting = false ∧ o.profile.report = .report ∧
        o.heldB = none ∧ o.askReading = false ∧ (busy o planned).lending.port.hostSide = false) ∧
      (after (.camActChange false) (busy o planned)).map (fun t => t.op.map (·.phase)) =
        some (some (.writing (.report (BitVec.ofNat 48 (4096 * reporting.reportWait))))) := by
  decide +kernel

/-! ### Witnesses: camera health, lending, battery -/

theorem witness_CameraResetAndRehearsal :
    let recovering : Part := { base with health := .recovering (aRecovery 1 .waitReady (.on 9)) }
    let faulted : Part := { engineIn .suspended base with health := .faulted }
    (base.awake = true ∧ base.link.handled = none ∧ base.health.isRecovering = false ∧
        recovering.health.isRecovering = true) ∧
      (faulted.health = .faulted ∧ faulted.engine = .suspended) ∧
      (1 < (2#8 : Byte).toNat ∧ (1#8 : Byte).toNat ≤ 1 ∧ base.op = none ∧
        base.lending.port = .owned) ∧
      ((busy (manualIn .waiting) base).op.isSome = true ∧ (portIn .lent base).lending.port ≠ .owned) ∧
      (base.run = none ∧ base.arbiter.schedule = none) ∧
      (let off : Part := { base with health := .recovering (aRecovery 1 .waitReady (.off 9)),
                                     holders := { base.holders with lend := true } };
        let held : Part := { base with holders := { base.holders with lend := true } };
        off.camPwrLine = false ∧ held.camPwrLine = true ∧
          ({ held with rehearsal := true } : Part).camPwrLine = false) := by decide +kernel

theorem witness_CameraResetAndRehearsal_lines :
    ({ base with rehearsal := true } : Part).rehearsal = true ∧
      ({ base with rehearsal := true } : Part).LinesLawful := by
  refine ⟨rfl, ?_, ?_, ?_, ?_, fun _ => rfl⟩ <;>
    simp [base, State.reset, Part.coldStart]

theorem witness_RecoveryAttemptsRunTheirPhases :
    let s (r : Recovery) : Part := { base with health := .recovering r }
    let off := aRecovery 1 .waitReady (.off 0)
    let zero : Recovery := { aRecovery 1 .fixedTime (.off 0) with wakeLead := 0 }
    let on := aRecovery 2 .waitReady (.on 0)
    let last := aRecovery 3 .waitReady (.on 0)
    ((s off).awake = true ∧ (s off).health = .recovering off ∧ (s off).reached 0 = true ∧
        off.wakeMode = .waitReady) ∧
      (zero.wakeMode = .fixedTime ∧ zero.wakeLead = 0) ∧
      (0 < (aRecovery 1 .fixedTime (.off 0)).wakeLead ∧
        (aRecovery 1 .fixedTime (.on 0)).phase = .on 0) ∧
      (on.phase = .on 0 ∧ (s on).op = none ∧ (s on).rehearsal = false ∧ on.attempt < on.attempts) ∧
      (last.attempts ≤ last.attempt ∧
        (s last).tables.general.mask.getLsbD NoticeKind.cameraFault.index = true) := by
  decide +kernel

theorem witness_LendingFollowsItsTables :
    let recovering : Part := { base with health := .recovering (aRecovery 1 .waitReady (.on 9)) }
    let wakes : Part := { base with lending := ⟨.yielding, false, some 0, none, true⟩ }
    let out := portIn .lent (atInstant (at8 64) (running aRun))
    (base.awake = true ∧ base.link.handled = none ∧ (levelIn .critical base).battery.level = .critical) ∧
      (base.battery.level ≠ .critical ∧ ({ base with rehearsal := true } : Part).rehearsal = true) ∧
      (base.rehearsal = false ∧ recovering.health.isRecovering = true) ∧
      (portIn .yielding base).lending.port ≠ .owned ∧
      (base.lending.port = .owned ∧ base.op = none ∧ base.run = none ∧
        base.arbiter.schedule = none ∧ base.lending.allowed = true ∧ base.camPwr = false ∧
        base.hold = false ∧ 0 < (base.tables.profiles.get 0).wakeLead ∧ base.lending.wake = none) ∧
      (let o := manualIn (.exposing 9);
        (busy o base).op = some o ∧ o.askReading = false ∧ o.phase.isWaking = false) ∧
      (wakes.lending.port = .yielding ∧ wakes.lending.wake = some 0 ∧ wakes.reached 0 = true ∧
        wakes.op = none) ∧
      (out.run = some aRun ∧ out.lending.port = .lent ∧ out.engine = .armed ∧
        aRun.state = .active ∧ out.reclaimMoment aRun = at8 64 ∧ at8 64 ≤ out.now ∧
        out.now < Config.calendarSpan ∧ out.op = none) ∧
      ((portIn .reclaiming base).lending.port.hostSide = true ∧
        (portIn .lent base).lending.timer = some 100 ∧
        ({ portIn .lent base with time := { base.time with elapsed := 100 } } : Part).reached 100 =
          true) ∧
      (let s : Part := { portIn .lent base with
          holders := { base.holders with lend := true }
          time := { base.time with elapsed := 100 } };
        s.camPwr = true ∧ s.op = none ∧ s.lending.timer = some 100 ∧ s.reached 100 = true ∧
          s.tables.general.mask.getLsbD NoticeKind.cameraTaken.index = true) ∧
      base.lending.port.hostSide = false := by decide +kernel

theorem witness_ThePortIsTakenForTheDueAndAtCritical :
    let s (policy : LendPolicy) : Part :=
      let p := portIn .reclaiming (atInstant (at8 160) (running aRun));
      { p with
        holders := { p.holders with lend := true }
        tables := { p.tables with general := { p.tables.general with lendPolicy := policy } } };
    let due (p : Part) : Bool := decide (
      p.awake = true ∧ p.run = some aRun ∧ aRun.state = .active ∧ p.engine = .armed ∧
        p.lending.port = .reclaiming ∧ aRun.dueReached = false ∧ aRun.nextDue ≤ p.now ∧
        p.now < Config.calendarSpan ∧ p.op = none ∧ p.planAt aRun.plan = some aPlan ∧
        p.holders.lend = true ∧ p.health = .healthy);
    let low (p : Part) : Part :=
      { p with battery := { p.battery with deadline := some 0, worse := 2 } };
    let confirms (p : Part) : Bool := decide (
      p.awake = true ∧ p.battery.deadline = some 0 ∧ p.reached 0 = true ∧
        p.monitor.state = .supplied ∧ p.op = none ∧ p.battery.level ≠ .critical ∧
        (judge p.tables.supply p.battery.level p.battery.worse p.battery.better
          ⟨3000, 20, .periodic, 3000, indicatedLevel p.tables.supply 3000⟩).confirmed =
          some .critical);
    (due (s .partFirst) ∧ (s .partFirst).tables.general.lendPolicy = .partFirst ∧
        (s .partFirst).tables.general.mask.getLsbD NoticeKind.cameraTaken.index = true ∧
        (s .partFirst).arbiter =
          ⟨none, none, none, (s .partFirst).arbiter.merged, (s .partFirst).arbiter.lastExternal⟩ ∧
        (s .partFirst).battery.level ≠ .critical ∧ (s .partFirst).hold = false ∧
        (s .partFirst).now ≤
          aRun.nextDue + eighths (s .partFirst).tables.general.lateLimit) ∧
      (due (s .hostFirst) ∧ (s .hostFirst).tables.general.lendPolicy = .hostFirst ∧
        2 ≤ aRun.remaining ∧ (s .hostFirst).now <
          aRun.nextDue + eighths ((s .hostFirst).effectiveInterval aPlan aRun.k)) ∧
      (confirms (low (running aRun)) ∧ (running aRun).engine ≠ .disarmed ∧
        (running aRun).lending.port = .owned) ∧
      (confirms (low (portIn .yielding planned)) ∧
        (portIn .yielding planned).lending.port = .yielding) ∧
      (confirms (low (portIn .lent planned)) ∧
        (portIn .lent planned).lending.port.hostSide = true ∧
        planned.tables.general.mask.getLsbD NoticeKind.cameraTaken.index = true) ∧
      (after (.batteryPeriodicDeadline 3000 20) (low (portIn .lent planned))).map (·.lending) =
        some ⟨.owned, false, none, none, false⟩ := by decide +kernel

theorem supply_default_lawful : Supply.default.Lawful := by
  simp [Supply.Lawful, Supply.default, lawfulFactor]

theorem witness_PowerLevelFollowsTheReadings :
    Supply.default.Lawful ∧
      (effectiveMv Supply.default .loaded 20000 (-40) = 20250 ∧
        indicatedLevel Supply.default 6199 = .critical ∧
        indicatedLevel Supply.default 6200 = .scarce ∧
        indicatedLevel Supply.default 6999 = .thrift ∧
        indicatedLevel Supply.default 7000 = .normal) ∧
      (Level.normal.rank < Level.thrift.rank ∧ 0 + 1 < Supply.default.confirm ∧
        Supply.default.confirm ≤ 2 + 1 ∧
        Supply.default.thrThrift + Supply.default.hysteresis ≤ 7150 ∧
        ¬ Supply.default.thrThrift + Supply.default.hysteresis ≤ 7149) :=
  ⟨supply_default_lawful, by decide, by decide⟩

theorem witness_BatteryReadingsKeepTheirPeriod :
    let s : Part := { base with battery := { base.battery with deadline := some 0 } }
    let low : Part := { s with battery := { s.battery with worse := 2 } }
    (s.awake = true ∧ s.battery.deadline = some 0 ∧ s.reached 0 = true ∧
        s.monitor.state ≠ .riding ∧ s.op = none ∧ s.engine = .disarmed ∧
        (judge s.tables.supply .normal 0 0 (s.sample .periodic)).confirmed = none) ∧
      ((supplyIn .riding s).awake = true ∧ (supplyIn .riding s).monitor.state = .riding) ∧
      ((after (.batteryPeriodicDeadline 6999 20) low).map (·.battery.level) = some .thrift) ∧
      (s.run = none ∧ s.arbiter.schedule = none ∧ s.arbiter.external = none ∧
        s.arbiter.manual = none ∧ s.lending.port = .owned) := by decide +kernel

/-- R142: a SHOOT with CAM_PWR off takes a LOADED reading of 6,000 mV; in RIDING and in rehearsal none
is taken, nor with CAM_PWR on. -/
theorem witness_BatteryReadingsKeepTheirPeriod_loaded :
    let s : Part :=
      { planned with
        pins := { planned.pins with packMv := 6000, celsius := 20 }
        arbiter := { planned.arbiter with manual := some aRequest } };
    let riding : Part := supplyIn .riding s;
    let acting : Part := { s with rehearsal := true };
    let lit : Part := { planned with holders := { planned.holders with keepWarm := true } };
    let volts (p : Part) : Option (Option Nat × Option ReadingKind) :=
      (settle p).op.map (fun o => (o.volts, (settle p).battery.latest.map (·.kind)));
    ((raiseSchedule s).mayGrant = true ∧ (raiseSchedule s).candidate = some .manual ∧
        (raiseSchedule s).arbiter.slot .manual = some aRequest ∧ s.camPwr = false ∧
        s.rehearsal = false ∧ s.monitor.state = .supplied ∧
        volts s = some (some 6000, some .loaded)) ∧
      ((raiseSchedule riding).mayGrant = true ∧ riding.monitor.state = .riding ∧
        volts riding = some (s.battery.latest.map (·.volts), s.battery.latest.map (·.kind))) ∧
      ((raiseSchedule acting).mayGrant = true ∧ acting.rehearsal = true ∧
        volts acting = some (s.battery.latest.map (·.volts), s.battery.latest.map (·.kind))) ∧
      (lit.camPwr = true ∧ lit.op = none) := by decide +kernel

/-! ### Witnesses: supply and restart -/

theorem witness_SupplyMonitorFollowsThePack :
    base.monitor.lost = false ∧ base.monitor.state = .supplied ∧
      (supplyIn .restoring base).monitor.state = .restoring ∧
      (supplyIn .riding base).monitor.state = .riding ∧
      (supplyIn .outage base).monitor.state = .outage ∧
      (after (.packFall 3999) base).map (·.monitor.state) = some .riding ∧
      (after (.packFall 4000) base).map (·.monitor.state) = some .supplied ∧
      (after (.packRise 4500) (supplyIn .riding base)).map (·.monitor.state) = some .riding ∧
      (after (.packRise 4501) (supplyIn .riding base)).map (·.monitor.state) = some .supplied ∧
      (after (.packRise 4501) (supplyIn .outage base)).map (·.monitor.state) = some .restoring ∧
      (after (.packFall 4500) (supplyIn .restoring base)).map (·.monitor.state) = some .outage ∧
      (let held (worse : Nat) : Part :=
          { supplyIn .riding base with battery :=
              { base.battery with deferred := true, worse := worse } };
        let confirmed (mv worse : Nat) : Option Level :=
          (judge base.tables.supply base.battery.level worse base.battery.better
            (({ held worse with pins := { base.pins with packMv := mv } } : Part).sample
              .periodic)).confirmed;
        (held 0).op = none ∧ (held 0).battery.deferred = true ∧ confirmed 6999 0 = none ∧
          confirmed 6999 2 = some .thrift ∧ (held 2).engine = .disarmed ∧
          base.battery.deferred = false ∧
          (after (.packRise 6999) (held 2)).map (·.battery.level) = some .thrift) := by
  decide +kernel

theorem witness_OutageEndsAllWork :
    let o := manualIn (.exposing 9)
    let s := supplyIn .riding (busy o planned)
    s.monitor.lost = false ∧ s.monitor.state = .riding ∧ s.reached s.monitor.deadline = true ∧
      s.op = some o ∧ o.phase = .exposing 9 ∧
      (after .rideThroughDeadline s).map (·.journal.records.map (·.cause)) =
        some [some .power] := by decide +kernel

theorem witness_OutageEndsAllWork_lend :
    let s (p : PortState) : Part := supplyIn .riding (portIn p planned);
    let shown (p : PortState) : Option (Bool × Option Nat) :=
      (after .rideThroughDeadline (s p)).map (fun t =>
        (t.lending.allowed, (entryOf .cameraTaken t.notices).bind (·.detail)));
    (s .lent).lending.port ≠ .owned ∧
      (s .lent).tables.general.mask.getLsbD NoticeKind.cameraTaken.index = true ∧
      (s .owned).lending.port = .owned ∧ (s .owned).op = none ∧
      shown .lent = some (false, some 4) ∧ shown .reclaiming = some (false, some 4) ∧
      shown .yielding = some (true, some 4) ∧ shown .owned = some (true, none) := by decide +kernel

theorem witness_OutageEndsAllWork_requests :
    let q : Request := ⟨0, none, 0, 0, none, 16⟩;
    let s (op : Option Operation) (external manual : Option Request) : Part :=
      let p := supplyIn .riding planned;
      { p with op := op, arbiter :=
          { p.arbiter with external := external, manual := manual, merged := 3 } };
    let ends (p : Part) : Bool := decide (p.monitor.lost = false ∧ p.monitor.state = .riding ∧
      p.reached p.monitor.deadline = true);
    let o := manualIn (.exposing 9);
    let spaced := manualIn (.spacing 9);
    let recovering : Part :=
      { s none none none with health := .recovering (aRecovery 1 .waitReady (.on 9)) };
    (ends (s none (some q) (some q)) ∧ (s none (some q) (some q)).op = none ∧
        planned.tables.general.mask.getLsbD NoticeKind.shootDone.index = true) ∧
      (ends (s (some o) none none) ∧ o.source = .manual ∧ o.lastCounted = false) ∧
      (ends (s (some spaced) none none) ∧ spaced.phase = .spacing 9) ∧
      (ends recovering ∧ recovering.op = none ∧
        recovering.health = .recovering (aRecovery 1 .waitReady (.on 9))) ∧
      (after .rideThroughDeadline (s none (some q) (some q))).map
        (·.journal.records.map (fun r => (r.source, r.reason, r.merged))) =
          some [(.external, some .power, some 3), (.manual, some .power, none)] ∧
      (after .rideThroughDeadline (s none (some q) (some q))).map
        (fun t => (entryOf .shootDone t.notices).bind (·.detail)) = some (some 2) := by
  decide +kernel

theorem witness_OutageEndsAllWork_port :
    (supplyIn .riding (busy (manualIn (.exposing 9)) planned)).PortLawful := by
  refine ⟨rfl, rfl, ?_, fun _ => rfl⟩
  intro h; exact absurd h (by decide)

theorem witness_RestoreIsWarmOrPaused :
    let s (eighths_ : Nat) : Part := { supplyIn .restoring (engineIn .armed base) with
      time := { base.time with elapsed := BitVec.ofNat 48 eighths_, clock := .set } }
    let recovering : Part := { s 0 with health := .recovering (aRecovery 2 .waitReady .stopped) }
    ((s 0).monitor.lost = false ∧ (s 0).monitor.state = .restoring ∧
        (s 0).reached (s 0).monitor.deadline = true ∧ (s 0).health.isRecovering = false) ∧
      ((s (10 * 60 * 32768)).warm = true ∧ (s (10 * 60 * 32768 + 1)).warm = false) ∧
      ((s 0).tables.general.mask.getLsbD NoticeKind.restoredWarm.index = true ∧
        (s 0).tables.general.mask.getLsbD NoticeKind.restoredPaused.index = true) ∧
      recovering.health = .recovering (aRecovery 2 .waitReady .stopped) ∧
      (let p : Part := { supplyIn .restoring (atInstant (at8 160) (running aRun)) with op := none };
        p.monitor.lost = false ∧ p.run = some aRun ∧ aRun.state = .active ∧ p.op = none ∧
          aRun.nextDue ≤ p.now ∧ p.warm = true) ∧
      ((supplyIn .restoring base).engine = .disarmed ∧ (supplyIn .restoring base).op = none ∧
        (supplyIn .restoring base).reached (supplyIn .restoring base).monitor.deadline = true) ∧
      (let marked : Part :=
          { supplyIn .restoring (atInstant (at8 160) planned) with doneMark := some ⟨0, at8 160⟩ };
        (after .restoreDeadline marked).map (·.doneMark) = some none ∧
          (after .restoreDeadline { marked with doneMark := some ⟨0, at8 161⟩ }).map (·.doneMark) =
            some (some ⟨0, at8 161⟩)) ∧
      (after .restoreDeadline { s 0 with journal := aJournal }).map
        (fun t => (entryOf .restoredWarm t.notices).bind (·.detail)) = some (some 4) ∧
      (after .restoreDeadline (s (10 * 60 * 32768 + 1))).map (·.engine) = some .paused ∧
      (after .restoreDeadline (s (10 * 60 * 32768))).map (·.engine) = some .armed := by
  decide +kernel

theorem witness_ColdStartBeginsAfresh :
    (base.monitor.lost = false ∧ base.monitor.state = .supplied) ∧
      (supplyIn .outage base).monitor.state ≠ .supplied ∧
      (after (.backupCellChange true) (supplyIn .riding base)).map (·.monitor.lost) = some true ∧
      (after (.backupCellChange true) base).map (·.monitor.lost) = some false ∧
      (let lost (c : Option Nat) : Part :=
          { base with monitor := { base.monitor with lost := true, coldIn := c } };
        ((lost none).monitor.lost = true ∧ (lost none).monitor.coldIn = none) ∧
          (lost (some 0)).monitor.coldIn.isSome = true ∧
          (after (.packRise 4501) (lost none)).map (·.monitor.coldIn) = some (some 16384) ∧
          (after (.packFall 4500) (lost (some 7))).map (·.monitor.coldIn) = some none ∧
          (after .coldStart (lost (some 7))).map (·.monitor.lost) = some false) := by
  decide +kernel

theorem witness_ResetsStartTheBlocksAfresh :
    let recovering : Part := { base with health := .recovering (aRecovery 2 .waitReady (.on 9)) }
    let asked : Part := { base with link :=
      { base.link with
        handled := some ⟨0x28#8, []⟩, reply := some ⟨0xA8#8, .ok []⟩, softReset := true } }
    (base.awake = true ∧ (∀ o ∈ base.op, o.lastCounted = false) ∧
        base.health.isRecovering = false) ∧
      recovering.health = .recovering (aRecovery 2 .waitReady (.on 9)) ∧
      (asked.awake = true ∧ asked.softResetAt = some 0 ∧ asked.reached 0 = true ∧
        asked.engine = .disarmed) ∧
      base.link.handled = none ∧
      (let o := manualIn (.exposing 9);
        (busy o planned).awake = true ∧ (busy o planned).op = some o ∧ o.phase = .exposing 9 ∧
          (after .resetLine (busy o planned)).map (·.journal.records.map (·.cause)) =
            some [some .aborted]) ∧
      (after .resetLine (engineIn .armed base)).map (·.engine) = some .paused ∧
      (after .softResetTaken asked).map (·.link.reply) = some none := by decide +kernel

/-! ### Witnesses: notices, the host link, invariants -/

theorem witness_NoticesAreCollectedAndMasked :
    base.awake = true ∧ base.link.handled = none ∧ (putNat 2 16383).length = 2 ∧ fieldNat 0 2 (putNat 2 16383) < 16384 ∧
      16384 ≤ fieldNat 0 2 (putNat 2 16384) := by decide +kernel

/-- Section 12.4: one entry left behind four, and an entry of SHOOT_DONE in its 18 bytes. -/
theorem test_notice_bytes :
    noticesData [⟨.shootDone, 2, 32768 * 3 + 1, 32768 * 4, some 258⟩] =
      [0, 1, 13, 2, 0, 0, 0, 3, 0, 1, 0, 0, 0, 4, 0, 0, 0, 0, 1, 2] ∧
      (noticesData (List.replicate 5 ⟨.planDone, 1, 0, 0, none⟩)).take 2 = [1, 4] := by decide +kernel

theorem witness_RaisesAddOrUpdateOneEntry :
    let off : Part := { base with tables :=
      { base.tables with general := { General.default with mask := 0 } } }
    noticesLawful base.notices ∧
      (off.tables.general.mask.getLsbD NoticeKind.planDone.index = false) ∧
      (base.tables.general.mask.getLsbD NoticeKind.shootDone.index = true) ∧
      (entryOf .shootDone base.notices = none ∧
        entryOf .coldStart base.notices = some ⟨.coldStart, 1, 0, 0, none⟩ ∧
        NoticeKind.planDone ≠ .coldStart) := by
  refine ⟨⟨by decide, by decide⟩, by decide +kernel, by decide +kernel, by decide +kernel⟩

theorem witness_RepliesLeaveInTurn :
    let s (next : Option HostFrame) : Part := { base with link :=
      { base.link with
        handled := some ⟨0x20#8, []⟩, waiting := next, reply := some ⟨0xA0#8, .ok []⟩ } }
    (base.awake = true ∧ (s none).replySentAt = some 0 ∧ (s none).reached 0 = true ∧
        (s none).link.softReset = false ∧ (s none).link.waiting = none) ∧
      ((s (some ⟨0x21#8, []⟩)).link.waiting = some ⟨0x21#8, []⟩ ∧
        (s (some ⟨0x21#8, []⟩)).replySentAt = some 0) ∧
      (requestFrame (.arm []) = some ⟨0x20#8, []⟩ ∧ (Instr.arm []).wellFormed = true ∧
        base.link.handled = none ∧ (s none).link.handled.isSome = true ∧
        (s (some ⟨0x21#8, []⟩)).link.waiting.isSome = true) := by decide +kernel

theorem witness_ReceiversTakeWholeFramesOnly :
    let full : Part := { base with link :=
      { base.link with handled := some ⟨0x20#8, []⟩, waiting := some ⟨0x21#8, []⟩ } }
    let half : Part := { base with link := { base.link with handled := some ⟨0x20#8, []⟩ } }
    (base.awake = true ∧ (List.replicate 250 (0 : Byte)).length ≤ 250 ∧ base.link.rx = [] ∧
        base.link.handled = none) ∧
      (half.link.handled.isSome = true ∧ half.link.waiting = none) ∧
      (full.link.handled.isSome = true ∧ full.link.waiting.isSome = true) ∧
      (let frame := frameBytes 0x20#8 [];
        let begun (ticks : BitVec 48) : Part := { base with
          link := { base.link with rx := frame.take 2 }
          time := { base.time with elapsed := ticks } };
        0 < 2 ∧ 2 < frame.length ∧ (begun 655).link.rx = frame.take 2 ∧
          (begun 655).reached ((begun 655).link.rxLast + 656#48) = false ∧
          (begun 656).reached ((begun 656).link.rxLast + 656#48) = true ∧
          (after (.hostFrameComplete (frame.drop 2)) (begun 655)).map (·.link.handled) =
            some (some ⟨0x20#8, []⟩) ∧
          (after (.hostFrameComplete (frame.drop 2)) (begun 656)).map (·.link.handled) =
            some none) ∧
      beNat [0#8, 0#8] ≠ (crc16 [0#8, 0x20#8]).toNat ∧
      (let p : Part := { base with time := { base.time with elapsed := 1639 } };
        p.reached (p.camera.rxLast + 1639#48) = true) ∧
      250 < (251#8 : Byte).toNat ∧ base.camera.rx = [] ∧
      discardedFrame [0xC3#8, 0#8, 0x61#8, 0#8, 0#8] = true := by decide +kernel

theorem witness_JournalAndNoticesStayLawful :
    let s : Part := { planned with journal := aJournal }
    (s.journal.Lawful ∧ noticesLawful s.notices) ∧ Instr.resetLine ≠ .coldStart ∧
      (∃ t, step ⟨s, [.resetLine]⟩ = .next t) ∧ ∃ t, exec .resetLine (st s) = .next t := by
  refine ⟨⟨by unfold Journal.Lawful; decide +kernel, by decide, by decide⟩, by decide, ⟨_, rfl⟩,
    ⟨_, rfl⟩⟩

theorem witness_JournalAndNoticesStayLawful_append :
    aJournal.Lawful ∧ aJournal.nextNumber ≤ 4294967294 ∧
      (⟨[], 4294967295, 0⟩ : Journal).Lawful ∧
      4294967294 < (⟨[], 4294967295, 0⟩ : Journal).nextNumber := by
  unfold Journal.Lawful; decide +kernel

theorem witness_PortAndLinesStayLawful :
    let o := manualIn (.exposing 9)
    let s : Part := { busy o planned with
      camera := { base.camera with focus := true, shutter := true } }
    s.PortLawful ∧ s.LinesLawful ∧ ∃ t, step ⟨s, [.holdElapsed]⟩ = .next t := by
  refine ⟨⟨rfl, rfl, ?_, fun _ => rfl⟩,
    ⟨fun _ => ⟨rfl, rfl⟩, fun _ => ⟨rfl, rfl⟩, ?_, ?_, fun _ => rfl⟩, _, rfl⟩
  · intro h; exact absurd h (by decide)
  · intro o h; cases h; rfl
  · intro h; exact absurd h (by decide)

theorem witness_ReadingsStayInRange :
    let o : Operation := { anOp .manual reporting 1 (.writing (.write 9)) with heldB := some 64 }
    let s : Part := { busy o planned with
      run := some { aRun with aPrev := some 160, bLast := some (-64, 8) } }
    s.ReadingsLawful ∧ ∃ t, step ⟨s, [.camActChange false]⟩ = .next t := by
  refine ⟨⟨fun v h => ?_, fun r h => ?_, fun o h => ?_, fun r h => ?_⟩, _, rfl⟩
  · exact absurd (show (none : Option Int) = some v from h) (by simp)
  · cases h; exact ⟨fun v h => by cases h; decide, fun v h => by cases h; decide⟩
  · cases h
    exact ⟨fun v h => by cases h; decide, fun v h => (by cases h), fun v h => (by cases h)⟩
  · cases h

end Sys2Proof.Tests
end

/-! PROOFS. The windows of the schedule (chapter 3): the occurrence in which an instant lies and its
admission (R32), and the active and the selected window (R34). Where an instant lies against the
moments of a day is read off its day number and its second of day, so that each form of a window is a
comparison of days and of seconds of day. -/

namespace Sys2Proof.Machine

/-! ### Instants by their day and second of day (R3) -/

/-- The instants are ordered as their days are, and in one day as their seconds of day are. -/
theorem instantOf_le_iff {day sod t : Nat} (h : sod < 86400) :
    instantOf day sod ≤ t ↔ day < dayOf t ∨ day = dayOf t ∧ sod ≤ sodOf t := by
  simp only [instantOf, dayOf, sodOf, Config.secondsPerDay, Config.ticksPerSecond]
  omega

theorem lt_instantOf_iff {day sod t : Nat} (h : sod < 86400) :
    t < instantOf day sod ↔ dayOf t < day ∨ dayOf t = day ∧ sodOf t < sod := by
  rw [← not_le, instantOf_le_iff h]
  omega

/-- Between two moments of one day. -/
theorem within_day_iff {d a b t : Nat} (ha : a < 86400) (hb : b < 86400) :
    instantOf d a ≤ t ∧ t < instantOf d b ↔ dayOf t = d ∧ a ≤ sodOf t ∧ sodOf t < b := by
  rw [instantOf_le_iff ha, lt_instantOf_iff hb]
  omega

/-- From a moment of one day to a moment of the next that is no later in its day. -/
theorem over_midnight_iff {d a b t : Nat} (ha : a < 86400) (hba : b ≤ a) :
    instantOf d a ≤ t ∧ t < instantOf (d + 1) b ↔
      dayOf t = d ∧ a ≤ sodOf t ∨ dayOf t = d + 1 ∧ sodOf t < b := by
  rw [instantOf_le_iff ha, lt_instantOf_iff (by omega)]
  omega

/-! ### The occurrence in which an instant lies (R32) -/

/-- The occurrence that a start day names, by the form of the window (R32). -/
def Window.occurrenceOf (w : Window) (d : Nat) : Occurrence where
  day := d
  start := instantOf d (if w.startSod = w.endSod then 0 else w.startSod)
  stop :=
    if w.startSod = w.endSod then instantOf (d + 1) 0
    else if w.startSod < w.endSod then instantOf d w.endSod
    else instantOf (d + 1) w.endSod

section Occurrences

variable {w : Window} {t d : Nat} {o : Occurrence}

theorem Window.occurrenceOf_inj {d' : Nat} : w.occurrenceOf d = w.occurrenceOf d' ↔ d = d' :=
  ⟨congrArg Occurrence.day, congrArg w.occurrenceOf⟩

theorem Occurrence.eq_occurrenceOf_iff :
    o = w.occurrenceOf o.day ↔
      o.start = (w.occurrenceOf o.day).start ∧ o.stop = (w.occurrenceOf o.day).stop := by
  cases o; simp [Window.occurrenceOf]

theorem occurrenceAt_wholeDay (h : w.startSod = w.endSod) :
    occurrenceAt w t = some (w.occurrenceOf (dayOf t)) := by
  simp [occurrenceAt, Window.occurrenceOf, h]

theorem occurrenceAt_plain (h : w.startSod < w.endSod) :
    occurrenceAt w t =
      if w.startSod ≤ sodOf t ∧ sodOf t < w.endSod then some (w.occurrenceOf (dayOf t)) else none := by
  simp [occurrenceAt, Window.occurrenceOf, h, h.ne]

/-- The part of day 0 before end_sod lies in no occurrence. -/
theorem occurrenceAt_wrapping (h : w.endSod < w.startSod) :
    occurrenceAt w t =
      if w.startSod ≤ sodOf t then some (w.occurrenceOf (dayOf t))
      else if sodOf t < w.endSod ∧ 0 < dayOf t then some (w.occurrenceOf (dayOf t - 1))
      else none := by
  simp only [occurrenceAt, Window.occurrenceOf, if_neg h.ne', if_neg h.not_gt]
  split_ifs with late early
  · rfl
  · rw [Nat.sub_add_cancel early.2]
  · rfl

/-- An occurrence is the one that its start day names. -/
theorem occurrenceAt_named (h : occurrenceAt w t = some o) : o = w.occurrenceOf o.day := by
  obtain ⟨d, rfl⟩ : ∃ d, o = w.occurrenceOf d := by
    rcases lt_trichotomy w.startSod w.endSod with plain | whole | wraps
    · rw [occurrenceAt_plain plain] at h; grind
    · rw [occurrenceAt_wholeDay whole] at h; grind
    · rw [occurrenceAt_wrapping wraps] at h; grind
  rfl

/-- An instant lies in the occurrence of day d just where it lies between the occurrence's moments. -/
theorem occurrenceAt_eq_occurrenceOf_iff (hs : w.startSod ≤ 86399) (he : w.endSod ≤ 86399) :
    occurrenceAt w t = some (w.occurrenceOf d) ↔
      (w.occurrenceOf d).start ≤ t ∧ t < (w.occurrenceOf d).stop := by
  rcases lt_trichotomy w.startSod w.endSod with plain | whole | wraps
  · have within : (w.occurrenceOf d).start ≤ t ∧ t < (w.occurrenceOf d).stop ↔
        dayOf t = d ∧ w.startSod ≤ sodOf t ∧ sodOf t < w.endSod := by
      simpa [Window.occurrenceOf, plain, plain.ne] using
        within_day_iff (d := d) (t := t) (Nat.lt_succ_of_le hs) (Nat.lt_succ_of_le he)
    simp [occurrenceAt_plain plain, within, Window.occurrenceOf_inj, and_comm]
  · have within : (w.occurrenceOf d).start ≤ t ∧ t < (w.occurrenceOf d).stop ↔ dayOf t = d := by
      simpa [Window.occurrenceOf, whole] using
        over_midnight_iff (d := d) (a := 0) (t := t) (by decide) le_rfl
    simp [occurrenceAt_wholeDay whole, within, Window.occurrenceOf_inj]
  · have within : (w.occurrenceOf d).start ≤ t ∧ t < (w.occurrenceOf d).stop ↔
        dayOf t = d ∧ w.startSod ≤ sodOf t ∨ dayOf t = d + 1 ∧ sodOf t < w.endSod := by
      simpa [Window.occurrenceOf, wraps.ne', wraps.not_gt] using
        over_midnight_iff (d := d) (t := t) (Nat.lt_succ_of_le hs) wraps.le
    rw [occurrenceAt_wrapping wraps, within]
    split_ifs <;> simp [Window.occurrenceOf_inj] <;> omega

theorem occurrenceAt_eq_some_iff (hs : w.startSod ≤ 86399) (he : w.endSod ≤ 86399) :
    occurrenceAt w t = some o ↔ o.start ≤ t ∧ t < o.stop ∧ o = w.occurrenceOf o.day := by
  constructor
  · intro h
    have named := occurrenceAt_named h
    rw [named, occurrenceAt_eq_occurrenceOf_iff hs he, ← named] at h
    exact ⟨h.1, h.2, named⟩
  · rintro ⟨hstart, hstop, named⟩
    rw [named] at hstart hstop ⊢
    exact (occurrenceAt_eq_occurrenceOf_iff hs he).2 ⟨hstart, hstop⟩

theorem startDayAdmitted_iff :
    startDayAdmitted w d = true ↔
      (∀ first last, w.dates = some (first, last) → first ≤ d ∧ d ≤ last) ∧
      w.weekdays.getLsbD (weekdayOf d) = true := by
  rcases h : w.dates with _ | ⟨first, last⟩
  · simp [startDayAdmitted, h]
  · have range : (∀ a b, some (first, last) = some (a, b) → a ≤ d ∧ d ≤ b) ↔ first ≤ d ∧ d ≤ last :=
      ⟨fun all => all _ _ rfl, by rintro within _ _ ⟨⟩; exact within⟩
    simp only [startDayAdmitted, h, range, Bool.and_eq_true, decide_eq_true_eq]

end Occurrences

/-- Settles O16: an occurrence is the one its start day names, and an instant lies in it just where it
lies between its moments. -/
theorem occurrencesAreThoseOfTheirStartDay : Obligations.OccurrencesAreThoseOfTheirStartDay := by
  refine ⟨fun _ _ => rfl, fun w t o hs he => ⟨?_, startDayAdmitted_iff⟩⟩
  rw [occurrenceAt_eq_some_iff hs he, Occurrence.eq_occurrenceOf_iff]
  rfl

/-! ### Active windows and the selected window (R34) -/

theorem Part.windowActive_iff (s : Part) (i : Fin 8) :
    s.windowActive i = true ↔
      (s.tables.windows.get i).enabled = true ∧
      (s.planAt (s.tables.windows.get i).plan).isSome = true ∧
      (∃ o, s.occurrenceNow i = some o ∧
        startDayAdmitted (s.tables.windows.get i) o.day = true) ∧
      gateSatisfied (s.tables.windows.get i) (s.gates.get i) = true ∧
      levelAdmits s.battery.level (s.tables.windows.get i) = true := by
  rw [Part.occurrenceNow]
  cases h : occurrenceAt (s.tables.windows.get i) s.now <;>
    simp [Part.windowActive, h, and_assoc]

/-- The selection is a search through the window numbers upward from 0. -/
theorem Part.selectedWindow_eq_find (s : Part) : s.selectedWindow = Fin.find? s.windowActive :=
  Fin.find?_eq_find?_finRange.symm

/-- Settles O18: the levels admit as `levelAdmits` gives case by case, and the search through the
window numbers stops at the first active one. -/
theorem selectedWindowIsTheLowestActive : Obligations.SelectedWindowIsTheLowestActive := by
  refine ⟨fun _ => ⟨rfl, rfl, Iff.rfl, rfl⟩,
    fun s => ⟨fun _ => rfl, s.windowActive_iff, fun w => ?_, ?_⟩⟩
  · rw [s.selectedWindow_eq_find, Fin.find?_eq_some_iff]
  · rw [s.selectedWindow_eq_find, Fin.find?_eq_none_iff]

end Sys2Proof.Machine

/-! PROOFS. The durations of the shutter indices (chapter 4): D(s) as its mantissa scaled by its
octave (R52), and D over all indices (R53). -/

namespace Sys2Proof.Machine

/-! ### A mantissa scaled by an octave (R52) -/

/-- The value m × 2^q, rounded half up where q is negative. -/
def scaleByOctave (m : Nat) : Int → Nat
  | .ofNat q => m * 2 ^ q
  | .negSucc n => (m + 2 ^ n) / 2 ^ (n + 1)

/-- A larger mantissa gives no smaller value. -/
theorem scaleByOctave_mono {m m' : Nat} (h : m ≤ m') (q : Int) :
    scaleByOctave m q ≤ scaleByOctave m' q := by
  cases q with
  | ofNat q => exact Nat.mul_le_mul_right _ h
  | negSucc n => exact Nat.div_le_div_right (Nat.add_le_add_right h _)

/-- Doubling a value and going up an octave are the same, the rounding included. -/
theorem scaleByOctave_two_mul (m : Nat) :
    ∀ q : Int, scaleByOctave (2 * m) q = scaleByOctave m (q + 1)
  | .ofNat q => by
    change 2 * m * 2 ^ q = m * 2 ^ (q + 1)
    ring
  | .negSucc 0 => by
    change (2 * m + 1) / 2 = m * 1
    omega
  | .negSucc (n + 1) => by
    have doubled : 2 * m + 2 ^ (n + 1) = 2 * (m + 2 ^ n) := by ring
    change (2 * m + 2 ^ (n + 1)) / 2 ^ (n + 2) = (m + 2 ^ n) / 2 ^ (n + 1)
    rw [doubled, Nat.pow_succ' (n := n + 1), Nat.mul_div_mul_left _ _ two_pos]

/-! ### The mantissas span one octave (R52) -/

theorem mantissa_le_succ : ∀ r ≤ 6, mantissa r ≤ mantissa (r + 1) := by decide

theorem mantissa_seven_le : mantissa 7 ≤ 2 * mantissa 0 := by decide

/-! ### D(s) (R52, R53) -/

theorem duration_eq_scaleByOctave (s : Int) :
    duration s = scaleByOctave (mantissa (s % 8).toNat) (s / 8) := by
  unfold duration
  cases s / 8 <;> rfl

theorem duration_eight_mul_add (q : Int) {r : Nat} (hr : r ≤ 7) :
    duration (8 * q + r) = scaleByOctave (mantissa r) q := by
  have octave : (8 * q + r) / 8 = q := by omega
  have eighth : ((8 * q + r) % 8).toNat = r := by omega
  rw [duration_eq_scaleByOctave, octave, eighth]

theorem exists_eq_eight_mul_add (s : Int) : ∃ (q : Int) (r : Nat), r ≤ 7 ∧ s = 8 * q + r :=
  ⟨s / 8, (s % 8).toNat, by omega, by omega⟩

/-- One index up is a larger mantissa of the same octave, or from the last mantissa to the first of
the next octave, which is twice the first of this one. -/
theorem duration_le_succ (s : Int) : duration s ≤ duration (s + 1) := by
  obtain ⟨q, r, hr, rfl⟩ := exists_eq_eight_mul_add s
  obtain within | rfl : r ≤ 6 ∨ r = 7 := by omega
  · have next : 8 * q + r + 1 = 8 * q + (r + 1 : Nat) := by push_cast; ring
    rw [next, duration_eight_mul_add q hr, duration_eight_mul_add q (Nat.succ_le_succ within)]
    exact scaleByOctave_mono (mantissa_le_succ r within) q
  · have next : 8 * q + (7 : Nat) + 1 = 8 * (q + 1) + (0 : Nat) := by push_cast; ring
    rw [next, duration_eight_mul_add q hr, duration_eight_mul_add (q + 1) (Nat.zero_le 7),
      ← scaleByOctave_two_mul]
    exact scaleByOctave_mono mantissa_seven_le q

theorem duration_monotone : Monotone duration := monotone_int_of_le_succ duration_le_succ

/-- Settles O27: D(s) is its mantissa scaled by its octave, and no step from one index to the next
lowers it. -/
theorem durationNeverFalls : Obligations.DurationNeverFalls := by
  refine ⟨by decide, fun r q hr => duration_eight_mul_add q hr, fun r q hr hq => ?_,
    fun _ _ hst => duration_monotone hst⟩
  obtain ⟨n, rfl⟩ := Nat.exists_eq_add_of_le' hq
  have below : (r : Int) - 8 * (n + 1 : Nat) = 8 * Int.negSucc n + r := by omega
  rw [below, duration_eight_mul_add _ hr]
  rfl

end Sys2Proof.Machine


/-! PROOFS. What the operations on the run leave alone beside `Kept`: the operation, the camera's lines,
lending, the battery supervisor, the requests from outside and every holder but KEEP_WARM; and that they
bring no reading out of its range into the run or the journal. -/

namespace Sys2Proof.Machine

/-! ### Readings in range, block by block (R44, R65, R97, R168) -/

/-- The readings of a run: A_prev and B_last. -/
def Run.InRange (r : Run) : Prop := ambientInRange r.aPrev ∧ brightnessInRange (r.bLast.map (·.1))

/-- The readings of an operation: the held B, the B of its newest TAKEN frame and its A_now. -/
def Operation.InRange (o : Operation) : Prop :=
  brightnessInRange o.heldB ∧ brightnessInRange (o.newest.bind (·.1)) ∧
    ambientInRange (o.comp.bind (·.aNow))

/-- The readings of a frame record. -/
def FrameRecord.InRange (r : FrameRecord) : Prop := brightnessInRange r.b ∧ ambientInRange r.a

/-- The readings of a journal. -/
def Journal.InRange (j : Journal) : Prop := ∀ r ∈ j.records, r.InRange

theorem readingsLawful_iff {s : Part} :
    s.ReadingsLawful ↔ ambientInRange (s.meter.latest.map (·.a)) ∧ (∀ r ∈ s.run, r.InRange) ∧
      (∀ o ∈ s.op, o.InRange) ∧ s.journal.InRange := Iff.rfl

@[simp] theorem ambientInRange_none : ambientInRange none := by simp [ambientInRange]

@[simp] theorem brightnessInRange_none : brightnessInRange none := by simp [brightnessInRange]

/-! ### The journal's operations and readings -/

theorem inRange_closeNewest {rs : List FrameRecord} (h : ∀ r ∈ rs, r.InRange) :
    ∀ r ∈ closeNewest rs, r.InRange := by
  fun_induction closeNewest rs <;> simp_all [FrameRecord.InRange]

theorem inRange_extendNewest {due : Nat} {rs : List FrameRecord} (h : ∀ r ∈ rs, r.InRange) :
    ∀ r ∈ extendNewest due rs, r.InRange := by
  fun_induction extendNewest due rs <;> simp_all [FrameRecord.InRange]

theorem Journal.InRange.close {j : Journal} (h : j.InRange) : j.close.InRange :=
  inRange_closeNewest h

theorem Journal.InRange.atAppend {j : Journal} (h : j.InRange) : j.atAppend.InRange := by
  unfold Journal.atAppend
  split
  · simp [Journal.InRange]
  · exact h

theorem Journal.InRange.append {j : Journal} {rec : FrameRecord} (h : j.InRange)
    (hr : rec.InRange) : (j.append rec).InRange := by
  have closed := inRange_closeNewest h.atAppend
  intro r hm
  rw [Journal.append_records, List.mem_append, List.mem_singleton] at hm
  obtain hm | rfl := hm
  · split at hm
    · exact closed r hm
    · exact closed r (List.mem_of_mem_drop hm)
  · exact hr

theorem missedRecord_inRange (source : Source) (plan : Fin 16) (window : Option (Fin 8)) (due : Nat)
    (merged : Option Nat) (reason : MissReason) (isOpen : Bool) :
    (missedRecord source plan window due merged reason isOpen).InRange := by
  simp [FrameRecord.InRange, missedRecord]

theorem Journal.InRange.miss {j : Journal} (h : j.InRange) (r : Run) (due : Nat)
    (reason : MissReason) : (j.miss r due reason).InRange := by
  obtain ⟨rec, -, -, e⟩ | ⟨-, e⟩ := Journal.miss_cases r due reason j <;> rw [e]
  · exact inRange_extendNewest h
  · exact h.append (missedRecord_inRange ..)

/-! ### The frame of the operations on the run -/

/-- What an operation on the run leaves alone beside what `Kept` names, where `fed` is the feedback that
it may bring into the run. -/
structure RunFrame (fed : Option (Int × Int)) (s t : Part) : Prop where
  op : t.op = s.op
  camera : t.camera = s.camera
  lending : t.lending = s.lending
  battery : t.battery = s.battery
  latest : t.meter.latest = s.meter.latest
  arbiter : t.arbiter = { s.arbiter with schedule := t.arbiter.schedule }
  holders : t.holders = { s.holders with keepWarm := t.holders.keepWarm }
  run : brightnessInRange (fed.map (·.1)) → (∀ r ∈ s.run, r.InRange) → ∀ r ∈ t.run, r.InRange
  journal : s.journal.InRange → t.journal.InRange

namespace RunFrame

variable {fed : Option (Int × Int)} {s t u : Part}

theorem refl (s : Part) : RunFrame fed s s :=
  ⟨rfl, rfl, rfl, rfl, rfl, rfl, rfl, fun _ h => h, id⟩

theorem trans (h : RunFrame fed s t) (h' : RunFrame fed t u) : RunFrame fed s u where
  op := h'.op.trans h.op
  camera := h'.camera.trans h.camera
  lending := h'.lending.trans h.lending
  battery := h'.battery.trans h.battery
  latest := h'.latest.trans h.latest
  arbiter := h'.arbiter.trans (by rw [h.arbiter])
  holders := h'.holders.trans (by rw [h.holders])
  run hf := h'.run hf ∘ h.run hf
  journal := h'.journal ∘ h.journal

theorem via (h' : RunFrame fed t u) (h : RunFrame fed s t) : RunFrame fed s u := h.trans h'

/-- Lawful readings stay lawful. -/
theorem readings (h : RunFrame fed s t) (hf : brightnessInRange (fed.map (·.1)))
    (hs : s.ReadingsLawful) : t.ReadingsLawful := by
  obtain ⟨latest, run, op, journal⟩ := readingsLawful_iff.mp hs
  exact readingsLawful_iff.mpr
    ⟨by rwa [h.latest], h.run hf run, by rwa [h.op], h.journal journal⟩

end RunFrame

variable {fed : Option (Int × Int)}

/-- An edit of the counters, marks and notices beside the run. -/
theorem frame_edit (s : Part) {runCount : Nat} {lastBase : Option (Fin 16 × Int)}
    {doneMark : Option DoneMark} {notices : List Notice} {schedule : Option Request}
    {keepWarm : Bool} :
    RunFrame fed s { s with
      runCount := runCount, lastBase := lastBase, doneMark := doneMark, notices := notices
      arbiter := { s.arbiter with schedule := schedule }
      holders := { s.holders with keepWarm := keepWarm } } :=
  ⟨rfl, rfl, rfl, rfl, rfl, rfl, rfl, fun _ h => h, id⟩

/-- A run whose readings are those of the run before it, or none. -/
theorem frame_run {s : Part} {r' : Run}
    (h : (∀ r ∈ s.run, r.InRange) → r'.InRange) : RunFrame fed s { s with run := some r' } :=
  ⟨rfl, rfl, rfl, rfl, rfl, rfl, rfl, fun _ hs r hr => by cases hr; exact h hs, id⟩

theorem frame_mapRun (s : Part) {f : Run → Run} (h : ∀ r : Run, r.InRange → (f r).InRange) :
    RunFrame fed s { s with run := s.run.map f } := by
  refine ⟨rfl, rfl, rfl, rfl, rfl, rfl, rfl, fun _ hs r hr => ?_, id⟩
  obtain ⟨q, hq, rfl⟩ := Option.mem_map.mp hr
  exact h q (hs q hq)

theorem frame_journal (s : Part) {j : Journal} (h : s.journal.InRange → j.InRange) :
    RunFrame fed s { s with journal := j } :=
  ⟨rfl, rfl, rfl, rfl, rfl, rfl, rfl, fun _ h => h, h⟩

theorem raiseNotice_frame (k : NoticeKind) (d : Option Nat) (s : Part) :
    RunFrame fed s (raiseNotice k d s) := by
  rw [raiseNotice_eq]
  exact frame_edit s

theorem dropKeepWarm_frame (s : Part) : RunFrame fed s (dropKeepWarm s) := frame_edit s

theorem withdrawSchedule_frame (s : Part) : RunFrame fed s (withdrawSchedule s) := frame_edit s

theorem forgetWake_frame (s : Part) : RunFrame fed s (forgetWake s) := frame_mapRun s fun _ h => h

theorem setEngine_frame (e : EngineState) (s : Part) : RunFrame fed s (setEngine e s) := by
  have h : RunFrame fed s { s with engine := e } :=
    ⟨rfl, rfl, rfl, rfl, rfl, rfl, rfl, fun _ h => h, id⟩
  unfold setEngine
  split
  · exact h
  · exact h.trans ((withdrawSchedule_frame _).trans
      ((dropKeepWarm_frame _).trans (forgetWake_frame _)))

theorem readIfIdle_frame (s : Part) : RunFrame fed s (readIfIdle s) := by
  unfold readIfIdle beginReading
  split
  · exact ⟨rfl, rfl, rfl, rfl, rfl, rfl, rfl, fun _ h => h, id⟩
  all_goals exact .refl s

theorem takeWakeTime_frame {r : Run} {s : Part} (h : (∀ r ∈ s.run, r.InRange) → r.InRange) :
    RunFrame fed s (takeWakeTime r s) :=
  (readIfIdle_frame _).via (frame_run h)

theorem noteNextDue_frame (s : Part) : RunFrame fed s (noteNextDue s) := by
  unfold noteNextDue
  split
  · exact .refl s
  · next r hr =>
    have same : (∀ r ∈ s.run, r.InRange) → r.InRange := fun h => h r hr
    repeat' split
    all_goals first
      | exact .refl s
      | exact takeWakeTime_frame same
      | exact frame_run same

theorem fillSchedule_frame {r : Run} {s : Part} (h : s.run = some r) :
    RunFrame fed s (fillSchedule r s) :=
  ⟨rfl, rfl, rfl, rfl, rfl, rfl, rfl, fun _ hs q hq => by cases hq; exact hs r h, id⟩

theorem raiseSchedule_frame (s : Part) : RunFrame fed s (raiseSchedule s) := by
  unfold raiseSchedule
  split
  · exact .refl s
  · next r hr =>
    split
    · exact fillSchedule_frame hr
    · exact .refl s

theorem raiseAtHandover_frame (s : Part) : RunFrame fed s (raiseAtHandover s) := by
  unfold raiseAtHandover
  split
  · next r hr =>
    split
    · exact fillSchedule_frame hr
    · exact .refl s
  · exact .refl s

theorem frame_noRun (s : Part) {lastBase : Option (Fin 16 × Int)} {doneMark : Option DoneMark} :
    RunFrame fed s { s with run := none, lastBase := lastBase, doneMark := doneMark } :=
  ⟨rfl, rfl, rfl, rfl, rfl, rfl, rfl, fun _ _ _ hr => absurd hr (by simp), id⟩

theorem finishRun_frame (s : Part) : RunFrame fed s (finishRun s) := by
  unfold finishRun
  split
  · exact .refl s
  · exact (frame_noRun s).trans ((withdrawSchedule_frame _).trans
      ((dropKeepWarm_frame _).trans (raiseNotice_frame _ _ _)))

theorem enterEnding_frame (s : Part) : RunFrame fed s (enterEnding s) := by
  unfold enterEnding
  split
  · exact .refl s
  · next r hr =>
    have ending : RunFrame fed s { s with run := some { r with state := .ending } } :=
      frame_run fun h => h r hr
    exact ending.trans ((withdrawSchedule_frame _).trans (dropKeepWarm_frame _))

theorem endRun_frame (s : Part) : RunFrame fed s (endRun s) := by
  unfold endRun
  split
  · exact enterEnding_frame s
  · exact finishRun_frame s

theorem startRun_frame (w : Fin 8) (o : Occurrence) (s : Part) :
    RunFrame fed s (startRun w o s) := by
  unfold startRun
  extract_lets planIx
  split
  · exact .refl s
  · extract_lets
    refine (noteNextDue_frame _).via ((raiseNotice_frame _ _ _).via ?_)
    refine ⟨rfl, rfl, rfl, rfl, rfl, rfl, rfl, fun _ _ q hq => ?_, fun h => ?_⟩
    · cases hq
      exact ⟨ambientInRange_none, brightnessInRange_none⟩
    · dsimp only
      split
      · exact h.close
      · exact h

theorem startSelected_frame (sel : Option (Fin 8)) (s : Part) :
    RunFrame fed s (startSelected sel s) := by
  unfold startSelected
  repeat' split
  all_goals first
    | exact .refl s
    | exact startRun_frame _ _ s

theorem reEvaluate_frame (s : Part) : RunFrame fed s (reEvaluate s) := by
  unfold reEvaluate
  extract_lets sel t
  have h : RunFrame fed s t := frame_edit s
  refine h.trans ?_
  repeat' split
  all_goals first
    | exact .refl _
    | exact startSelected_frame _ _
    | exact (endRun_frame _).trans (startSelected_frame _ _)
    | exact endRun_frame _

theorem finishByAction_frame (s : Part) : RunFrame fed s (finishByAction s) := by
  unfold finishByAction
  extract_lets t
  have h : RunFrame fed s t := frame_mapRun s fun _ h => h
  repeat' split
  all_goals first
    | exact h.trans (finishRun_frame _)
    | exact h.trans (enterEnding_frame _)

theorem endAction_frame {p : Plan} {due : Nat} {r : Run} {s : Part}
    (h : brightnessInRange (fed.map (·.1)) → (∀ r ∈ s.run, r.InRange) → r.InRange) :
    RunFrame fed s (endAction p due r s) := by
  have put (q : Run) (e : q.InRange = r.InRange) : RunFrame fed s { s with run := some q } :=
    ⟨rfl, rfl, rfl, rfl, rfl, rfl, rfl, fun hf hs x hx => by cases hx; exact e ▸ h hf hs, id⟩
  have here := put r rfl
  unfold endAction
  extract_lets target t
  repeat' split
  all_goals first
    | exact here
    | exact put _ rfl
    | exact here.trans (finishByAction_frame _)
    | exact (raiseNotice_frame _ _ _).via here
    | exact (raiseNotice_frame _ _ _).via (put _ rfl)
    | exact (raiseNotice_frame _ _ _).via ((finishByAction_frame _).via here)

theorem stepDue_frame (s : Part) : RunFrame fed s (stepDue fed s) := by
  unfold stepDue
  split
  · exact .refl s
  · next r hr =>
    have fedRun : brightnessInRange (fed.map (·.1)) → (∀ r ∈ s.run, r.InRange) →
        ({ r with bLast := fed } : Run).InRange := fun hf hs => ⟨(hs r hr).1, hf⟩
    have put (q : Run) (e : q.InRange = ({ r with bLast := fed } : Run).InRange) :
        RunFrame fed s { s with run := some q } :=
      ⟨rfl, rfl, rfl, rfl, rfl, rfl, rfl, fun hf hs x hx => by cases hx; exact e ▸ fedRun hf hs, id⟩
    split
    · exact put _ rfl
    · extract_lets left r'
      split
      · exact endAction_frame fedRun
      · exact put _ rfl

theorem RunFrame.weaken {s t : Part} (h : RunFrame none s t) : RunFrame fed s t :=
  { h with run := fun _ => h.run brightnessInRange_none }

theorem consumeDue_frame (s : Part) : RunFrame fed s (consumeDue (.byOperation fed) s) := by
  unfold consumeDue
  split
  · exact .refl s
  · exact stepDue_frame s

theorem consumeMissed_frame (reason : MissReason) (s : Part) :
    RunFrame fed s (consumeDue (.missed reason) s) := by
  unfold consumeDue
  split
  · exact .refl s
  · next r _ =>
    have missed : RunFrame fed s { s with journal := s.journal.miss r r.nextDue reason } :=
      frame_journal s fun h => h.miss r r.nextDue reason
    exact missed.trans ((withdrawSchedule_frame _).trans ((dropKeepWarm_frame _).trans
      (stepDue_frame _).weaken))

theorem missPassed_frame (n : Nat) (s : Part) : RunFrame fed s (missPassed n s) := by
  induction n generalizing s with
  | zero => exact .refl s
  | succ n ih =>
    unfold missPassed
    extract_lets t
    have noted : RunFrame fed s t := noteNextDue_frame s
    split
    · exact noted.trans ((consumeMissed_frame _ _).trans (ih _))
    · exact noted

theorem afterConsumption_frame (s : Part) : RunFrame fed s (afterConsumption s) :=
  missPassed_frame _ s

theorem consumePassed_frame (reason : MissReason) (n : Nat) (s : Part) :
    RunFrame fed s (consumePassed reason n s) := by
  induction n generalizing s with
  | zero => exact .refl s
  | succ n ih =>
    unfold consumePassed
    split
    · exact (consumeMissed_frame _ s).trans (ih _)
    · exact .refl s

theorem catchUp_frame (reason : MissReason) (s : Part) : RunFrame fed s (catchUp reason s) :=
  (withdrawSchedule_frame s).trans (consumePassed_frame _ _ _)

end Sys2Proof.Machine


/-! PROOFS. The port law, the line law and the readings through the capture engine, lending and the
battery supervisor, up to the tail of a step (R89, R95, R108, R121, R124, R157; R65, R97, R111). -/

namespace Sys2Proof.Machine

/-! ### The laws that go together -/

/-- The port law and the line law, which the steps keep together. -/
def Part.Wired (s : Part) : Prop := s.PortLawful ∧ s.LinesLawful

/-- FOCUS and SHUTTER are inactive. -/
def Part.Dark (s : Part) : Prop := s.camera.focus = false ∧ s.camera.shutter = false

/-- What keeps the port law with the line law, and the law on readings. -/
structure Sound (s t : Part) : Prop where
  wired : s.Wired → t.Wired
  readings : s.ReadingsLawful → t.ReadingsLawful

namespace Sound

variable {s t u : Part}

theorem refl (s : Part) : Sound s s := ⟨id, id⟩

theorem trans (h : Sound s t) (h' : Sound t u) : Sound s u :=
  ⟨h'.wired ∘ h.wired, h'.readings ∘ h.readings⟩

theorem via (h' : Sound t u) (h : Sound s t) : Sound s u := h.trans h'

end Sound

/-- The laws read the fields named here and no other. -/
theorem Part.Wired.congr {s t : Part} (h : s.Wired) (lending : t.lending = s.lending)
    (op : t.op = s.op) (camera : t.camera = s.camera) (rehearsal : t.rehearsal = s.rehearsal)
    (awake : t.awake = s.awake) : t.Wired := by
  simpa only [Part.Wired, Part.PortLawful, Part.LinesLawful, lending, op, camera, rehearsal, awake]
    using h

/-- What the operations on the run keep. -/
theorem RunFrame.sound {b : Bool} {fed : Option (Int × Int)} {s t : Part} (h : RunFrame fed s t)
    (k : Kept b s t) (hf : s.ReadingsLawful → brightnessInRange (fed.map (·.1))) : Sound s t :=
  ⟨fun w => w.congr h.lending h.op h.camera k.rehearsal k.awake, fun r => h.readings (hf r) r⟩

theorem Sound.ofRun {s t : Part} (k : Kept true s t) (h : RunFrame none s t) : Sound s t :=
  h.sound k fun _ => brightnessInRange_none

/-- An edit of fields that no law here reads. -/
theorem sound_edit (s : Part) {engine : EngineState} {runCount : Nat}
    {lastBase : Option (Fin 16 × Int)} {doneMark : Option DoneMark} {arbiter : Arbiter}
    {holders : Holders} {health : Health} {failCount : Nat} {battery : Battery}
    {notices : List Notice} {link : HostLink} {pins : Pins} {hold : Bool} {time : TimeBase}
    {tables : Tables} {gates : Vector Bool 8} :
    Sound s { s with
      engine := engine, runCount := runCount, lastBase := lastBase, doneMark := doneMark
      arbiter := arbiter, holders := holders, health := health, failCount := failCount
      battery := battery, notices := notices, link := link, pins := pins, hold := hold
      time := time, tables := tables, gates := gates } :=
  ⟨fun w => w.congr rfl rfl rfl rfl rfl, id⟩

/-! ### Operations that may stand in the part -/

/-- What the laws ask of an operation put in the place of the present one. -/
structure Part.Takes (s : Part) (o : Operation) : Prop where
  rehearsal : s.Wired → o.rehearsal = s.rehearsal
  awake : s.Wired → s.awake = true
  port : s.Wired → s.lending.port.hostSide = false
  wake : s.Wired → s.lending.wake = none
  readings : s.ReadingsLawful → o.InRange

theorem Part.takes_op {s : Part} {o : Operation} (h : s.op = some o) : s.Takes o where
  rehearsal w := w.2.2.2.1 o h
  awake w := by
    by_contra asleep
    simpa [h] using w.2.2.2.2.1 (by simpa using asleep)
  port w := w.1.2.2.2 (by simp [h])
  wake w := by
    by_contra running
    simpa [h] using (w.1.2.2.1 (Option.isSome_iff_ne_none.mpr running)).2
  readings r := r.2.2.1 o h

theorem Part.Takes.edit {s : Part} {o q : Operation} (h : s.Takes o)
    (hr : q.rehearsal = o.rehearsal) (hi : o.InRange → q.InRange) : s.Takes q :=
  ⟨fun w => hr.trans (h.rehearsal w), h.awake, h.port, h.wake, fun r => hi (h.readings r)⟩

/-- The operation and the camera's port edited together: an active line calls for its phase out of
rehearsal, and a SET being sent for no rehearsal. -/
theorem sound_op {s : Part} {o : Operation} {camera : CameraPort} (h : s.Takes o)
    (shutter : s.Wired → camera.shutter = true → o.isExposing = true ∧ s.rehearsal = false)
    (focus : s.Wired → camera.focus = true → o.holdsFocus = true ∧ s.rehearsal = false)
    (tx : s.Wired → s.rehearsal = true → camera.tx = none) :
    Sound s { s with op := some o, camera := camera } := by
  refine ⟨fun w => ⟨⟨w.1.1, w.1.2.1, ?_, fun _ => h.port w⟩, ?_⟩, fun r => ?_⟩
  · simp [h.wake w]
  · have awake : s.awake = true := h.awake w
    refine ⟨by simpa using shutter w, by simpa using focus w, ?_, fun asleep => ?_, fun e => ?_⟩
    · rintro q ⟨⟩
      exact h.rehearsal w
    · exact absurd (awake.symm.trans asleep) (by simp)
    · exact e.elim (tx w) fun asleep => absurd (awake.symm.trans asleep) (by simp)
  · obtain ⟨latest, run, -, journal⟩ := readingsLawful_iff.mp r
    exact readingsLawful_iff.mpr
      ⟨latest, run, fun q hq => by cases hq; exact h.readings r, journal⟩

theorem Part.Wired.tx {s : Part} (w : s.Wired) (h : s.rehearsal = true) : s.camera.tx = none :=
  w.2.2.2.2.2 (.inl h)

/-- The operation edited with the lines inactive. -/
theorem sound_op_dark {s : Part} {o : Operation} (h : s.Takes o) (dark : s.Wired → s.Dark) :
    Sound s { s with op := some o } :=
  sound_op (camera := s.camera) h (fun w e => absurd e (by simp [(dark w).2]))
    (fun w e => absurd e (by simp [(dark w).1])) (fun w => w.tx)

/-- The operation edited in its present phase. -/
theorem sound_op_samePhase {s : Part} {o q : Operation} (h : s.op = some o) (hq : s.Takes q)
    (phase : q.phase = o.phase) : Sound s { s with op := some q } := by
  have exposing : q.isExposing = o.isExposing := by simp only [Operation.isExposing, phase]
  have focusing : q.holdsFocus = o.holdsFocus := by simp only [Operation.holdsFocus, phase]
  refine sound_op (camera := s.camera) hq (fun w e => ?_) (fun w e => ?_) (fun w => w.tx)
  · simpa [h, exposing] using w.2.1 e
  · simpa [h, focusing] using w.2.2.1 e

/-- No line is active with no operation in FOCUSING or EXPOSING. -/
theorem Part.Wired.dark {s : Part} (w : s.Wired) (h : s.op.any Operation.holdsFocus = false) :
    s.Dark := by
  refine ⟨Bool.eq_false_iff.mpr fun e => ?_, Bool.eq_false_iff.mpr fun e => ?_⟩
  · exact absurd (w.2.2.1 e).1 (by simp [h])
  · have exposing := (w.2.1 e).1
    cases ho : s.op with
    | none => simp [ho] at exposing
    | some o =>
      cases hp : o.phase <;>
        simp_all [Operation.holdsFocus, Operation.isExposing]

theorem Part.Wired.dark_of {s : Part} {o : Operation} (w : s.Wired) (h : s.op = some o)
    (hf : o.holdsFocus = false) : s.Dark := w.dark (by simp [h, hf])

/-- The operation leaves with the lines inactive, and lend_allowed is set. -/
theorem sound_release {s : Part} {allowed : Bool} (dark : s.Wired → s.Dark) :
    Sound s { s with op := none, lending := { s.lending with allowed := allowed } } := by
  refine ⟨fun w => ⟨⟨w.1.1, w.1.2.1, fun e => ⟨(w.1.2.2.1 e).1, rfl⟩, by simp⟩, ?_⟩, fun r => ?_⟩
  · obtain ⟨focus, shutter⟩ := dark w
    exact ⟨fun e => absurd e (by simp [shutter]), fun e => absurd e (by simp [focus]), by simp,
      fun _ => rfl, w.2.2.2.2.2⟩
  · exact ⟨r.1, r.2.1, by simp, r.2.2.2⟩

/-! ### The phases of a frame -/

theorem releaseLines_sound (s : Part) : Sound s (releaseLines s) := by
  refine ⟨fun w => ⟨w.1, ?_⟩, id⟩
  obtain ⟨-, -, rehearsal, asleep, tx⟩ := w.2
  exact ⟨fun e => absurd e (by simp), fun e => absurd e (by simp), rehearsal, asleep, tx⟩

theorem releaseLines_dark (s : Part) : (releaseLines s).Dark := ⟨rfl, rfl⟩

theorem aNow_inRange {s : Part} (h : s.ReadingsLawful) : ambientInRange s.aNow := h.1

theorem baseUpdate_aPrev_inRange {p : Plan} {targetB low high : Int} {eBase aPrev aNow : Option Int}
    {bLast : Option (Int × Int)} {lastBase : Option (Fin 16 × Int)} (hp : ambientInRange aPrev)
    (hn : ambientInRange aNow) :
    ambientInRange (baseUpdate p targetB low high eBase aPrev aNow bLast lastBase).aPrev := by
  cases eBase <;> cases aNow <;> assumption

/-- The run edited to one whose readings are in range. -/
theorem sound_run {s : Part} {r : Run} (h : s.ReadingsLawful → r.InRange) :
    Sound s { s with run := some r } :=
  ⟨fun w => w.congr rfl rfl rfl rfl rfl, fun l => ⟨l.1, fun q hq => by cases hq; exact h l, l.2.2⟩⟩

theorem computeDue_sound {o : Operation} {r : Run} {p : Plan} {s : Part} (h : s.op = some o)
    (hr : s.run = some r) : Sound s (computeDue o r p s) := by
  unfold computeDue
  extract_lets reduced offsets f e u c
  have ran : Sound s { s with run := some { r with eBase := some u.eBase, aPrev := u.aPrev } } :=
    sound_run fun l =>
      ⟨baseUpdate_aPrev_inRange (l.2.1 r hr).1 (aNow_inRange l), (l.2.1 r hr).2⟩
  have computed : s.Takes { o with comp := some c, reduced := reduced } :=
    { Part.takes_op h with
      readings := fun l => ⟨(l.2.2.1 o h).1, (l.2.2.1 o h).2.1, aNow_inRange l⟩ }
  have put := sound_op_samePhase h computed rfl
  exact ⟨fun w => (put.wired w).congr rfl rfl rfl rfl rfl,
    fun l => ⟨l.1, (ran.readings l).2.1, (put.readings l).2.2⟩⟩

theorem computeOperation_sound {o : Operation} {p : Plan} {s : Part} (h : s.op = some o) :
    Sound s (computeOperation o p s) :=
  sound_op_samePhase h
    { Part.takes_op h with
      readings := fun l => ⟨(l.2.2.1 o h).1, (l.2.2.1 o h).2.1, aNow_inRange l⟩ } rfl

theorem enterExposing_sound {o : Operation} {s : Part} (h : s.Takes o) :
    Sound s (enterExposing o s) := by
  refine sound_op (h.edit rfl id) (fun w e => ⟨rfl, ?_⟩) (fun w e => ⟨rfl, ?_⟩) (fun w => w.tx)
  all_goals simpa [← h.rehearsal w] using e

theorem enterFocusing_sound {o : Operation} {s : Part} (h : s.Takes o) (dark : s.Wired → s.Dark) :
    Sound s (enterFocusing o s) := by
  unfold enterFocusing
  split
  · exact enterExposing_sound h
  · refine sound_op (h.edit rfl id) (fun w e => absurd e (by simp [(dark w).2]))
      (fun w e => ⟨rfl, ?_⟩) (fun w => w.tx)
    simpa [← h.rehearsal w] using e

theorem enterSetting_sound {o : Operation} {s : Part} (h : s.Takes o) (dark : s.Wired → s.Dark)
    (hr : o.rehearsal = false) : Sound s (enterSetting o s) :=
  sound_op (h.edit rfl id) (fun w e => absurd e (by simp [(dark w).2]))
    (fun w e => absurd e (by simp [(dark w).1]))
    (fun w e => absurd ((h.rehearsal w).trans e) (by simp [hr]))

theorem beginFrame_sound {s : Part} (dark : s.Wired → s.Dark) : Sound s (beginFrame s) := by
  unfold beginFrame
  split
  · exact .refl s
  · next o ho =>
    extract_lets q
    have takes : s.Takes q :=
      (Part.takes_op ho).edit rfl fun h => ⟨brightnessInRange_none, h.2⟩
    split
    · next hq => exact enterSetting_sound takes dark hq.2
    · exact enterFocusing_sound takes dark

theorem endWaiting_sound (s : Part) : Sound s (endWaiting s) := by
  unfold endWaiting
  split
  · next o r ho hr =>
    split
    · next p hp _ =>
      refine (computeDue_sound ho hr).trans (beginFrame_sound fun w => ?_)
      exact w.dark_of rfl (by simp [Operation.holdsFocus, hp])
    · exact .refl s
  · exact .refl s

theorem enterWaiting_sound {o : Operation} {s : Part} (h : s.Takes o) (dark : s.Wired → s.Dark) :
    Sound s (enterWaiting o s) := by
  unfold enterWaiting
  extract_lets t
  have waits : Sound s t := sound_op_dark (h.edit rfl id) dark
  repeat' split
  all_goals first
    | exact waits
    | exact waits.trans (endWaiting_sound _)

theorem Operation.holdsFocus_of_waking {o : Operation} (h : o.phase.isWaking = true) :
    o.holdsFocus = false := by
  cases hp : o.phase <;> simp_all [Operation.holdsFocus, Phase.isWaking]

theorem leaveWaking_sound {o : Operation} {s : Part} (h : s.op = some o)
    (hw : o.phase.isWaking = true) : Sound s (leaveWaking o s) := by
  have unfocused := Operation.holdsFocus_of_waking hw
  have computed (p : Plan) : Sound s (beginFrame (computeOperation o p s)) :=
    (computeOperation_sound h).trans (beginFrame_sound fun w => w.dark_of rfl unfocused)
  unfold leaveWaking
  split
  · exact enterWaiting_sound (Part.takes_op h) fun w => w.dark_of h unfocused
  · exact computed _
  · exact computed _
  all_goals exact .refl s

theorem endWaking_sound (s : Part) : Sound s (endWaking s) := by
  unfold endWaking
  split
  · next o ho =>
    split
    · next hp => exact leaveWaking_sound ho (by simp [hp, Phase.isWaking])
    · exact .refl s
  · exact .refl s

/-! ### The end of a frame and of an operation -/

theorem Operation.record_inRange {o : Operation} {outcome : FrameOutcome} {v : Option Int}
    {cause : Option FailCause} {now merged : Nat} (h : o.InRange) (hv : brightnessInRange v) :
    (o.record outcome v cause now merged).InRange := ⟨hv, h.2.2⟩

theorem appendRecord_sound {rec : FrameRecord} {s : Part} (h : s.ReadingsLawful → rec.InRange) :
    Sound s (appendRecord rec s) :=
  ⟨fun w => w.congr rfl rfl rfl rfl rfl,
    fun l => ⟨l.1, l.2.1, l.2.2.1, Journal.InRange.append l.2.2.2 (h l)⟩⟩

theorem recordFrame_sound {o : Operation} {outcome : FrameOutcome} {v : Option Int}
    {cause : Option FailCause} {s : Part} (h : s.Takes o) (dark : s.Dark)
    (hv : s.ReadingsLawful → brightnessInRange v) : Sound s (recordFrame o outcome v cause s) := by
  have recorded := appendRecord_sound (s := s)
    (rec := o.record outcome v cause s.now s.arbiter.merged)
    fun l => Operation.record_inRange (h.readings l) (hv l)
  have put := sound_op_dark (o := { o with lastRecord := some s.journal.numberFor })
    (h.edit rfl id) fun _ => dark
  exact ⟨fun w => (put.wired w).congr rfl rfl rfl rfl rfl,
    fun l => ⟨l.1, l.2.1, (put.readings l).2.2.1, (recorded.readings l).2.2.2⟩⟩

/-- The feedback that the newest TAKEN frame gives: its B where it has one, and its offset (R44). -/
def Operation.feedback (o : Operation) : Option (Int × Int) :=
  match o.newest with
  | some (some b, offset) => some (b, offset)
  | _ => none

theorem Operation.feedback_inRange {o : Operation} (h : o.InRange) :
    brightnessInRange (o.feedback.map (·.1)) := by
  have newest := h.2.1
  unfold Operation.feedback
  split
  · next e => simpa [e] using newest
  · exact brightnessInRange_none

/-- The consumption of the due by its operation marks it settled and leaves the operation and the lines
else as they were, while the run goes on. -/
theorem consumeByOperation_frame (o : Operation) (s : Part) :
    RunFrame o.feedback { s with op := some { o with settled := true } }
      (consumeByOperation o s) := by
  have consumed (v : Part) : RunFrame o.feedback v (consumeDue (.byOperation o.feedback) v) :=
    consumeDue_frame v
  have cleared (t : Part) : RunFrame o.feedback t
      { t with run := t.run.map (fun r : Run => { r with stepCatchUp := false }) } :=
    frame_mapRun t fun _ h => h
  unfold consumeByOperation
  dsimp only
  split
  · exact (consumed _).trans ((cleared _).trans ((catchUp_frame .clockStep _).trans
      (afterConsumption_frame _)))
  · exact (consumed _).trans ((cleared _).trans (afterConsumption_frame _))

theorem consumeByOperation_sound {o : Operation} {s : Part} (h : s.op = some o) :
    Sound s (consumeByOperation o s) := by
  have settled : Sound s { s with op := some { o with settled := true } } :=
    sound_op_samePhase h ((Part.takes_op h).edit rfl id) rfl
  have frame := consumeByOperation_frame o s
  have kept : Kept true s (consumeByOperation o s) := consumeByOperation_kept o s
  exact ⟨fun w => (settled.wired w).congr frame.lending frame.op frame.camera kept.rehearsal
      kept.awake,
    fun l => frame.readings (Operation.feedback_inRange (l.2.2.1 o h)) (settled.readings l)⟩

theorem judgeHealth_sound (o : Operation) (s : Part) : Sound s (judgeHealth o s) := by
  unfold judgeHealth
  split
  · exact sound_edit s
  · exact .refl s

theorem decidePower_sound (o : Operation) (s : Part) : Sound s (decidePower o s) := sound_edit s

theorem raiseNotice_sound (k : NoticeKind) (d : Option Nat) (s : Part) :
    Sound s (raiseNotice k d s) := by
  rw [raiseNotice_eq]
  exact sound_edit s

theorem announceShoot_sound (o : Operation) (s : Part) : Sound s (announceShoot o s) := by
  unfold announceShoot
  split
  · exact raiseNotice_sound _ _ s
  · exact .refl s

theorem finishRun_sound (s : Part) : Sound s (finishRun s) :=
  .ofRun (finishRun_kept s) (finishRun_frame s)

theorem reEvaluate_sound (s : Part) : Sound s (reEvaluate s) :=
  .ofRun (reEvaluate_kept s) (reEvaluate_frame s)

/-- The lines are inactive, or no operation stands in a phase in which the line law has them active. -/
def Part.Quiet (s : Part) : Prop := s.Dark ∨ s.op.any Operation.holdsFocus = false

theorem Part.Quiet.dark {s : Part} (h : s.Quiet) (w : s.Wired) : s.Dark := h.elim id w.dark

theorem Part.Quiet.congr {s t : Part} (h : s.Quiet) (camera : t.camera = s.camera)
    (op : t.op.any Operation.holdsFocus = s.op.any Operation.holdsFocus) : t.Quiet := by
  unfold Part.Quiet Part.Dark; rwa [camera, op]

theorem Part.quiet_of {s : Part} {o : Operation} (h : s.op = some o) (hf : o.holdsFocus = false) :
    s.Quiet := .inr (by simp [h, hf])

theorem releaseOperation_sound {s : Part} (quiet : s.Quiet) : Sound s (releaseOperation s) := by
  have released : Sound s { s with op := none, lending := { s.lending with allowed := true } } :=
    sound_release quiet.dark
  unfold releaseOperation
  dsimp only
  repeat' split
  all_goals first
    | exact released
    | exact released.trans (finishRun_sound _)
    | exact released.trans ((finishRun_sound _).trans (reEvaluate_sound _))

theorem judgeHealth_quiet {o : Operation} {s : Part} (h : s.Quiet) : (judgeHealth o s).Quiet := by
  unfold judgeHealth
  split <;> exact h

theorem announceShoot_quiet {o : Operation} {s : Part} (h : s.Quiet) :
    (announceShoot o s).Quiet := by
  unfold announceShoot
  split
  · rw [raiseNotice_eq]
    exact h
  · exact h

/-- An operation ends with the lines inactive (R101). -/
theorem endOperation_sound {s : Part} (quiet : s.Quiet) : Sound s (endOperation s) := by
  unfold endOperation
  split
  · exact .refl s
  · next o ho =>
    extract_lets t
    have consumed : Sound s t ∧ t.Quiet := by
      unfold t
      split
      · have frame := consumeByOperation_frame o s
        exact ⟨consumeByOperation_sound ho, quiet.congr frame.camera (by rw [frame.op, ho]; rfl)⟩
      · exact ⟨.refl s, quiet⟩
    have decided : (decidePower o (judgeHealth o t)).Quiet := judgeHealth_quiet consumed.2
    exact consumed.1.trans ((judgeHealth_sound o t).trans ((decidePower_sound o _).trans
      ((announceShoot_sound o _).trans (releaseOperation_sound (announceShoot_quiet decided)))))

theorem failFrame_sound (cause : FailCause) (s : Part) : Sound s (failFrame cause s) := by
  unfold failFrame
  split
  · exact .refl s
  · next o ho =>
    extract_lets counts q t
    have takes : (releaseLines s).Takes q := (Part.takes_op (s := releaseLines s) ho).edit rfl id
    have recorded : Sound s t := (releaseLines_sound s).trans
      (recordFrame_sound takes (releaseLines_dark s) fun _ => brightnessInRange_none)
    exact recorded.trans ((sound_edit t).trans (endOperation_sound (.inl ⟨rfl, rfl⟩)))

theorem takeFrame_sound {v : Option Int} {s : Part} (hv : s.ReadingsLawful → brightnessInRange v) :
    Sound s (takeFrame v s) := by
  unfold takeFrame
  split
  · exact .refl s
  · next o ho =>
    extract_lets offset frames q t u
    have present := Part.takes_op (s := releaseLines s) ho
    have takes : (releaseLines s).Takes q :=
      { present with readings := fun l =>
          ⟨(present.readings l).1, hv l, (present.readings l).2.2⟩ }
    have recorded : Sound s u := (releaseLines_sound s).trans
      ((recordFrame_sound takes (releaseLines_dark s) hv).trans (sound_edit t))
    split
    · refine recorded.trans (sound_op_dark ?_ fun _ => ⟨rfl, rfl⟩)
      exact (Part.takes_op (s := u) rfl).edit rfl fun h => ⟨brightnessInRange_none, h.2⟩
    · exact recorded.trans (endOperation_sound (.inl ⟨rfl, rfl⟩))

theorem cutOperation_sound (cause : FailCause) (s : Part) : Sound s (cutOperation cause s) := by
  unfold cutOperation
  split
  · exact .refl s
  · next o ho =>
    split
    · next hp =>
      exact endOperation_sound (Part.quiet_of ho (by simp [Operation.holdsFocus, hp]))
    · exact failFrame_sound cause s

theorem completeWrite_sound {o : Operation} {s : Part} (h : s.op = some o) (quiet : s.Quiet) :
    Sound s (completeWrite o s) := by
  have takes := Part.takes_op h
  unfold completeWrite
  split
  · exact failFrame_sound _ s
  · split
    · exact takeFrame_sound fun _ => brightnessInRange_none
    · next v hv => exact takeFrame_sound fun l => hv ▸ (takes.readings l).1
    · exact sound_op_dark (takes.edit rfl id) quiet.dark

theorem enterWriting_sound {o : Operation} {s : Part} (h : s.Takes o) :
    Sound s (enterWriting o s) := by
  have put {q : Operation} (hq : s.Takes q) : Sound s { releaseLines s with op := some q } :=
    sound_op hq (fun _ e => absurd e (by simp)) (fun _ e => absurd e (by simp)) fun w => w.tx
  have writes (x : WriteWait) :
      Sound s { releaseLines s with op := some { o with phase := .writing x } } :=
    put (h.edit rfl id)
  unfold enterWriting
  dsimp only
  repeat' split
  all_goals first
    | exact writes _
    | exact (put h).trans (completeWrite_sound rfl (.inl ⟨rfl, rfl⟩))

/-! ### What the end of an operation leaves -/

/-- With the operation go its phase and nothing of lending but that lend_allowed is set (R101); `camera`
is what the camera's port stands at. -/
structure OperationGone (camera : CameraPort) (s t : Part) : Prop where
  op : t.op = none
  lending : t.lending = { s.lending with allowed := true }
  camera : t.camera = camera

theorem releaseOperation_gone (s : Part) : OperationGone s.camera s (releaseOperation s) := by
  have gone {t u : Part} (h : RunFrame none t u) (op : t.op = none)
      (lending : t.lending = { s.lending with allowed := true }) (camera : t.camera = s.camera) :
      OperationGone s.camera s u :=
    ⟨h.op.trans op, h.lending.trans lending, h.camera.trans camera⟩
  unfold releaseOperation
  dsimp only
  repeat' split
  all_goals first
    | exact gone (.refl _) rfl rfl rfl
    | exact gone (finishRun_frame _) rfl rfl rfl
    | exact gone ((finishRun_frame _).trans (reEvaluate_frame _)) rfl rfl rfl

/-- The steps of an operation's end before its release touch neither lending nor the camera's port. -/
theorem beforeRelease_lending_camera (o : Operation) (t : Part) :
    (announceShoot o (decidePower o (judgeHealth o t))).lending = t.lending ∧
      (announceShoot o (decidePower o (judgeHealth o t))).camera = t.camera := by
  unfold announceShoot judgeHealth
  split <;> split <;> simp [raiseNotice_eq, decidePower]

theorem endOperation_gone {s : Part} {o : Operation} (h : s.op = some o) :
    OperationGone s.camera s (endOperation s) := by
  have frame := consumeByOperation_frame o s
  unfold endOperation
  simp only [h]
  obtain ⟨op, lending, camera⟩ := releaseOperation_gone (announceShoot o (decidePower o
    (judgeHealth o (if o.source = .schedule then consumeByOperation o s else s))))
  obtain ⟨lent, wired⟩ := beforeRelease_lending_camera o
    (if o.source = .schedule then consumeByOperation o s else s)
  refine ⟨op, lending.trans ?_, camera.trans (wired.trans ?_)⟩
  · rw [lent]
    split
    · rw [frame.lending]
    · rfl
  · split
    · exact frame.camera
    · rfl

theorem failFrame_gone {cause : FailCause} {s : Part} {o : Operation} (h : s.op = some o) :
    OperationGone (releaseLines s).camera s (failFrame cause s) := by
  have ended {t : Part} {q : Operation} (op : t.op = some q) (lending : t.lending = s.lending)
      (camera : t.camera = (releaseLines s).camera) :
      OperationGone (releaseLines s).camera s (endOperation t) := by
    obtain ⟨gone, lent, wired⟩ := endOperation_gone op
    exact ⟨gone, by rw [lent, lending], wired.trans camera⟩
  unfold failFrame
  simp only [h]
  exact ended rfl rfl rfl

/-- The end of an operation from outside its course: a SET being sent goes on (R102, assumption 14). -/
theorem cutOperation_gone (cause : FailCause) (s : Part) :
    (cutOperation cause s).op = none ∧ (cutOperation cause s).camera.tx = s.camera.tx ∧
      (cutOperation cause s).lending =
        { s.lending with allowed := s.lending.allowed || s.op.isSome } := by
  unfold cutOperation
  split
  · next h => simp [h]
  · next o h =>
    split
    · obtain ⟨op, lending, camera⟩ := endOperation_gone h
      exact ⟨op, by rw [camera], by simp [lending, h]⟩
    · obtain ⟨op, lending, camera⟩ := failFrame_gone (cause := cause) h
      exact ⟨op, by rw [camera]; rfl, by simp [lending, h]⟩

/-! ### Grants and lending -/

theorem Part.pick_admits {s : Part} {best : Option Source} {src x : Source}
    (hb : ∀ y, best = some y → s.portAdmits y = true) (h : s.pick best src = some x) :
    s.portAdmits x = true := by
  unfold Part.pick at h
  split at h
  · next admitted =>
    have admits : s.portAdmits src = true := (Bool.and_eq_true_iff.mp admitted).2
    split at h
    · cases h; exact admits
    · split at h
      · cases h; exact admits
      · cases h; exact hb _ rfl
  · exact hb x h

/-- A grant takes a source that the port admits (R89). -/
theorem Part.candidate_admits {s : Part} {src : Source} (h : s.candidate = some src) :
    s.portAdmits src = true :=
  pick_admits (fun _ => pick_admits (fun _ => pick_admits (fun _ e => absurd e (by simp)))) h

/-- Only a port on the part side admits a request (R89). -/
theorem Part.hostSide_of_admits {s : Part} {src : Source} (h : s.portAdmits src = true) :
    s.lending.port.hostSide = false := by
  cases hp : s.lending.port <;> simp_all [Part.portAdmits, PortState.hostSide]

theorem grant_sound {src : Source} {s : Part} (may : s.mayGrant = true)
    (admits : s.portAdmits src = true) : Sound s (grant src s) := by
  obtain ⟨⟨⟨⟨idle, -⟩, -⟩, awake⟩, -⟩ : (((s.op = none ∧ s.health.isHealthy = true) ∧
      s.battery.level ≠ .critical) ∧ s.awake = true) ∧ s.hold = false := by
    simpa [Part.mayGrant] using may
  have port := Part.hostSide_of_admits admits
  unfold grant
  split
  · exact .refl s
  · next q _ =>
    have put {p : Operation} {arbiter : Arbiter} {holders : Holders}
        (hr : p.rehearsal = s.rehearsal) (hi : p.InRange) :
        Sound s { s with
          arbiter := arbiter, holders := holders, lending := { s.lending with wake := none }
          op := some p } := by
      have granted : Sound s { s with lending := { s.lending with wake := none } } :=
        ⟨fun w => ⟨⟨w.1.1, w.1.2.1, by simp, w.1.2.2.2⟩, w.2⟩, id⟩
      have takes : ({ s with lending := { s.lending with wake := none } } : Part).Takes p :=
        ⟨fun _ => hr, fun _ => awake, fun _ => port, fun _ => rfl, fun _ => hi⟩
      have entered := granted.trans (sound_op_dark takes fun w => w.dark (by simp [idle]))
      exact ⟨fun w => (entered.wired w).congr rfl rfl rfl rfl rfl, entered.readings⟩
    have formed : (s.formOperation src q).InRange :=
      ⟨brightnessInRange_none, brightnessInRange_none, ambientInRange_none⟩
    dsimp only
    split
    · exact (put rfl formed).trans (leaveWaking_sound rfl rfl)
    · exact put rfl formed

theorem arbiterTest_sound (s : Part) : Sound s (arbiterTest s) := by
  unfold arbiterTest
  split
  · next may =>
    split
    · next src h => exact grant_sound may (Part.candidate_admits h)
    · exact .refl s
  · exact .refl s

/-- The port moved on the host side (R130, R132). -/
theorem sound_lentPort {s : Part} {port : PortState} (h : s.lending.port.hostSide = true)
    (hp : port.hostSide = true) : Sound s { s with lending := { s.lending with port := port } } := by
  have held (w : s.Wired) : s.lending.wake.isSome ≠ true := fun e => by
    simp [(w.1.2.2.1 e).1, PortState.hostSide] at h
  refine ⟨fun w => ⟨⟨?_, ?_, fun e => absurd e (held w), fun e => ?_⟩, w.2⟩, id⟩
  · exact w.1.1.trans (h.trans hp.symm)
  · exact w.1.2.1.trans (h.trans hp.symm)
  · exact absurd (w.1.2.2.2 e) (by simp [h])

theorem reclaimTest_sound (s : Part) : Sound s (reclaimTest s) := by
  unfold reclaimTest
  split
  · next h =>
    have lent : s.lending.port = .lent := by
      unfold Part.reclaimable at h
      split at h
      · simp only [Bool.and_eq_true, beq_iff_eq] at h
        exact h.1.1.1
      · cases h
    exact (sound_lentPort (by rw [lent]; rfl) rfl).trans (raiseNotice_sound _ _ _)
  · exact .refl s

/-- The end of a lend's wake period: the port becomes LENT with its timer, no operation standing
(R128). -/
theorem becomeLent_sound {s : Part} (idle : s.Wired → s.op = none) : Sound s (becomeLent s) := by
  unfold becomeLent
  dsimp only
  refine .via (reclaimTest_sound _) ?_
  simp only [raiseNotice_eq]
  refine ⟨fun w => ⟨⟨rfl, rfl, by simp, fun e => ?_⟩, ?_⟩, id⟩
  · exact absurd e (by simp [idle w])
  · exact (w.congr (t := s) rfl rfl rfl rfl rfl).2

theorem lendTest_sound (s : Part) : Sound s (lendTest s) := by
  unfold lendTest
  split
  · next h =>
    obtain ⟨yields, idle⟩ : s.lending.port = .yielding ∧ s.op = none := by
      simp only [Part.lendable, Bool.and_eq_true, beq_iff_eq, Option.isNone_iff_eq_none] at h
      tauto
    unfold lendGrant
    dsimp only
    split
    · exact (sound_edit s).trans (becomeLent_sound fun _ => idle)
    · exact ⟨fun w => ⟨⟨w.1.1, w.1.2.1, fun _ => ⟨yields, idle⟩, w.1.2.2.2⟩, w.2⟩, id⟩
  · exact .refl s

theorem ownPort_sound (allowed : Bool) (s : Part) : Sound s (ownPort allowed s) :=
  ⟨fun w => ⟨⟨rfl, rfl, by simp, fun _ => rfl⟩, w.2⟩, id⟩

theorem dropLend_sound (s : Part) : Sound s (dropLend s) := sound_edit s

theorem dropKeepWarm_sound (s : Part) : Sound s (dropKeepWarm s) := sound_edit s

theorem raiseSchedule_sound (s : Part) : Sound s (raiseSchedule s) :=
  .ofRun (raiseSchedule_kept s) (raiseSchedule_frame s)

theorem handover_sound (s : Part) : Sound s (handover s) :=
  (Sound.ofRun (raiseAtHandover_kept s) (raiseAtHandover_frame s)).trans
    ((arbiterTest_sound _).trans (dropLend_sound _))

theorem takeBack_sound (reason : TakenReason) (s : Part) : Sound s (takeBack reason s) :=
  (ownPort_sound false s).trans ((raiseNotice_sound _ _ _).trans (handover_sound _))

theorem criticalEntry_sound (s : Part) : Sound s (criticalEntry s) := by
  unfold criticalEntry
  refine .trans ((dropKeepWarm_sound s).trans (dropLend_sound _)) ?_
  dsimp only
  split
  · exact .refl _
  · exact (ownPort_sound _ _).trans (raiseNotice_sound _ _ _)
  all_goals exact takeBack_sound _ _

theorem hostKeeps_sound {s : Part} (h : s.lending.port = .reclaiming) : Sound s (hostKeeps s) := by
  have frame : RunFrame none s (consumeDue (.missed .lent) s) := consumeMissed_frame _ s
  have hosted : (consumeDue (.missed .lent) s).lending.port.hostSide = true := by
    rw [frame.lending, h]; rfl
  exact (Sound.ofRun (consumeDue_kept _ s) frame).trans ((sound_lentPort hosted rfl).trans
    (.ofRun (afterConsumption_kept _) (afterConsumption_frame _)))

theorem settleReclaim_sound {s : Part} (h : s.lending.port = .reclaiming) :
    Sound s (settleReclaim s) := by
  unfold settleReclaim
  split
  · exact takeBack_sound _ s
  · exact hostKeeps_sound h

/-! ### The battery supervisor, and the tail of a step -/

theorem excludeHolders_sound (old new : Level) (s : Part) : Sound s (excludeHolders old new s) := by
  unfold excludeHolders
  extract_lets t u
  have ht : Sound s t := by unfold t; split; exacts [dropKeepWarm_sound s, .refl s]
  have hu : Sound t u := by unfold u; split; exacts [criticalEntry_sound t, .refl t]
  split
  · exact ht.trans hu
  · exact ht.trans (hu.trans ((raiseSchedule_sound u).trans (arbiterTest_sound _)))

theorem changeLevel_sound (new : Level) (s : Part) : Sound s (changeLevel new s) := by
  have changed (t : Part) : Sound t
      (reEvaluate (excludeHolders s.battery.level new
        (raiseNotice .levelChanged (some new.rank) t))) :=
    (raiseNotice_sound _ _ t).trans ((excludeHolders_sound _ _ _).trans (reEvaluate_sound _))
  unfold changeLevel
  dsimp only
  split
  · exact (sound_edit s).trans ((changed _).trans ((raiseSchedule_sound _).trans
      ((arbiterTest_sound _).trans (lendTest_sound _))))
  · exact (sound_edit s).trans (changed _)

theorem judgeReading_sound (r : BatteryReading) (s : Part) : Sound s (judgeReading r s) := by
  unfold judgeReading
  dsimp only
  split
  · exact (sound_edit s).trans (changeLevel_sound _ _)
  · exact sound_edit s

theorem periodicDue_sound (d : Elapsed) (s : Part) : Sound s (periodicDue d s) := by
  unfold periodicDue
  dsimp only
  split
  · exact sound_edit s
  · exact (sound_edit s).trans (judgeReading_sound _ _)

theorem takeLoaded_sound (s : Part) : Sound s (takeLoaded s) := by
  unfold takeLoaded
  dsimp only
  split
  · next o ho =>
    split
    · exact (judgeReading_sound _ _).via
        (sound_op_samePhase ho ((Part.takes_op ho).edit rfl id) rfl)
    · exact .refl s
  · exact .refl s

theorem endZeroWake_sound (s : Part) : Sound s (endZeroWake s) := by
  unfold endZeroWake
  split
  · next o ho =>
    split
    · next hp =>
      split
      · exact leaveWaking_sound ho (by simp [hp, Phase.isWaking])
      · exact .refl s
    · exact .refl s
  · exact .refl s

theorem raiseAndGrant_sound (s : Part) : Sound s (raiseAndGrant s) :=
  (raiseSchedule_sound s).trans (arbiterTest_sound _)

theorem settle_sound (s : Part) : Sound s (settle s) :=
  (raiseAndGrant_sound s).trans ((takeLoaded_sound _).trans ((endZeroWake_sound _).trans
    ((raiseAndGrant_sound _).trans ((lendTest_sound _).trans (reclaimTest_sound _)))))

end Sys2Proof.Machine


/-! PROOFS. What every block's operation keeps: the record law, the law of the time base, the growth of
the journal, the law of the notice set, the port and line laws and the law on readings. -/

namespace Sys2Proof.Machine

/-- What keeps every law of the device, with the journal only added to. -/
structure Preserves (s t : Part) : Prop where
  tables : s.tables.Lawful → t.tables.Lawful
  time : s.time.Lawful → t.time.Lawful
  journal : s.journal.Grows t.journal
  notices : noticesLawful s.notices → noticesLawful t.notices
  sound : Sound s t

namespace Preserves

variable {s t u : Part}

theorem refl (s : Part) : Preserves s s := ⟨id, id, .same _, id, .refl s⟩

theorem trans (h : Preserves s t) (h' : Preserves t u) : Preserves s u :=
  ⟨h'.tables ∘ h.tables, h'.time ∘ h.time, h.journal.trans h'.journal, h'.notices ∘ h.notices,
    h.sound.trans h'.sound⟩

theorem via (h' : Preserves t u) (h : Preserves s t) : Preserves s u := h.trans h'

/-- The operations of the sequence keep every law. -/
theorem ofKept (k : Kept true s t) (h : Sound s t) : Preserves s t :=
  ⟨fun l => by rwa [k.tables], fun l => by rwa [k.time], k.journal, k.notices, h⟩

theorem ofRun (k : Kept true s t) (h : RunFrame none s t) : Preserves s t :=
  .ofKept k (.ofRun k h)

end Preserves

/-! ### Edits of single blocks -/

/-- An edit of fields that no law reads. -/
theorem preserves_edit (s : Part) {engine : EngineState} {runCount : Nat}
    {lastBase : Option (Fin 16 × Int)} {doneMark : Option DoneMark} {arbiter : Arbiter}
    {holders : Holders} {health : Health} {failCount : Nat} {battery : Battery}
    {link : HostLink} {pins : Pins} {hold : Bool} {gates : Vector Bool 8} :
    Preserves s { s with
      engine := engine, runCount := runCount, lastBase := lastBase, doneMark := doneMark
      arbiter := arbiter, holders := holders, health := health, failCount := failCount
      battery := battery, link := link, pins := pins, hold := hold, gates := gates } :=
  ⟨id, id, .same _, id, sound_edit s⟩

theorem preserves_time {s : Part} {time : TimeBase} (h : s.time.Lawful → time.Lawful) :
    Preserves s { s with time := time } :=
  ⟨id, h, .same _, id, sound_edit s⟩

theorem preserves_tables {s : Part} {tables : Tables} (h : s.tables.Lawful → tables.Lawful) :
    Preserves s { s with tables := tables } :=
  ⟨h, id, .same _, id, sound_edit s⟩

theorem preserves_meter {s : Part} {meter : Meter}
    (h : s.ReadingsLawful → ambientInRange (meter.latest.map (·.a))) :
    Preserves s { s with meter := meter } :=
  ⟨id, id, .same _, id, fun w => w.congr rfl rfl rfl rfl rfl, fun l => ⟨h l, l.2⟩⟩

theorem preserves_run {s : Part} {r : Run} (h : s.ReadingsLawful → r.InRange) :
    Preserves s { s with run := some r } :=
  ⟨id, id, .same _, id, sound_run h⟩

/-- An edit of the monitor that leaves the part awake or asleep as it was. -/
theorem preserves_monitor {s : Part} {monitor : Monitor}
    (h : ({ s with monitor := monitor } : Part).awake = s.awake) :
    Preserves s { s with monitor := monitor } :=
  ⟨id, id, .same _, id, fun w => w.congr rfl rfl rfl rfl h, id⟩

/-- The camera line's receiver, the last tag, and a SET that is cut off: no line changes. -/
theorem preserves_camera {s : Part} {camera : CameraPort} (focus : camera.focus = s.camera.focus)
    (shutter : camera.shutter = s.camera.shutter) (tx : camera.tx = s.camera.tx ∨ camera.tx = none) :
    Preserves s { s with camera := camera } := by
  refine ⟨id, id, .same _, id, fun w => ⟨w.1, ?_⟩, id⟩
  obtain ⟨hs, hf, hr, ha, ht⟩ := w.2
  exact ⟨fun e => hs (shutter ▸ e), fun e => hf (focus ▸ e), hr, ha,
    fun e => tx.elim (·.trans (ht e)) id⟩

theorem raiseIn_preserves (k : NoticeKind) (d : Option Nat) (s : Part) :
    Preserves s (raiseNotice k d s) := by
  refine ⟨?_, ?_, ?_, ?_, raiseNotice_sound k d s⟩ <;> rw [raiseNotice_eq]
  · exact id
  · exact id
  · exact .same _
  · dsimp only
    split
    · exact raiseIn_lawful
    · exact id

theorem settle_preserves (s : Part) : Preserves s (settle s) :=
  .ofKept (settle_kept s) (settle_sound s)

theorem reEvaluate_preserves (s : Part) : Preserves s (reEvaluate s) :=
  .ofKept (reEvaluate_kept s) (reEvaluate_sound s)

theorem noteNextDue_preserves (s : Part) : Preserves s (noteNextDue s) :=
  .ofRun (noteNextDue_kept s) (noteNextDue_frame s)

theorem endRun_preserves (s : Part) : Preserves s (endRun s) :=
  .ofRun (endRun_kept s) (endRun_frame s)

theorem catchUp_preserves (reason : MissReason) (s : Part) : Preserves s (catchUp reason s) :=
  .ofRun (catchUp_kept reason s) (catchUp_frame reason s)

theorem cutOperation_preserves (cause : FailCause) (s : Part) :
    Preserves s (cutOperation cause s) :=
  .ofKept (cutOperation_kept cause s) (cutOperation_sound cause s)

theorem failFrame_preserves (cause : FailCause) (s : Part) : Preserves s (failFrame cause s) :=
  .ofKept (failFrame_kept cause s) (failFrame_sound cause s)

theorem setEngine_preserves (e : EngineState) (s : Part) : Preserves s (setEngine e s) := by
  unfold setEngine
  split
  · exact preserves_edit s
  · exact (preserves_edit s).trans ((Preserves.ofRun (withdrawSchedule_kept _)
      (withdrawSchedule_frame _)).trans ((Preserves.ofRun (dropKeepWarm_kept _)
      (dropKeepWarm_frame _)).trans (.ofRun (kept_edit _) (forgetWake_frame _))))

/-! ### The meter (chapter 5) -/

theorem meterStart_preserves (s : Part) : Preserves s (meterStart s) :=
  preserves_meter fun _ => ambientInRange_none

theorem meterStop_preserves (s : Part) : Preserves s (meterStop s) :=
  preserves_meter fun _ => ambientInRange_none

theorem meterRestart_preserves (s : Part) : Preserves s (meterRestart s) := by
  unfold meterRestart
  dsimp only
  split
  · exact (meterStop_preserves s).trans (meterStart_preserves _)
  · exact meterStop_preserves s

theorem setStartGate_preserves (g : Fin 3) (s : Part) : Preserves s (setStartGate g s) :=
  preserves_meter fun l => l.1

theorem meterPeriodicDue_preserves (d : Elapsed) (s : Part) :
    Preserves s (meterPeriodicDue d s) :=
  (Preserves.ofRun (readIfIdle_kept _) (readIfIdle_frame _)).via (preserves_meter fun l => l.1)

theorem clampInt_mem {lo hi i : Int} (h : lo ≤ hi) : lo ≤ clampInt lo hi i ∧ clampInt lo hi i ≤ hi := by
  unfold clampInt
  split <;> [skip; split] <;> omega

theorem ambientOf_inRange (count : Nat) (g : Fin 3) (cCal : Int) :
    ambientInRange (some (ambientOf count g cCal)) := by
  rintro v ⟨⟩
  unfold ambientOf
  split
  · omega
  · exact clampInt_mem (by omega)

theorem finishReading_preserves (g : Fin 3) (count : Nat) (s : Part) :
    Preserves s (finishReading g count s) :=
  (reEvaluate_preserves _).via ((preserves_edit _).via
    (preserves_meter fun _ => ambientOf_inRange count g s.tables.general.cCal))

theorem gateEnds_preserves (pulses : Nat) (s : Part) : Preserves s (gateEnds pulses s) := by
  unfold gateEnds
  split
  · unfold endGate
    dsimp only
    split
    · exact preserves_meter fun l => l.1
    · exact (finishReading_preserves _ _ _).via (preserves_meter fun l => l.1)
  · exact .refl s

/-! ### Camera health (chapter 7) -/

theorem startAttempt_preserves (n : Nat) (r : Recovery) (s : Part) :
    Preserves s (startAttempt n r s) := preserves_edit s

theorem restartRecovery_preserves (s : Part) : Preserves s (restartRecovery s) := by
  unfold restartRecovery
  split
  · exact startAttempt_preserves _ _ s
  all_goals exact .refl s

theorem arbiterTest_preserves (s : Part) : Preserves s (arbiterTest s) :=
  .ofKept (arbiterTest_kept s) (arbiterTest_sound s)

theorem lendTest_preserves (s : Part) : Preserves s (lendTest s) :=
  .ofKept (lendTest_kept s) (lendTest_sound s)

theorem attemptSucceeds_preserves (r : Recovery) (s : Part) :
    Preserves s (attemptSucceeds r s) := by
  have tested (t : Part) : Preserves s t → Preserves s (arbiterTest
      (raiseNotice .cameraRecovered (some r.plan.val) t)) := fun h =>
    h.trans ((raiseIn_preserves _ _ t).trans (arbiterTest_preserves _))
  unfold attemptSucceeds
  dsimp only
  refine (preserves_edit (s := _)).via ?_
  split
  · exact tested _ (preserves_edit s)
  · exact (tested _ (preserves_edit s)).trans (lendTest_preserves _)

theorem becomeFaulted_preserves (r : Recovery) (s : Part) : Preserves s (becomeFaulted r s) := by
  unfold becomeFaulted
  dsimp only
  refine (raiseIn_preserves _ _ _).via ?_
  split
  · exact (preserves_edit s).trans (setEngine_preserves _ _)
  · exact preserves_edit s

theorem endOffPhase_preserves (s : Part) : Preserves s (endOffPhase s) := by
  unfold endOffPhase
  split
  · unfold beginOnPhase
    dsimp only
    split
    · exact (attemptSucceeds_preserves _ _).via (preserves_edit s)
    · exact preserves_edit s
  all_goals exact .refl s

theorem endOnPhase_preserves (success : Bool) (s : Part) : Preserves s (endOnPhase success s) := by
  unfold endOnPhase attemptFails
  repeat' split
  all_goals first
    | exact attemptSucceeds_preserves _ s
    | exact startAttempt_preserves _ _ s
    | exact becomeFaulted_preserves _ s
    | exact .refl s

/-! ### The passing of time (chapter 1) -/

theorem markPastEnd_preserves (s : Part) : Preserves s (markPastEnd s) := preserves_edit s

theorem disarm_preserves (s : Part) : Preserves s (disarm s) :=
  (setEngine_preserves _ s).trans (endRun_preserves _)

theorem withdrawSchedule_preserves (s : Part) : Preserves s (withdrawSchedule s) :=
  preserves_edit s

theorem calendarEnds_preserves (s : Part) : Preserves s (calendarEnds s) := by
  have ended (t : Part) (h : Preserves s t) : Preserves s
      (disarm (withdrawSchedule (raiseNotice .clockNeeded (some Config.lastSecond) t))) :=
    h.trans ((raiseIn_preserves _ _ _).trans
      ((withdrawSchedule_preserves _).trans (disarm_preserves _)))
  have marked := ended (markPastEnd { s with time :=
    { s.time with clock := .notSet, boundarySeen := 0, midnightSeen := 0 } })
    ((markPastEnd_preserves _).via (preserves_time (s := s) (fun l => l)))
  unfold calendarEnds
  dsimp only
  split
  · exact marked.trans (cutOperation_preserves _ _)
  · exact marked

theorem passTime_preserves (n : Nat) (s : Part) : Preserves s (passTime n s) := by
  have moved (time : TimeBase) (hi : time.instant < Config.calendarSpan)
      (ht : time.trim = s.time.trim) (hw : time.withheld = s.time.withheld ∨ time.withheld = 0) :
      Preserves s { s with time := time } :=
    preserves_time fun ⟨_, trim, withheld⟩ =>
      ⟨hi, by rwa [ht], hw.elim (by omega) (by omega)⟩
  have count (n : Nat) : (if n = 0 then s.time.withheld else 0) = s.time.withheld ∨
      (if n = 0 then s.time.withheld else 0) = 0 := by split <;> simp
  unfold passTime
  dsimp only
  split
  · next h => exact moved _ h rfl (count _)
  · exact (calendarEnds_preserves _).via
      (moved _ (Nat.mod_lt _ (by decide)) rfl (count _))

theorem reachInstant_preserves (t : Nat) (s : Part) : Preserves s (reachInstant t s) := by
  unfold reachInstant
  split
  · exact passTime_preserves _ s
  · exact .refl s

theorem reachElapsed_preserves (d : Elapsed) (s : Part) : Preserves s (reachElapsed d s) := by
  unfold reachElapsed
  split
  · exact .refl s
  · exact passTime_preserves _ s

/-! ### Outages, restores and resets (chapter 10) -/

theorem withdrawHeld_preserves (src : Source) (reason : MissReason) (s : Part) :
    Preserves s (withdrawHeld src reason s) := by
  have recorded (rec : FrameRecord) (closed : rec.flags.isOpen = false) (h : rec.InRange)
      (arbiter : Arbiter) : Preserves s { appendRecord rec s with arbiter := arbiter } :=
    (preserves_edit _).via
      (.ofKept (appendRecord_kept rec closed s) (appendRecord_sound fun _ => h))
  unfold withdrawHeld
  split
  · exact .refl s
  · dsimp only
    split
    · exact (raiseIn_preserves _ _ _).via (recorded _ rfl (missedRecord_inRange ..) _)
    · exact recorded _ rfl (missedRecord_inRange ..) _

theorem emptyHolders_preserves (s : Part) : Preserves s (emptyHolders s) := preserves_edit s

theorem clearLink_preserves (s : Part) : Preserves s (clearLink s) := preserves_edit s

theorem quietCameraLine_preserves (s : Part) : Preserves s (quietCameraLine s) :=
  preserves_camera rfl rfl (.inr rfl)

theorem releaseLines_preserves (s : Part) : Preserves s (releaseLines s) :=
  .ofKept (releaseLines_kept s) (releaseLines_sound s)

theorem abandonAttempt_preserves (s : Part) : Preserves s (abandonAttempt s) := by
  unfold abandonAttempt
  split
  · exact preserves_edit s
  all_goals exact .refl s

theorem ownPort_preserves (allowed : Bool) (s : Part) : Preserves s (ownPort allowed s) :=
  .ofKept (ownPort_kept allowed s) (ownPort_sound allowed s)

theorem lendingAtOutage_preserves (s : Part) : Preserves s (lendingAtOutage s) := by
  unfold lendingAtOutage
  split
  · exact .refl s
  all_goals exact (ownPort_preserves _ s).trans (raiseIn_preserves _ _ _)

theorem timeCold_preserves (mv : Nat) (s : Part) : Preserves s (timeCold mv s) :=
  preserves_monitor rfl

/-- A part that is not awake, with no operation, nothing on the lines and no SET being sent, is as the
line law has it. -/
theorem Part.Wired.of_still {s : Part} (port : s.PortLawful) (op : s.op = none) (dark : s.Dark)
    (tx : s.camera.tx = none) : s.Wired :=
  ⟨port, fun e => absurd e (by simp [dark.2]), fun e => absurd e (by simp [dark.1]), by simp [op],
    fun _ => op, fun _ => tx⟩

/-- Without its operation a port keeps its law. -/
theorem Part.PortLawful.of_idle {s t : Part} (h : s.PortLawful) (lending : t.lending = s.lending)
    (op : t.op = none) : t.PortLawful := by
  obtain ⟨bus, timer, wake, -⟩ := h
  exact ⟨by rwa [lending], by rwa [lending], fun e => ⟨by
    rw [lending] at e ⊢
    exact (wake e).1, op⟩, by simp [op]⟩

/-- The operation leaves with both lines inactive. -/
theorem sound_drop (s : Part) : Sound s { releaseLines s with op := none } := by
  refine ⟨fun w => ⟨w.1.of_idle rfl rfl, ?_⟩, fun l => ⟨l.1, l.2.1, by simp, l.2.2.2⟩⟩
  exact ⟨fun e => absurd e (by simp), fun e => absurd e (by simp), by simp, fun _ => rfl,
    w.2.2.2.2.2⟩

theorem preserves_drop (s : Part) : Preserves s { releaseLines s with op := none } :=
  ⟨id, id, .same _, id, sound_drop s⟩

/-- The monitor moves while nothing stands on the camera's port. -/
theorem preserves_monitor_still {s : Part} {monitor : Monitor} (op : s.op = none) (dark : s.Dark)
    (tx : s.camera.tx = none) : Preserves s { s with monitor := monitor } :=
  ⟨id, id, .same _, id, fun w => .of_still w.1 op dark tx, id⟩

theorem loseBackup_preserves (s : Part) : Preserves s (loseBackup s) := by
  have quiet : Preserves s
      (clearLink (quietCameraLine (releaseLines (emptyHolders { s with op := none })))) :=
    (preserves_drop s).trans ((emptyHolders_preserves _).trans
      ((quietCameraLine_preserves _).trans (clearLink_preserves _)))
  unfold loseBackup
  dsimp only
  exact quiet.trans ((preserves_monitor_still rfl ⟨rfl, rfl⟩ rfl).trans (timeCold_preserves _ _))

/-- The blocks at outage entry but for the loss of the backup domain (R157, R158). -/
def outageBlocks (s : Part) : Part :=
  clearLink (quietCameraLine (batteryAtOutage (meterStop (abandonAttempt (emptyHolders
    (releaseLines (lendingAtOutage (withdrawHeld .manual .power (withdrawHeld .external .power
      (withdrawSchedule (cutOperation .power s))))))))))) 

/-- The monitor as an outage begins (R157 step 1). -/
def enterOutage (s : Part) : Part :=
  { s with monitor := { s.monitor with state := .outage, outageStart := s.time.elapsed } }

theorem outageEntry_eq (s : Part) :
    outageEntry s =
      if (outageBlocks (enterOutage s)).monitor.cellLow then
        loseBackup (outageBlocks (enterOutage s))
      else outageBlocks (enterOutage s) := rfl

theorem outageBlocks_preserves (s : Part) : Preserves s (outageBlocks s) :=
  (cutOperation_preserves _ s).trans ((withdrawSchedule_preserves _).trans
    ((withdrawHeld_preserves _ _ _).trans ((withdrawHeld_preserves _ _ _).trans
      ((lendingAtOutage_preserves _).trans ((releaseLines_preserves _).trans
        ((emptyHolders_preserves _).trans ((abandonAttempt_preserves _).trans
          ((meterStop_preserves _).trans ((preserves_edit _).trans
            ((quietCameraLine_preserves _).trans (clearLink_preserves _)))))))))))

@[simp] theorem abandonAttempt_fields (s : Part) :
    (abandonAttempt s).op = s.op ∧ (abandonAttempt s).camera = s.camera ∧
      (abandonAttempt s).lending = s.lending := by
  unfold abandonAttempt
  split <;> simp

@[simp] theorem withdrawHeld_fields (src : Source) (reason : MissReason) (s : Part) :
    (withdrawHeld src reason s).op = s.op ∧ (withdrawHeld src reason s).camera = s.camera ∧
      (withdrawHeld src reason s).lending = s.lending := by
  unfold withdrawHeld
  split
  · simp
  · dsimp only
    split <;> simp [raiseNotice_eq]

@[simp] theorem lendingAtOutage_fields (s : Part) :
    (lendingAtOutage s).op = s.op ∧ (lendingAtOutage s).camera = s.camera ∧
      ((lendingAtOutage s).lending = s.lending ∧ s.lending.port = .owned ∨
        ∃ allowed, (lendingAtOutage s).lending = ⟨.owned, false, none, none, allowed⟩) := by
  unfold lendingAtOutage raiseTaken
  split <;> simp_all [raiseNotice_eq]

/-- After outage entry no operation, no line and no SET stands on the camera's port. -/
theorem outageBlocks_still (s : Part) :
    (outageBlocks s).op = none ∧ (outageBlocks s).Dark ∧ (outageBlocks s).camera.tx = none := by
  refine ⟨?_, ⟨?_, ?_⟩, ?_⟩ <;>
    simp [outageBlocks, batteryAtOutage, (cutOperation_gone .power s).1]

theorem outageBlocks_port {s : Part} (h : s.PortLawful) : (outageBlocks s).PortLawful := by
  obtain ⟨op, -, lending⟩ := cutOperation_gone .power s
  have cut : (withdrawSchedule (cutOperation .power s)).PortLawful :=
    ⟨by simpa [lending] using h.1, by simpa [lending] using h.2.1,
      fun e => ⟨(h.2.2.1 (by simpa [lending] using e)).1 ▸ by simp [lending], by simp [op]⟩,
      by simp [op]⟩
  have still := (outageBlocks_still s).1
  obtain ⟨-, -, ⟨same, -⟩ | ⟨allowed, owned⟩⟩ := lendingAtOutage_fields
    (withdrawHeld .manual .power (withdrawHeld .external .power
      (withdrawSchedule (cutOperation .power s))))
  · exact cut.of_idle (by simp [outageBlocks, batteryAtOutage, same]) still
  · have e : (outageBlocks s).lending = ⟨.owned, false, none, none, allowed⟩ := by
      simp [outageBlocks, batteryAtOutage, owned]
    exact ⟨by rw [e]; rfl, by rw [e]; rfl, by simp [e], by simp [still]⟩

theorem outageEntry_preserves (s : Part) : Preserves s (outageEntry s) := by
  have entered : Preserves s (outageBlocks (enterOutage s)) := by
    obtain ⟨tables, time, journal, notices, sound⟩ := outageBlocks_preserves (enterOutage s)
    obtain ⟨op, dark, tx⟩ := outageBlocks_still (enterOutage s)
    exact ⟨tables, time, journal, notices,
      fun w => .of_still (outageBlocks_port w.1) op dark tx, sound.readings⟩
  rw [outageEntry_eq]
  split
  · exact entered.trans (loseBackup_preserves _)
  · exact entered

/-! ### Restores and resets (R160, R164, R165) -/

theorem periodicDue_preserves (d : Elapsed) (s : Part) : Preserves s (periodicDue d s) := by
  have judged (r : BatteryReading) (t : Part) : Preserves t (judgeReading r t) :=
    .ofKept (judgeReading_kept r t) (judgeReading_sound r t)
  unfold periodicDue
  dsimp only
  split
  · exact preserves_edit s
  · exact (judged _ _).via (preserves_edit s)

theorem skipBoundaries_preserves (s : Part) : Preserves s (skipBoundaries s) :=
  preserves_time fun l => l

theorem clearStreaks_preserves (s : Part) : Preserves s (clearStreaks s) := preserves_edit s

theorem dropEndedMark_preserves (s : Part) : Preserves s (dropEndedMark s) := preserves_edit s

theorem pauseEngine_preserves (s : Part) : Preserves s (pauseEngine s) := by
  unfold pauseEngine
  split
  · exact setEngine_preserves _ s
  · exact setEngine_preserves _ s
  all_goals exact .refl s

/-- A part that comes back from an outage holds nothing on the camera's port, and rehearsal leaves. -/
theorem preserves_wake {s : Part} {monitor : Monitor} (asleep : s.awake = false) :
    Preserves s { s with monitor := monitor, rehearsal := false } := by
  refine ⟨id, id, .same _, id, fun w => ?_, id⟩
  have op : s.op = none := w.2.2.2.2.1 asleep
  exact .of_still w.1 op (w.dark (by simp [op])) (w.2.2.2.2.2 (.inr asleep))

theorem restartBlocks_preserves {s : Part} (asleep : s.awake = false) :
    Preserves s (restartBlocks s) :=
  (preserves_wake asleep).trans ((clearLink_preserves _).trans ((quietCameraLine_preserves _).trans
    ((meterRestart_preserves _).trans ((clearStreaks_preserves _).trans
      ((dropEndedMark_preserves _).trans ((skipBoundaries_preserves _).trans
        (restartRecovery_preserves _)))))))

theorem completeRestore_preserves {s : Part} (asleep : s.awake = false) :
    Preserves s (completeRestore s) := by
  have selected (t : Part) : Preserves t (settle (noteNextDue (reEvaluate t))) :=
    (reEvaluate_preserves t).trans ((noteNextDue_preserves _).trans (settle_preserves _))
  unfold completeRestore
  refine (restartBlocks_preserves asleep).trans ?_
  dsimp only
  refine (periodicDue_preserves _ _).via ((raiseIn_preserves _ _ _).via ((selected _).via ?_))
  split
  · exact catchUp_preserves _ _
  · exact (pauseEngine_preserves _).trans (catchUp_preserves _ _)

theorem meterAtReset_preserves (s : Part) : Preserves s (meterAtReset s) :=
  (setStartGate_preserves 1 s).trans ((meterRestart_preserves _).trans (preserves_edit _))

/-- Rehearsal changes while no operation stands: put on, it cuts a SET off. -/
theorem preserves_rehearsal {s : Part} {rehearsal : Bool} {camera : CameraPort} (op : s.op = none)
    (focus : camera.focus = s.camera.focus) (shutter : camera.shutter = s.camera.shutter)
    (tx : rehearsal = true → camera.tx = none)
    (sent : camera.tx = s.camera.tx ∨ camera.tx = none) :
    Preserves s { s with rehearsal := rehearsal, camera := camera } := by
  refine ⟨id, id, .same _, id, fun w => ⟨w.1, ?_⟩, id⟩
  obtain ⟨dim, dark⟩ := w.dark (by simp [op])
  exact ⟨fun e => absurd e (by simp [shutter, dark]), fun e => absurd e (by simp [focus, dim]),
    by simp [op], fun _ => op,
    fun e => e.elim tx fun asleep => sent.elim (·.trans (w.2.2.2.2.2 (.inr asleep))) id⟩

theorem captureAtReset_preserves (s : Part) : Preserves s (captureAtReset s) := by
  have cleared {t : Part} (op : t.op = none) (h : Preserves s t) :
      Preserves s { t with camera := { t.camera with lastTag := 0 }, rehearsal := false } :=
    h.trans (preserves_rehearsal op rfl rfl (by simp) (.inl rfl))
  exact cleared (cutOperation_gone .aborted s).1
    ((quietCameraLine_preserves _).via ((releaseLines_preserves _).via
      ((emptyHolders_preserves _).via ((preserves_edit _).via (cutOperation_preserves _ s)))))

theorem resetBegins_preserves (s : Part) : Preserves s (resetBegins s) :=
  (ownPort_preserves _ _).via ((captureAtReset_preserves _).via ((clearLink_preserves _).via
    (preserves_edit s)))

theorem resetEnds_preserves (s : Part) : Preserves s (resetEnds s) :=
  (periodicDue_preserves _ _).via ((settle_preserves _).via ((noteNextDue_preserves _).via
    ((preserves_edit _).via (reEvaluate_preserves s))))

theorem dropDeferred_preserves (s : Part) : Preserves s (dropDeferred s) := preserves_edit s

/-- The reset line empties the notice set (R164). -/
theorem preserves_noNotices (s : Part) {battery : Battery} :
    Preserves s { s with battery := battery, notices := [] } :=
  ⟨id, id, .same _, fun _ => ⟨List.nodup_nil, by simp⟩, sound_edit s⟩

theorem resetByLine_preserves (s : Part) : Preserves s (resetByLine s) :=
  (resetEnds_preserves _).via ((preserves_noNotices _).via ((dropDeferred_preserves _).via
    ((clearStreaks_preserves _).via ((meterAtReset_preserves _).via ((pauseEngine_preserves _).via
      ((restartRecovery_preserves _).via (resetBegins_preserves s)))))))

theorem rearmEngine_preserves (s : Part) : Preserves s (rearmEngine s) := by
  unfold rearmEngine
  split
  · exact setEngine_preserves _ s
  all_goals exact .refl s

theorem resetBySoft_preserves (s : Part) : Preserves s (resetBySoft s) :=
  (resetEnds_preserves _).via ((dropDeferred_preserves _).via ((clearStreaks_preserves _).via
    ((meterAtReset_preserves _).via ((rearmEngine_preserves _).via ((preserves_edit _).via
      (resetBegins_preserves s))))))

end Sys2Proof.Machine


/-! PROOFS. The fields of a payload and the checks of the write requests (R15, R183): what a field can
read, each request's checks as one list taken in order, and what a payload that passes them stores. -/

namespace Sys2Proof.Machine

/-! ### Fields (R183) -/

theorem beNat_append_singleton (bs : List Byte) (b : Byte) :
    beNat (bs ++ [b]) = beNat bs * 256 + b.toNat := by
  simp [beNat]

theorem beNat_lt (bs : List Byte) : beNat bs < 256 ^ bs.length := by
  induction bs using List.reverseRecOn with
  | nil => simp [beNat]
  | append_singleton bs b ih =>
    have hb : b.toNat < 256 := b.isLt
    rw [beNat_append_singleton, List.length_append, List.length_singleton, pow_succ]
    omega

theorem length_slice_le (at_ size : Nat) (bs : List Byte) : (slice at_ size bs).length ≤ size :=
  List.length_take_le _ _

theorem length_slice (at_ size : Nat) (bs : List Byte) :
    (slice at_ size bs).length = min size (bs.length - at_) := by
  simp [slice]

theorem fieldNat_lt (at_ size : Nat) (bs : List Byte) : fieldNat at_ size bs < 256 ^ size :=
  (beNat_lt _).trans_le (Nat.pow_le_pow_right (by omega) (length_slice_le _ _ _))

theorem fieldNat_byte_lt (at_ : Nat) (bs : List Byte) : fieldNat at_ 1 bs < 256 := fieldNat_lt at_ 1 bs

theorem fieldNat_pair_lt (at_ : Nat) (bs : List Byte) : fieldNat at_ 2 bs < 65536 := fieldNat_lt at_ 2 bs

/-- What bytes of two's complement can hold. -/
theorem beInt_mem (bs : List Byte) :
    -((256 ^ bs.length : Nat) : Int) ≤ 2 * beInt bs ∧ 2 * beInt bs < (256 ^ bs.length : Nat) := by
  have := beNat_lt bs
  simp only [beInt]
  split <;> omega

theorem beInt_byte (b : Byte) : beInt [b] = b.toInt := by
  have h : beNat [b] = b.toNat := by simp [beNat]
  simp only [beInt, h, BitVec.toInt, List.length_singleton]
  norm_num

theorem fieldInt_byte_mem (at_ : Nat) (bs : List Byte) :
    -128 ≤ fieldInt at_ 1 bs ∧ fieldInt at_ 1 bs ≤ 127 := by
  have h := beInt_mem (slice at_ 1 bs)
  have l := length_slice_le at_ 1 bs
  unfold fieldInt
  interval_cases (slice at_ 1 bs).length <;> omega

/-! ### Clamping (R15 step 4) -/

theorem clampNat_eq {lo hi : Nat} (h : lo ≤ hi) (n : Nat) : clampNat lo hi n = max lo (min hi n) := by
  unfold clampNat
  split <;> (try split) <;> omega

theorem clampInt_eq {lo hi : Int} (h : lo ≤ hi) (i : Int) : clampInt lo hi i = max lo (min hi i) := by
  unfold clampInt
  split <;> (try split) <;> omega

theorem clampNat_mem {lo hi : Nat} (h : lo ≤ hi) (n : Nat) :
    lo ≤ clampNat lo hi n ∧ clampNat lo hi n ≤ hi := by
  rw [clampNat_eq h]
  omega

theorem clampInt_bounds {lo hi : Int} (h : lo ≤ hi) (i : Int) :
    lo ≤ clampInt lo hi i ∧ clampInt lo hi i ≤ hi := by
  rw [clampInt_eq h]
  omega

theorem clampNat_le {hi : Nat} (n : Nat) : clampNat 0 hi n ≤ hi := (clampNat_mem (Nat.zero_le _) n).2

theorem forceFactor_lawful (n : Nat) : lawfulFactor (forceFactor n) := by
  unfold forceFactor lawfulFactor
  split <;> (try split) <;> (try split) <;> simp

/-! ### Checks in their order (R15) -/

section Checks

variable {ι α : Type}

/-- The checks of a list in their order, and what is stored where all pass (R15). -/
def Checked.under (checks : List (Reply × Bool)) (passed : Checked ι α) : Checked ι α :=
  match firstFailed checks with
  | some r => .refuse r
  | none => passed

theorem firstFailed_cons (r : Reply) (b : Bool) (checks : List (Reply × Bool)) :
    firstFailed ((r, b) :: checks) = if b then firstFailed checks else some r := by
  cases b <;> simp [firstFailed]

theorem Checked.under_nil (k : Checked ι α) : Checked.under [] k = k := rfl

theorem Checked.under_cons (r : Reply) (b : Bool) (checks : List (Reply × Bool)) (k : Checked ι α) :
    Checked.under ((r, b) :: checks) k = if b then Checked.under checks k else .refuse r := by
  simp only [Checked.under, firstFailed_cons]
  cases b <;> rfl

theorem Checked.under_append (checks more : List (Reply × Bool)) (k : Checked ι α) :
    Checked.under (checks ++ more) k = Checked.under checks (Checked.under more k) := by
  induction checks with
  | nil => rfl
  | cons c cs ih => rw [List.cons_append, Checked.under_cons, Checked.under_cons, ih]

/-- A check by fields is a list of checks that draw BAD_FIELD. -/
theorem under_firstFault (fields : List (Nat × Bool)) (k : Checked ι α) :
    (match firstFault fields with
      | some f => .refuse (.badField f)
      | none => k) = Checked.under (fields.map (fun f => (Reply.badField f.1, f.2))) k := by
  induction fields with
  | nil => rfl
  | cons f fs ih =>
    obtain ⟨i, b⟩ := f
    rw [List.map_cons, Checked.under_cons]
    cases b
    · rfl
    · exact ih

theorem finOf?_eq (n k : Nat) [NeZero n] :
    finOf? n k = if k < n then some (finOf n k) else none := by
  unfold finOf finOf?
  split <;> rfl

theorem finOf_val {n k : Nat} [NeZero n] (h : k < n) : (finOf n k).val = k := by
  simp [finOf, finOf?, h]

/-- A slot number beyond the table draws BAD_FIELD 255. -/
theorem under_slot (n k : Nat) [NeZero n] (r : Reply) (f : Fin n → Checked ι α) :
    (match finOf? n k with
      | none => .refuse r
      | some i => f i) = Checked.under [(r, decide (k < n))] (f (finOf n k)) := by
  rw [finOf?_eq, Checked.under_cons, Checked.under_nil]
  by_cases h : k < n <;> simp [h]

/-- A condition tested first is the first check. -/
theorem under_if (p : Prop) [Decidable p] (r : Reply) (k : Checked ι α) :
    (if p then .refuse r else k) = Checked.under [(r, decide ¬p)] k := by
  rw [Checked.under_cons, Checked.under_nil]
  by_cases h : p <;> simp [h]

theorem Checked.under_congr {checks checks' : List (Reply × Bool)} {k k' : Checked ι α}
    (hc : checks = checks') (hk : k = k') : Checked.under checks k = Checked.under checks' k' := by
  rw [hc, hk]

theorem firstFailed_eq_none {checks : List (Reply × Bool)} :
    firstFailed checks = none ↔ ∀ c ∈ checks, c.2 = true := by
  simp [firstFailed]

theorem Checked.under_eq_store {checks : List (Reply × Bool)} {k : Checked ι α} {i : ι} {a : α}
    {changed : List Nat} : Checked.under checks k = .store i a changed ↔
      firstFailed checks = none ∧ k = .store i a changed := by
  unfold Checked.under
  cases firstFailed checks <;> simp

theorem Checked.under_eq_refuse {checks : List (Reply × Bool)} {i : ι} {a : α} {changed : List Nat}
    {r : Reply} : Checked.under checks (.store i a changed) = .refuse r ↔
      firstFailed checks = some r := by
  unfold Checked.under
  cases firstFailed checks <;> simp

end Checks

/-! ### The checks of each write request -/

theorem checkProfile_eq (p : List Byte) :
    checkProfile p = Checked.under (profileChecks p)
      (.store (finOf 4 (fieldNat 0 1 p)) (profileCandidate p).1 (profileCandidate p).2) := by
  unfold checkProfile
  by_cases length : p.length = 42
  · by_cases slot : fieldNat 0 1 p < 4
    · rw [if_neg (not_not.2 length), finOf?_eq, if_pos slot]
      calc _ = Checked.under _ (Checked.under _ _) :=
            (under_firstFault _ _).trans (congrArg _ (under_firstFault _ _))
        _ = _ := by
          simp [profileChecks, profileStructure, profileCandidate, clampInt_eq, clampNat_eq,
            Checked.under_cons, Checked.under_nil, length, slot]
    · rw [if_neg (not_not.2 length), finOf?_eq, if_neg slot]
      simp [profileChecks, Checked.under_cons, length, slot]
  · rw [if_pos length]
    simp [profileChecks, Checked.under_cons, length]

theorem checkSupply_eq (p : List Byte) :
    checkSupply p = Checked.under (supplyChecks p)
      (.store () (supplyCandidate p).1 (supplyCandidate p).2) := by
  calc checkSupply p
      = Checked.under [(.badLength, decide ¬(p.length ≠ 19))] _ := under_if _ _ _
    _ = Checked.under _ (Checked.under _ _) := congrArg _ (under_firstFault _ _)
    _ = _ := by
        simp only [← Checked.under_append]
        refine Checked.under_congr ?_ rfl
        simp [supplyChecks, supplyCandidate, clampNat_eq, beq_eq_decide]

theorem checkGeneral_eq (p : List Byte) :
    checkGeneral p = Checked.under (generalChecks p)
      (.store () (generalCandidate p).1 (generalCandidate p).2) := by
  calc checkGeneral p
      = Checked.under [(.badLength, decide ¬(p.length ≠ 21))] _ := under_if _ _ _
    _ = Checked.under _ (Checked.under _ _) := congrArg _ (under_firstFault _ _)
    _ = _ := by
        simp only [← Checked.under_append]
        refine Checked.under_congr ?_ rfl
        simp [generalChecks, beq_eq_decide]

theorem windowMaskAt_eq (p : List Byte) : windowMaskAt p = maskOffset p := rfl

/-- The two fields that decide a window's length, and the length, come first (R15, R31). -/
theorem windowChecks_length (p : List Byte) (k : Checked (Fin 8) Window) :
    (if p.length ≤ 10 then .refuse .badLength
      else if fieldNat 10 1 p > 1 then .refuse (.badField 3)
      else if p.length ≤ maskOffset p + 1 then .refuse .badLength
      else if fieldNat (maskOffset p + 1) 1 p > 2 then .refuse (.badField 7)
      else if p.length ≠ windowLength p then .refuse .badLength
      else k) = Checked.under ((windowChecks p).take 5) k := by
  rw [under_if, under_if, under_if, under_if, under_if]
  simp only [← Checked.under_append]
  refine Checked.under_congr ?_ rfl
  simp [windowChecks, windowLength, windowMaskAt_eq, beq_eq_decide, Nat.succ_le_iff]
  rfl

theorem checkWindow_eq (p : List Byte) :
    checkWindow p = Checked.under (windowChecks p)
      (.store (finOf 8 (fieldNat 0 1 p)) (windowCandidate p).1 (windowCandidate p).2) := by
  refine (windowChecks_length p _).trans ?_
  conv_rhs => rw [← List.take_append_drop 5 (windowChecks p), Checked.under_append]
  congr 1
  rw [finOf?_eq]
  by_cases slot : fieldNat 0 1 p < 8
  · rw [if_pos slot]
    simp only [windowChecks, List.drop_succ_cons, List.drop_zero, Checked.under_cons (.badField 255),
      slot, decide_true, if_true]
    refine (under_firstFault _ _).trans (Checked.under_congr ?_ rfl)
    simp [windowMaskAt_eq, apply_ite (maskOffset p + ·)]
    exact ⟨rfl, Iff.rfl, rfl⟩
  · rw [if_neg slot]
    simp [windowChecks, Checked.under_cons, slot]

theorem chains_endActionOf (n : Nat) : (endActionOf n).chains = !decide (n ≤ 1) := by
  match n with
  | 0 | 1 | 2 | 3 => rfl
  | n + 4 => simp [endActionOf, EndAction.chains]

/-- The state of a plan write, which decides its length, and the length come first (R15, R16). -/
theorem checkPlan_eq (p : List Byte) :
    checkPlan p = Checked.under (planChecks p)
      (if fieldNat 1 1 p = 0 then .store (finOf 16 (fieldNat 0 1 p)) none []
        else .store (finOf 16 (fieldNat 0 1 p)) (some (planCandidate p).1) (planCandidate p).2) := by
  unfold checkPlan
  dsimp only
  rw [finOf?_eq]
  by_cases short : p.length < 2
  · simp [planChecks, Checked.under_cons, short]
  by_cases empty : fieldNat 1 1 p = 0
  · by_cases length : p.length = 2 <;> by_cases slot : fieldNat 0 1 p < 16 <;>
      simp [planChecks, Checked.under_cons, Checked.under_nil, empty, length, slot, short]
  by_cases state : fieldNat 1 1 p = 1
  · by_cases length : p.length = 30 + fieldNat 27 1 p
    · have two : 2 ≤ 30 + fieldNat 27 1 p := by omega
      have enough : ¬ 30 + fieldNat 27 1 p < 28 := by omega
      by_cases slot : fieldNat 0 1 p < 16
      · have long : ¬(p.length < 28 ∨ p.length ≠ 30 + fieldNat 27 1 p) := by omega
        rw [if_neg short, if_neg empty, if_neg empty, if_neg (not_not.2 state), if_neg long,
          if_pos slot]
        calc _ = Checked.under _ (Checked.under _ _) :=
              (under_firstFault _ _).trans (congrArg _ (under_firstFault _ _))
          _ = Checked.under ((planChecks p).drop 4) _ := by
              rw [← Checked.under_append]
              refine Checked.under_congr ?_ rfl
              simp [planChecks, planStructure, state, chains_endActionOf, bne, beq_eq_decide]
          _ = _ := by simp [planChecks, Checked.under_cons, state, length, slot, two]
      · simp [planChecks, Checked.under_cons, state, length, slot, enough]
        rw [if_neg (by omega), if_pos two]
    · simp [planChecks, Checked.under_cons, short, state, length]
  · have undefinedState : ¬ fieldNat 1 1 p ≤ 1 := by omega
    simp [planChecks, Checked.under_cons, short, state, empty, undefinedState]

/-! ### What is stored lies in its ranges (R16 to R19, R22, R24, R31) -/

theorem profileCandidate_lawful {p : List Byte}
    (knee : (profileCandidate p).1.sMin ≤ (profileCandidate p).1.sKnee ∧
      (profileCandidate p).1.sKnee ≤ (profileCandidate p).1.sMax)
    (gains : (profileCandidate p).1.gKnee ≤ (profileCandidate p).1.gMax) :
    (profileCandidate p).1.Lawful := by
  refine ⟨⟨(clampInt_bounds (by omega) _).1, knee.1, knee.2, (clampInt_bounds (by omega) _).2⟩,
    clampInt_bounds (by omega) _, ⟨gains, clampNat_le _⟩, clampInt_bounds (by omega) _, clampNat_le _,
    clampNat_mem (by omega) _, clampNat_mem (by omega) _, ?_, clampNat_mem (by omega) _,
    clampNat_mem (by omega) _, clampNat_mem (by omega) _, clampNat_mem (by omega) _, clampNat_le _,
    clampNat_le _, clampNat_mem (by omega) _, clampNat_mem (by omega) _, clampNat_mem (by omega) _,
    clampNat_mem (by omega) _, ?_⟩
  · exact Nat.le_of_lt_succ (fieldNat_pair_lt 22 p)
  · intro line
    exact if_pos line

theorem generalCandidate_lawful (p : List Byte) : (generalCandidate p).1.Lawful :=
  ⟨clampNat_le _, clampNat_le _, clampNat_le _, clampNat_le _,
    Nat.le_of_lt_succ (fieldNat_pair_lt 7 p), clampNat_mem (by omega) _, fieldInt_byte_mem 12 p,
    clampNat_mem (by omega) _, clampNat_mem (by omega) _, clampNat_mem (by omega) _⟩

theorem supplyCandidate_lawful {p : List Byte}
    (thrift : (supplyCandidate p).1.thrScarce < (supplyCandidate p).1.thrThrift)
    (scarce : (supplyCandidate p).1.thrCritical < (supplyCandidate p).1.thrScarce) :
    (supplyCandidate p).1.Lawful :=
  ⟨⟨(clampNat_mem (by omega) _).1, scarce, thrift, (clampNat_mem (by omega) _).2⟩, clampNat_le _,
    clampNat_mem (by omega) _, clampNat_le _, clampNat_le _, clampNat_mem (by omega) _,
    forceFactor_lawful _, forceFactor_lawful _, clampNat_mem (by omega) _, clampNat_mem (by omega) _⟩

theorem windowCandidate_lawful (p : List Byte) : (windowCandidate p).1.Lawful := by
  refine ⟨clampNat_le _, clampNat_le _, ?_, ?_⟩
  · intro d dated
    simp only [windowCandidate, Option.ite_none_right_eq_some, Option.mem_def, Option.some.injEq] at dated
    obtain ⟨_, rfl⟩ := dated
    exact ⟨clampNat_le _, clampNat_le _⟩
  · have bound := clampInt_bounds (lo := -160) (hi := 160) (by omega)
    simp only [windowCandidate]
    split
    · trivial
    · rename_i gate
      split at gate
      · cases gate
      · split at gate <;> cases gate
        exact bound _
    · rename_i gate
      split at gate
      · cases gate
      · split at gate <;> cases gate
        exact bound _

theorem planCandidate_lawful {p : List Byte} (passed : firstFailed (planChecks p) = none)
    (state : fieldNat 1 1 p = 1) : (planCandidate p).1.Lawful (finOf 16 (fieldNat 0 1 p)) := by
  have checks := firstFailed_eq_none.1 passed
  simp only [planChecks, state, Nat.one_ne_zero, if_false, List.cons_append, List.nil_append,
    List.forall_mem_cons, decide_eq_true_eq, beq_iff_eq, Bool.or_eq_true] at checks
  obtain ⟨-, -, length, slot, -, -, mode, action, -, entries, target, -⟩ := checks
  refine ⟨clampNat_mem (by decide) _, clampNat_mem (by decide) _,
    Nat.le_of_lt_succ (fieldNat_pair_lt 12 p), clampNat_le _, clampInt_bounds (by omega) _,
    clampInt_bounds (by omega) _, clampNat_le _, clampNat_le _, clampNat_mem (by omega) _,
    ?_, ?_, ?_, ?_, ?_⟩
  · intro o stored
    simp only [planCandidate] at stored
    split at stored
    · cases stored
    · obtain ⟨_, _, rfl⟩ := List.mem_map.1 stored
      exact clampInt_bounds (by omega) _
  · intro single
    exact if_pos single
  · intro several
    have nonzero : fieldNat 26 1 p ≠ 0 := fun zero => several (congrArg bracketModeOf zero)
    have number : (planCandidate p).1.brackets.length = fieldNat 27 1 p := by
      simp only [planCandidate] at several ⊢
      rw [if_neg several, List.length_map, List.length_map, length_slice]
      omega
    rw [number]
    exact entries.resolve_left nonzero
  · by_cases chains : fieldNat (28 + fieldNat 27 1 p) 1 p < 2
    · simp [planCandidate, chains_endActionOf, Nat.le_of_lt_succ chains]
    · have number := (target.resolve_left chains).1
      have chained : ¬ fieldNat (28 + fieldNat 27 1 p) 1 p ≤ 1 := by omega
      simp [planCandidate, chains_endActionOf, finOf?, number, chained]
  · by_cases chains : fieldNat (28 + fieldNat 27 1 p) 1 p < 2
    · simp [planCandidate, chains_endActionOf, Nat.le_of_lt_succ chains]
    · obtain ⟨number, other⟩ := target.resolve_left chains
      simp [planCandidate, chains_endActionOf, finOf?, number, Fin.ext_iff, finOf_val slot, other]

/-! ### A stored record is lawful -/

theorem checkPlan_lawful {p : List Byte} {i : Fin 16} {q : Option Plan} {changed : List Nat}
    (stored : checkPlan p = .store i q changed) : ∀ x ∈ q, x.Lawful i := by
  rw [checkPlan_eq, Checked.under_eq_store] at stored
  obtain ⟨passed, kept⟩ := stored
  split at kept
  · cases kept
    simp
  · next defined =>
    cases kept
    have states := firstFailed_eq_none.1 passed (.badField 0, decide (fieldNat 1 1 p ≤ 1))
      (by simp [planChecks])
    have := of_decide_eq_true states
    intro x here
    cases here
    exact planCandidate_lawful passed (by omega)

theorem checkProfile_lawful {p : List Byte} {i : Fin 4} {q : Profile} {changed : List Nat}
    (stored : checkProfile p = .store i q changed) : q.Lawful := by
  rw [checkProfile_eq, Checked.under_eq_store] at stored
  obtain ⟨passed, kept⟩ := stored
  cases kept
  have checks := firstFailed_eq_none.1 passed
  simp only [profileChecks, List.forall_mem_cons, decide_eq_true_eq] at checks
  obtain ⟨-, -, -, -, -, -, knee, gains, -⟩ := checks
  refine profileCandidate_lawful ?_ ?_ <;>
    simpa only [profileCandidate, clampInt_eq (show (-96 : Int) ≤ 64 by omega),
      clampNat_eq (Nat.zero_le 64), Nat.zero_max]

theorem checkWindow_lawful {p : List Byte} {i : Fin 8} {w : Window} {changed : List Nat}
    (stored : checkWindow p = .store i w changed) : w.Lawful := by
  rw [checkWindow_eq, Checked.under_eq_store] at stored
  obtain ⟨-, kept⟩ := stored
  cases kept
  exact windowCandidate_lawful p

theorem checkGeneral_lawful {p : List Byte} {g : General} {changed : List Nat}
    (stored : checkGeneral p = .store () g changed) : g.Lawful := by
  rw [checkGeneral_eq, Checked.under_eq_store] at stored
  obtain ⟨-, kept⟩ := stored
  cases kept
  exact generalCandidate_lawful p

theorem checkSupply_lawful {p : List Byte} {g : Supply} {changed : List Nat}
    (stored : checkSupply p = .store () g changed) : g.Lawful := by
  rw [checkSupply_eq, Checked.under_eq_store] at stored
  obtain ⟨passed, kept⟩ := stored
  cases kept
  have checks := firstFailed_eq_none.1 passed
  simp only [supplyChecks, List.forall_mem_cons, decide_eq_true_eq] at checks
  obtain ⟨-, thrift, scarce, -⟩ := checks
  refine supplyCandidate_lawful ?_ ?_ <;>
    simpa only [supplyCandidate, clampNat_eq (show 4500 ≤ 16000 by omega)]

end Sys2Proof.Machine


/-! PROOFS. The host requests keep every law of the device: the records that a write stores are lawful
(R15 to R19, R22, R24, R31), and what the storing does to work in progress keeps the others. -/

namespace Sys2Proof.Machine

/-! ### Tables with one record replaced -/

theorem Vector.get_set {α : Type} {n : Nat} (v : Vector α n) (i j : Fin n) (x : α) :
    (v.set i x).get j = if i = j then x else v.get j := by
  simp only [Vector.get_eq_getElem, Vector.getElem_set, Fin.ext_iff]

theorem Tables.Lawful.setPlan {t : Tables} (h : t.Lawful) {i : Fin 16} {p : Option Plan}
    (hp : ∀ x ∈ p, x.Lawful i) : ({ t with plans := t.plans.set i p } : Tables).Lawful := by
  refine ⟨fun j x stored => ?_, h.2⟩
  rw [Vector.get_set] at stored
  split at stored
  · next same => exact same ▸ hp x stored
  · exact h.1 j x stored

theorem Tables.Lawful.setProfile {t : Tables} (h : t.Lawful) {i : Fin 4} {p : Profile}
    (hp : p.Lawful) : ({ t with profiles := t.profiles.set i p } : Tables).Lawful := by
  obtain ⟨plans, profiles, windows⟩ := h
  refine ⟨plans, fun j => ?_, windows⟩
  rw [Vector.get_set]
  split
  · exact hp
  · exact profiles j

theorem Tables.Lawful.setWindow {t : Tables} (h : t.Lawful) {i : Fin 8} {w : Window}
    (hw : w.Lawful) : ({ t with windows := t.windows.set i w } : Tables).Lawful := by
  obtain ⟨plans, profiles, windows, settings⟩ := h
  refine ⟨plans, profiles, fun j => ?_, settings⟩
  rw [Vector.get_set]
  split
  · exact hw
  · exact windows j

theorem Tables.Lawful.setGeneral {t : Tables} (h : t.Lawful) {g : General} (hg : g.Lawful) :
    ({ t with general := g } : Tables).Lawful := by
  obtain ⟨plans, profiles, windows, -, supply⟩ := h
  exact ⟨plans, profiles, windows, hg, supply⟩

theorem Tables.Lawful.setSupply {t : Tables} (h : t.Lawful) {g : Supply} (hg : g.Lawful) :
    ({ t with supply := g } : Tables).Lawful := by
  obtain ⟨plans, profiles, windows, general, -⟩ := h
  exact ⟨plans, profiles, windows, general, hg⟩

/-! ### The storing of records (R23, R25 to R29, R31, R80) -/

theorem Run.takeUp_inRange {r : Run} {old : Option Plan} {q : Plan} {computed : Bool}
    (h : r.InRange) : (r.takeUp old q computed).InRange := by
  cases old <;> (unfold Run.takeUp; dsimp only; split_ifs) <;> exact h

theorem takeUpPlan_preserves (slot : Fin 16) (old : Option Plan) (q : Plan) (s : Part) :
    Preserves s (takeUpPlan slot old q s) := by
  unfold takeUpPlan
  split
  · next r running =>
    split
    · exact preserves_run fun l => Run.takeUp_inRange (l.2.1 r running)
    · exact .refl s
  · exact .refl s

theorem endEmptiedRun_preserves (slot : Fin 16) (s : Part) : Preserves s (endEmptiedRun slot s) := by
  unfold endEmptiedRun
  split
  · split
    · dsimp only
      split
      · exact (endRun_preserves s).trans (cutOperation_preserves _ _)
      · exact endRun_preserves s
    · exact .refl s
  · exact .refl s

theorem emptySlot_preserves (slot : Fin 16) (s : Part) : Preserves s (emptySlot slot s) :=
  (endEmptiedRun_preserves slot _).via (preserves_edit s)

theorem storePlan_preserves {slot : Fin 16} {p : Option Plan} (h : ∀ x ∈ p, x.Lawful slot)
    (s : Part) : Preserves s (storePlan slot p s) := by
  have stored : Preserves s (dropMarkOfPlan slot
      { s with tables := { s.tables with plans := s.tables.plans.set slot p } }) :=
    (preserves_edit _).via (preserves_tables fun l => l.setPlan h)
  unfold storePlan
  cases p with
  | none => exact stored.trans ((emptySlot_preserves slot _).trans (reEvaluate_preserves _))
  | some q => exact stored.trans ((takeUpPlan_preserves slot _ q _).trans (reEvaluate_preserves _))

theorem storeProfile_preserves {slot : Fin 4} {p : Profile} (h : p.Lawful) (s : Part) :
    Preserves s (storeProfile slot p s) := preserves_tables fun l => l.setProfile h

theorem passBoundaries_preserves (s : Part) : Preserves s (passBoundaries s) :=
  preserves_time fun l => l

theorem storeWindow_preserves {slot : Fin 8} {w : Window} (h : w.Lawful) (s : Part) :
    Preserves s (storeWindow slot w s) :=
  (reEvaluate_preserves _).via ((passBoundaries_preserves _).via ((preserves_edit _).via
    ((preserves_edit _).via (preserves_tables fun l => l.setWindow h))))

theorem retimeMeter_preserves (s : Part) : Preserves s (retimeMeter s) := by
  have timed (d : Elapsed) : Preserves s
      (if s.reached d then meterPeriodicDue s.time.elapsed s
        else { s with meter := { s.meter with deadline := d } }) := by
    split
    · exact meterPeriodicDue_preserves _ s
    · exact preserves_meter fun l => l.1
  unfold retimeMeter
  cases s.meter.state with
  | stopped => exact .refl s
  | idle => exact timed _
  | measuring m => exact timed _

theorem disableMeter_preserves (s : Part) : Preserves s (disableMeter s) :=
  (reEvaluate_preserves _).via ((preserves_edit _).via (meterStop_preserves s))

theorem storeGeneral_preserves {g : General} (h : g.Lawful) (s : Part) :
    Preserves s (storeGeneral g s) := by
  have stored : Preserves s { s with tables := { s.tables with general := g } } :=
    preserves_tables fun l => l.setGeneral h
  unfold storeGeneral
  dsimp only
  split
  · exact stored.trans (disableMeter_preserves _)
  · exact stored.trans ((setStartGate_preserves 1 _).trans (meterStart_preserves _))
  · split
    · exact stored
    · exact stored.trans (retimeMeter_preserves _)

theorem retimeBattery_preserves (s : Part) : Preserves s (retimeBattery s) := by
  unfold retimeBattery
  dsimp only
  split
  · exact .refl s
  · split
    · exact periodicDue_preserves _ s
    · exact preserves_edit s

theorem storeSupply_preserves {g : Supply} (h : g.Lawful) (s : Part) :
    Preserves s (storeSupply g s) := by
  have stored : Preserves s { s with tables := { s.tables with supply := g } } :=
    preserves_tables fun l => l.setSupply h
  unfold storeSupply
  dsimp only
  split
  · exact stored
  · exact stored.trans (retimeBattery_preserves _)

/-! ### Clock steps (R9, R11, R12) -/

theorem putClock_preserves {seconds : Nat} (h : seconds ≤ Config.lastSecond) (s : Part) :
    Preserves s (putClock seconds s) := by
  have set : Preserves s { s with time :=
      { s.time with instant := seconds * Config.ticksPerSecond, clock := .set } } :=
    preserves_time fun l => ⟨by
      dsimp only
      simp only [Config.lastSecond, Config.calendarSpan, Config.ticksPerSecond] at h ⊢
      omega, l.2⟩
  exact set.trans ((skipBoundaries_preserves _).trans (preserves_edit _))

/-- The operation edited in its phase and with its readings. -/
theorem preserves_mapOp (s : Part) {f : Operation → Operation} (phase : ∀ o, (f o).phase = o.phase)
    (rehearsal : ∀ o, (f o).rehearsal = o.rehearsal) (inRange : ∀ o, o.InRange → (f o).InRange) :
    Preserves s { s with op := s.op.map f } := by
  cases standing : s.op with
  | none =>
    have unchanged : ({ s with op := Option.map f none } : Part) = s := by
      rw [Option.map_none, ← standing]
    rw [unchanged]
    exact .refl s
  | some o =>
    exact ⟨id, id, .same _, id, sound_op_samePhase standing
      ((Part.takes_op standing).edit (rehearsal o) (inRange o)) (phase o)⟩

theorem moveDue_preserves {due : Nat} {r : Run} {s : Part}
    (h : s.ReadingsLawful → r.InRange) : Preserves s (moveDue due r s) := by
  have run : Preserves s { s with run := some { r with
      nextDue := due, lateLimit := s.tables.general.lateLimit
      wakeReached := false, dueReached := false } } := preserves_run h
  refine run.trans (preserves_mapOp _ (fun o => ?_) (fun o => ?_) fun o inRange => ?_) <;>
    dsimp only <;> split <;> first | rfl | exact inRange

theorem settleDue_preserves (old : Nat) (s : Part) : Preserves s (settleDue old s) := by
  unfold settleDue
  split
  · exact .refl s
  · next r running =>
    have marked (b : Bool) : Preserves s { s with run := some { r with stepCatchUp := b } } :=
      preserves_run fun l => l.2.1 r running
    split
    · exact .refl s
    · split
      · split
        · exact marked true
        · exact catchUp_preserves _ s
      · dsimp only
        split
        · split
          · exact (marked false).trans (moveDue_preserves fun l => l.2.1 _ rfl)
          · exact marked false
        · exact marked false

theorem endReachedWaiting_preserves (s : Part) : Preserves s (endReachedWaiting s) := by
  unfold endReachedWaiting
  split
  · next r running =>
    have marked : Preserves s { s with run := some { r with
        dueReached := decide (r.nextDue ≤ s.now) } } := preserves_run fun l => l.2.1 r running
    dsimp only
    split
    · exact marked.trans (.ofKept (endWaiting_kept _) (endWaiting_sound _))
    · exact marked
  · exact .refl s

theorem stepClock_preserves {seconds : Nat} (h : seconds ≤ Config.lastSecond) (s : Part) :
    Preserves s (stepClock seconds s) := by
  unfold stepClock
  dsimp only
  split
  · exact (putClock_preserves h s).trans (reEvaluate_preserves _)
  · exact (putClock_preserves h s).trans ((withdrawSchedule_preserves _).trans
      ((settleDue_preserves _ _).trans ((noteNextDue_preserves _).trans
        ((endReachedWaiting_preserves _).trans (reEvaluate_preserves _)))))

/-! ### The handling of requests -/

theorem rehearse_preserves {on : Bool} {s : Part} (op : s.op = none) :
    Preserves s (putRehearsal on s) := by
  cases on
  · exact preserves_rehearsal (camera := s.camera) op rfl rfl (by simp) (.inl rfl)
  · exact preserves_rehearsal op rfl rfl (fun _ => rfl) (.inr rfl)

theorem dropKeepWarm_preserves (s : Part) : Preserves s (dropKeepWarm s) := preserves_edit s

/-- A report or a refusal. -/
theorem only_preserves (r : Reply) (s : Part) : Preserves s (only r s).part := .refl s

theorem done_preserves {r : Reply} {s t : Part} (h : Preserves s t) : Preserves s (done r t).part :=
  h.trans (settle_preserves t)

theorem reportWhole_preserves (p : List Byte) (data : Part → List Byte) (s : Part) :
    Preserves s (reportWhole p data s).part := by
  unfold reportWhole
  split <;> exact .refl s

theorem reportSlot_preserves {n : Nat} (p : List Byte) (data : Fin n → List Byte) (s : Part) :
    Preserves s (reportSlot n p data s).part := by
  unfold reportSlot
  split
  · exact .refl s
  · split <;> exact .refl s

theorem handleReadFrames_preserves (p : List Byte) (s : Part) :
    Preserves s (handleReadFrames p s).part := by
  unfold handleReadFrames
  dsimp only
  split
  · exact .refl s
  · split <;> exact .refl s

theorem handleSetClock_preserves (p : List Byte) (s : Part) :
    Preserves s (handleSetClock p s).part := by
  unfold handleSetClock
  dsimp only
  split
  · exact .refl s
  · split
    · exact .refl s
    · next inRange => exact done_preserves (stepClock_preserves (Nat.le_of_not_lt inRange) s)

theorem handleSetTrim_preserves (p : List Byte) (s : Part) :
    Preserves s (handleSetTrim p s).part := by
  unfold handleSetTrim
  dsimp only
  split
  · exact .refl s
  · exact preserves_time fun l => ⟨l.1, clampInt_bounds (by omega) _, l.2.2⟩

theorem handleWrite_preserves {ι α : Type} {checked : Checked ι α} {store : ι → α → Part → Part}
    (h : ∀ i a changed, checked = .store i a changed → ∀ s, Preserves s (store i a s)) (s : Part) :
    Preserves s (handleWrite checked store s).part := by
  cases checked with
  | refuse r => exact .refl s
  | store i a changed => exact done_preserves (h i a changed rfl s)

theorem handleMask_preserves (p : List Byte) (s : Part) : Preserves s (handleMask p s).part := by
  unfold handleMask
  dsimp only
  split
  · exact .refl s
  · split
    · exact .refl s
    · exact preserves_tables fun l => l.setGeneral l.2.2.2.1

theorem handleGetNotices_preserves (p : List Byte) (s : Part) :
    Preserves s (handleGetNotices p s).part := by
  unfold handleGetNotices
  split
  · refine ⟨id, id, .same _, fun l => ⟨?_, fun n hn => l.2 n (List.mem_of_mem_drop hn)⟩, sound_edit s⟩
    dsimp only
    rw [List.map_drop]
    exact l.1.sublist (List.drop_sublist _ _)
  · exact .refl s

theorem whenEmpty_preserves {f : Part → Handled} {s : Part} (p : List Byte)
    (h : Preserves s (f s).part) : Preserves s (whenEmpty p f s).part := by
  unfold whenEmpty
  split
  · exact h
  · exact .refl s

theorem handleArm_preserves (s : Part) : Preserves s (handleArm s).part := by
  unfold handleArm
  split
  · exact .refl s
  · exact done_preserves ((setEngine_preserves _ s).trans (reEvaluate_preserves _))
  · exact done_preserves (reEvaluate_preserves s)
  all_goals exact .refl s

theorem handleDisarm_preserves (s : Part) : Preserves s (handleDisarm s).part := by
  unfold handleDisarm
  split
  · exact .refl s
  all_goals exact done_preserves (disarm_preserves s)

theorem handleResume_preserves (s : Part) : Preserves s (handleResume s).part := by
  unfold handleResume
  split
  · exact done_preserves ((setEngine_preserves _ s).trans
      ((reEvaluate_preserves _).trans (noteNextDue_preserves _)))
  all_goals exact .refl s

theorem handleShoot_preserves (p : List Byte) (s : Part) : Preserves s (handleShoot p s).part := by
  unfold handleShoot
  dsimp only
  split
  · exact .refl s
  · split
    · exact .refl s
    · split_ifs
      all_goals first
        | exact .refl s
        | exact done_preserves (preserves_edit s)

theorem handleAbort_preserves (s : Part) : Preserves s (handleAbort s).part := by
  unfold handleAbort
  split
  · exact .refl s
  · next o standing =>
    split
    all_goals first
      | exact .refl s
      | exact done_preserves (cutOperation_preserves _ s)
      | exact done_preserves (.ofKept (enterWriting_kept _ _)
          (enterWriting_sound ((Part.takes_op standing).edit rfl id)))

/-- The port begins to yield: it stood OWNED, so no lend ran (R125). -/
theorem beginYield_preserves {s : Part} (owned : s.lending.port = .owned) :
    Preserves s (beginYield s) := by
  refine ⟨id, id, .same _, id, fun w => ⟨?_, w.2⟩, id⟩
  obtain ⟨⟨bus, timer, wake, -⟩, -⟩ := w
  rw [owned] at bus timer wake
  exact ⟨bus, timer, fun e => absurd (wake e).1 (by simp), fun _ => rfl⟩

theorem handleLend_preserves (s : Part) : Preserves s (handleLend s).part := by
  unfold handleLend
  split_ifs
  all_goals first
    | exact .refl s
    | exact done_preserves (beginYield_preserves (not_not.1 ‹_›))

theorem handover_preserves (s : Part) : Preserves s (handover s) :=
  .ofKept (handover_kept s) (handover_sound s)

theorem handleReturn_preserves (s : Part) : Preserves s (handleReturn s).part := by
  unfold handleReturn
  split
  all_goals first
    | exact .refl s
    | exact done_preserves ((ownPort_preserves false s).trans (handover_preserves _))

theorem handleCameraReset_preserves (s : Part) : Preserves s (handleCameraReset s).part := by
  have healed : Preserves s (healCamera s) := preserves_edit s
  unfold handleCameraReset
  split
  · exact done_preserves healed
  · exact done_preserves (healed.trans ((rearmEngine_preserves _).trans (noteNextDue_preserves _)))
  · exact .refl s

theorem handleRehearsal_preserves (p : List Byte) (s : Part) :
    Preserves s (handleRehearsal p s).part := by
  unfold handleRehearsal
  dsimp only
  split_ifs with _ _ busy
  all_goals first
    | exact .refl s
    | skip
  simp only [not_or, Bool.not_eq_true, Option.isSome_eq_false_iff, Option.isNone_iff_eq_none] at busy
  exact done_preserves ((rehearse_preserves busy.1).trans (dropKeepWarm_preserves _))

theorem handleSoftReset_preserves (s : Part) : Preserves s (handleSoftReset s).part :=
  preserves_edit s

/-! ### The receive buffer and the reply (R173 to R176) -/

theorem startReply_preserves (f : HostFrame) (r : Reply) (s : Part) :
    Preserves s (startReply f r s) := preserves_edit s

theorem serve_preserves {code : Byte} {p : List Byte} {f : Part → Handled} {s : Part}
    (h : Preserves s (f s).part) : Preserves s (serve code p f s) :=
  h.trans (startReply_preserves _ _ _)

theorem writePlan_preserves (p : List Byte) (s : Part) :
    Preserves s (handleWrite (checkPlan p) storePlan s).part :=
  handleWrite_preserves (fun _ _ _ stored => storePlan_preserves (checkPlan_lawful stored)) s

theorem writeProfile_preserves (p : List Byte) (s : Part) :
    Preserves s (handleWrite (checkProfile p) storeProfile s).part :=
  handleWrite_preserves (fun _ _ _ stored => storeProfile_preserves (checkProfile_lawful stored)) s

theorem writeWindow_preserves (p : List Byte) (s : Part) :
    Preserves s (handleWrite (checkWindow p) storeWindow s).part :=
  handleWrite_preserves (fun _ _ _ stored => storeWindow_preserves (checkWindow_lawful stored)) s

theorem writeSupply_preserves (p : List Byte) (s : Part) :
    Preserves s (handleWrite (checkSupply p) (fun _ => storeSupply) s).part :=
  handleWrite_preserves (fun _ _ _ stored => storeSupply_preserves (checkSupply_lawful stored)) s

theorem writeGeneral_preserves (p : List Byte) (s : Part) :
    Preserves s (handleWrite (checkGeneral p) (fun _ => storeGeneral) s).part :=
  handleWrite_preserves (fun _ _ _ stored => storeGeneral_preserves (checkGeneral_lawful stored)) s

/-- The request of a frame keeps every law, whatever its TYPE (R175). -/
theorem handleFrame_preserves (f : HostFrame) (s : Part) : Preserves s (handleFrame f s).part := by
  unfold handleFrame
  dsimp only
  split
  · exact reportWhole_preserves _ _ s
  · exact handleSetClock_preserves _ s
  · exact reportWhole_preserves _ _ s
  · exact handleSetTrim_preserves _ s
  · exact writePlan_preserves _ s
  · exact reportSlot_preserves _ _ s
  · exact writeProfile_preserves _ s
  · exact reportSlot_preserves _ _ s
  · exact writeWindow_preserves _ s
  · exact reportSlot_preserves _ _ s
  · exact writeSupply_preserves _ s
  · exact reportWhole_preserves _ _ s
  · exact writeGeneral_preserves _ s
  · exact reportWhole_preserves _ _ s
  · exact whenEmpty_preserves _ (handleArm_preserves s)
  · exact whenEmpty_preserves _ (handleDisarm_preserves s)
  · exact whenEmpty_preserves _ (handleResume_preserves s)
  · exact handleShoot_preserves _ s
  · exact whenEmpty_preserves _ (handleAbort_preserves s)
  · exact whenEmpty_preserves _ (handleLend_preserves s)
  · exact whenEmpty_preserves _ (handleReturn_preserves s)
  · exact whenEmpty_preserves _ (handleCameraReset_preserves s)
  · exact whenEmpty_preserves _ (handleSoftReset_preserves s)
  · exact handleRehearsal_preserves _ s
  · exact handleReadFrames_preserves _ s
  · exact handleGetNotices_preserves _ s
  · exact handleMask_preserves _ s
  · exact reportWhole_preserves _ _ s
  · exact .refl s

theorem queueFrame_preserves (f : HostFrame) {now : Part → Part} {s : Part}
    (h : Preserves s (now s)) : Preserves s (queueFrame f now s) := by
  unfold queueFrame
  split_ifs
  · exact h
  · exact preserves_edit s
  · exact .refl s

theorem handleNow_preserves (f : HostFrame) (s : Part) : Preserves s (handleNow f s) :=
  serve_preserves (handleFrame_preserves f s)

theorem placeFrame_preserves (f : HostFrame) (s : Part) : Preserves s (placeFrame f s) :=
  queueFrame_preserves f (handleNow_preserves f s)

theorem receiveHost_preserves (bytes : List Byte) (s : Part) : Preserves s (receiveHost bytes s) := by
  induction bytes generalizing s with
  | nil => exact .refl s
  | cons b bs ih =>
    have built : Preserves s { s with link := { s.link with
        rx := (receiveByte s.link.rx b).building } } := preserves_edit s
    unfold receiveHost
    dsimp only
    split
    · exact (built.trans (placeFrame_preserves _ _)).trans (ih _)
    · exact built.trans (ih _)

theorem putHostRx_preserves (rx : List Byte) (s : Part) : Preserves s (putHostRx rx s) :=
  preserves_edit s

theorem takeHostBytes_preserves (bytes : List Byte) (s : Part) :
    Preserves s (takeHostBytes bytes s) := by
  unfold takeHostBytes
  split
  · exact .refl s
  · exact (receiveHost_preserves _ _).via (putHostRx_preserves _ s)

theorem hostGap_preserves (next : Byte) (s : Part) : Preserves s (hostGap next s) := by
  unfold hostGap
  split
  · exact (reachElapsed_preserves _ s).trans (putHostRx_preserves _ _)
  · exact putHostRx_preserves _ s

theorem replyDone_preserves (s : Part) : Preserves s (replyDone s) := by
  have emptied : Preserves s { s with link :=
      { s.link with handled := none, waiting := none, reply := none } } := preserves_edit s
  unfold replyDone
  dsimp only
  split
  · exact (resetBySoft_preserves s).trans (settle_preserves _)
  · split
    · exact emptied.trans (handleNow_preserves _ _)
    · exact emptied

theorem request_preserves {code : Byte} {p : List Byte} {f : Part → Handled} {s : Part}
    (h : Preserves s (f s).part) : Preserves s (request code p f s) := by
  unfold request
  split
  · exact queueFrame_preserves _ (serve_preserves h)
  · exact .refl s

theorem replyLeaves_preserves (s : Part) : Preserves s (replyLeaves s) := by
  unfold replyLeaves
  split
  · split
    · exact (reachElapsed_preserves _ s).trans (replyDone_preserves _)
    · exact .refl s
  · exact .refl s

theorem softResetTaken_preserves (s : Part) : Preserves s (softResetTaken s) := by
  unfold softResetTaken
  split
  · split
    · exact (reachElapsed_preserves _ s).trans
        ((resetBySoft_preserves _).trans (settle_preserves _))
    · exact .refl s
  · exact .refl s

end Sys2Proof.Machine


/-! PROOFS. The events keep every law of the device: the camera line and the inputs, the timers, the
moments of the calendar, the supply and the resets; and so does every step (R1 to R181). -/

namespace Sys2Proof.Machine

/-! ### Steps taken while the part is awake, and the two ways a moment is reached -/

theorem whileAwake_preserves {f : Part → Part} {s : Part} (h : Preserves s (f s)) :
    Preserves s (whileAwake f s) := by
  unfold whileAwake
  split
  · exact h.trans (settle_preserves _)
  · exact .refl s

theorem settleIfAwake_preserves (s : Part) : Preserves s (settleIfAwake s) := by
  unfold settleIfAwake
  split
  · exact settle_preserves s
  · exact .refl s

theorem expireAt_preserves {due : Part → Option Elapsed} {f : Elapsed → Part → Part}
    (h : ∀ d t, due t = some d → Preserves t (f d t)) (s : Part) :
    Preserves s (expireAt due f s) := by
  refine whileAwake_preserves ?_
  dsimp only
  split
  · next d _ =>
    split
    · next running => exact (reachElapsed_preserves d s).trans (h d _ running)
    · exact reachElapsed_preserves d s
  · exact .refl s

theorem arriveAt_preserves {moment : Part → Option Nat} {f : Part → Part}
    (h : ∀ t, Preserves t (f t)) (s : Part) : Preserves s (arriveAt moment f s) := by
  refine whileAwake_preserves ?_
  split
  · split
    · exact (reachInstant_preserves _ s).trans (h _)
    · exact .refl s
  · exact .refl s

/-! ### The camera line and the inputs (R86, R96, R107 to R111) -/

theorem cameraIdle_preserves (s : Part) : Preserves s (cameraIdle s) :=
  preserves_camera rfl rfl (.inl rfl)

theorem putCameraRx_preserves (rx : List Byte) (s : Part) : Preserves s (putCameraRx rx s) :=
  preserves_camera rfl rfl (.inl rfl)

theorem cameraMessage_preserves {f : Part → Part} (h : ∀ t, Preserves t (f t)) (s : Part) :
    Preserves s (cameraMessage f s) := by
  refine whileAwake_preserves ?_
  split
  · exact cameraIdle_preserves s
  · exact (cameraIdle_preserves s).trans (h _)

theorem readyInRecovery_preserves (s : Part) : Preserves s (readyInRecovery s) := by
  unfold readyInRecovery
  split
  · split
    · split
      · exact attemptSucceeds_preserves _ s
      · exact .refl s
    all_goals exact .refl s
  all_goals exact .refl s

theorem takeReady_preserves (s : Part) : Preserves s (takeReady s) := by
  unfold takeReady
  split
  · exact readyInRecovery_preserves s
  · next o standing =>
    split
    · next phase =>
      split
      · exact .ofKept (leaveWaking_kept o s)
          (leaveWaking_sound standing (by simp [phase, Phase.isWaking]))
      · exact .refl s
    · exact .refl s
    all_goals exact failFrame_preserves _ s

theorem Operation.setsTag_holdsFocus {o : Operation} {tag : Byte} (h : o.setsTag tag = true) :
    o.holdsFocus = false := by
  unfold Operation.setsTag at h
  unfold Operation.holdsFocus
  split at h <;> simp_all

theorem takeAck_preserves (tag : Byte) (s : Part) : Preserves s (takeAck tag s) := by
  unfold takeAck
  split
  · next o standing =>
    split
    · next sets =>
      exact .ofKept (enterFocusing_kept _ s)
        (enterFocusing_sound ((Part.takes_op standing).edit rfl id) fun w =>
          w.dark_of standing (Operation.setsTag_holdsFocus sets))
    · exact .refl s
  · exact .refl s

theorem takeNak_preserves (tag cause : Byte) (s : Part) : Preserves s (takeNak tag cause s) := by
  unfold takeNak
  split
  · split
    · exact failFrame_preserves _ s
    · exact .refl s
  · exact .refl s

theorem takeFrame_preserves {v : Option Int} (s : Part)
    (h : s.ReadingsLawful → brightnessInRange v) : Preserves s (takeFrame v s) :=
  .ofKept (takeFrame_kept v s) (takeFrame_sound h)

theorem clampedB_inRange (i : Int) : brightnessInRange (some (clampInt (-64) 64 i)) := by
  rintro v ⟨⟩
  exact clampInt_bounds (by omega) i

theorem brightnessInRange_or {a b : Option Int} (ha : brightnessInRange a)
    (hb : brightnessInRange b) : brightnessInRange (a.or b) := by
  cases a
  · exact hb
  · exact ha

theorem takeReport_preserves (tag b : Byte) (s : Part) : Preserves s (takeReport tag b s) := by
  unfold takeReport
  dsimp only
  split
  · next o standing =>
    split
    · split
      · exact takeFrame_preserves s fun _ => clampedB_inRange _
      · exact ⟨id, id, .same _, id, sound_op_samePhase standing
          ((Part.takes_op standing).edit rfl fun l =>
            ⟨brightnessInRange_or l.1 (clampedB_inRange _), l.2⟩) rfl⟩
    · exact .refl s
  · exact .refl s

/-- The operation edited with no line active, in its present phase or in another one. -/
theorem preserves_op {s : Part} {o q : Operation} (standing : s.op = some o)
    (unfocused : o.holdsFocus = false) (rehearsal : q.rehearsal = o.rehearsal)
    (inRange : o.InRange → q.InRange) : Preserves s { s with op := some q } :=
  ⟨id, id, .same _, id, sound_op_dark ((Part.takes_op standing).edit rehearsal inRange)
    fun w => w.dark_of standing unfocused⟩

theorem setGone_preserves (s : Part) : Preserves s (setGone s) := by
  have sent : Preserves s { s with camera := { s.camera with tx := none } } :=
    preserves_camera rfl rfl (.inr rfl)
  unfold setGone
  dsimp only
  split
  · next o standing =>
    split
    · next phase =>
      split
      · exact sent.trans (preserves_op standing (by simp [Operation.holdsFocus, phase]) rfl id)
      · exact sent
    · exact sent
  · exact sent

theorem discardBytes_preserves (bytes : List Byte) (s : Part) :
    Preserves s (discardBytes bytes s) := by
  unfold discardBytes
  split
  · exact .refl s
  · exact putCameraRx_preserves _ s

theorem cameraGap_preserves (next : Byte) (s : Part) : Preserves s (cameraGap next s) := by
  unfold cameraGap
  split
  · exact (reachElapsed_preserves _ s).trans (putCameraRx_preserves _ _)
  · exact putCameraRx_preserves _ s

theorem takeCamAct_preserves (active : Bool) (s : Part) : Preserves s (takeCamAct active s) := by
  unfold takeCamAct
  split
  · next o standing =>
    split
    · exact ⟨id, id, .same _, id, sound_op_samePhase standing
        ((Part.takes_op standing).edit rfl id) rfl⟩
    · next phase =>
      exact preserves_op standing (by simp [Operation.holdsFocus, phase]) rfl id
    · next phase =>
      exact .ofKept (completeWrite_kept o s) (completeWrite_sound standing
        (Part.quiet_of standing (by simp [Operation.holdsFocus, phase])))
    · exact .refl s
  · exact .refl s

theorem camActBecomes_preserves (active : Bool) (s : Part) :
    Preserves s (camActBecomes active s) := by
  have shown : Preserves s { s with pins := { s.pins with camAct := active } } := preserves_edit s
  unfold camActBecomes
  dsimp only
  split
  · exact shown.trans ((takeCamAct_preserves active _).trans (settle_preserves _))
  · exact shown

theorem takeEdge_preserves (s : Part) : Preserves s (takeEdge s) := by
  unfold takeEdge
  split
  · exact .refl s
  · split_ifs
    · exact .refl s
    · exact preserves_edit s
    · exact preserves_edit s

theorem triggerBecomes_preserves (rising : Bool) (s : Part) :
    Preserves s (triggerBecomes rising s) := by
  have shown : Preserves s { s with pins := { s.pins with trigger := rising } } := preserves_edit s
  unfold triggerBecomes
  dsimp only
  split
  · exact shown.trans (whileAwake_preserves (takeEdge_preserves _))
  · exact shown

/-! ### The timers of the operation (chapter 6) -/

theorem writingFails_preserves (cause : FailCause) (s : Part) :
    Preserves s (writingFails cause s) := failFrame_preserves _ s

theorem endHold_preserves (s : Part) : Preserves s (endHold s) := by
  unfold endHold
  split
  · next o standing =>
    exact .ofKept (enterWriting_kept o s) (enterWriting_sound (Part.takes_op standing))
  · exact .refl s

theorem endFocus_preserves (s : Part) : Preserves s (endFocus s) := by
  unfold endFocus
  split
  · next o standing =>
    exact .ofKept (enterExposing_kept o s) (enterExposing_sound (Part.takes_op standing))
  · exact .refl s

theorem Operation.synthesized_inRange (o : Operation) : brightnessInRange o.synthesized := by
  unfold Operation.synthesized
  split
  · intro v made
    obtain ⟨a, -, rfl⟩ := Option.map_eq_some_iff.mp made
    exact clampInt_bounds (by omega) _
  · exact brightnessInRange_none

theorem endRehearsalWrite_preserves (s : Part) : Preserves s (endRehearsalWrite s) := by
  unfold endRehearsalWrite
  split
  · next o _ =>
    split
    · exact failFrame_preserves _ s
    · exact takeFrame_preserves s fun _ => o.synthesized_inRange
  · exact .refl s

theorem spacingEnds_preserves {d : Elapsed} {s : Part} (h : s.spacingEnds = some d) :
    Preserves s (beginFrame s) := by
  refine .ofKept (beginFrame_kept s) (beginFrame_sound fun w => ?_)
  unfold Part.spacingEnds at h
  split at h
  · next o standing =>
    split at h
    · next phase => exact w.dark_of standing (by simp [Operation.holdsFocus, phase])
    · cases h
  · cases h

/-- The lend's wake period runs with no operation, so its end puts the port on the host side (R128). -/
theorem lendWakeEnds_preserves {d : Elapsed} {s : Part} (h : s.lendWakeEnds = some d) :
    Preserves s (becomeLent s) := by
  refine .ofKept (becomeLent_kept s) (becomeLent_sound fun w => ?_)
  unfold Part.lendWakeEnds at h
  split at h
  · exact (w.1.2.2.1 (by simp [h])).2
  · cases h

theorem takeBack_preserves (reason : TakenReason) (s : Part) : Preserves s (takeBack reason s) :=
  .ofKept (takeBack_kept reason s) (takeBack_sound reason s)

theorem endWaking_preserves (s : Part) : Preserves s (endWaking s) :=
  .ofKept (endWaking_kept s) (endWaking_sound s)

theorem putSense_preserves (mv : Nat) (c : Int) (s : Part) : Preserves s (putSense mv c s) :=
  preserves_edit s

/-! ### The moments of the calendar (chapters 3, 6 and 8) -/

theorem takeWake_preserves (s : Part) : Preserves s (takeWake s) := by
  unfold takeWake
  split
  · next r running =>
    exact .ofRun (takeWakeTime_kept r s) (takeWakeTime_frame fun l => l r running)
  · exact .refl s

theorem endWaiting_preserves (s : Part) : Preserves s (endWaiting s) :=
  .ofKept (endWaiting_kept s) (endWaiting_sound s)

theorem takeDue_preserves (s : Part) : Preserves s (takeDue s) := by
  unfold takeDue
  split
  · exact .refl s
  · next r running =>
    have noted : Preserves s (noteNextDue { s with run := some { r with dueReached := true } }) :=
      (noteNextDue_preserves _).via (preserves_run fun l => l.2.1 r running)
    dsimp only
    split
    · next reclaiming =>
      exact noted.trans (.ofKept (settleReclaim_kept _) (settleReclaim_sound reclaiming.1))
    · exact noted.trans (endWaiting_preserves _)

theorem missDue_preserves (s : Part) : Preserves s (missDue s) :=
  (Preserves.ofRun (consumeDue_kept _ s) (consumeMissed_frame _ s)).trans
    (.ofRun (afterConsumption_kept _) (afterConsumption_frame _))

theorem reclaimTest_preserves (s : Part) : Preserves s (reclaimTest s) :=
  .ofKept (reclaimTest_kept s) (reclaimTest_sound s)

theorem takeBoundary_preserves (s : Part) : Preserves s (takeBoundary s) :=
  (passBoundaries_preserves s).trans (reEvaluate_preserves _)

theorem takeMidnight_preserves (s : Part) : Preserves s (takeMidnight s) :=
  (reEvaluate_preserves _).via (preserves_time fun l => l)

theorem endMark_preserves (s : Part) : Preserves s (endMark s) :=
  (reEvaluate_preserves _).via (preserves_edit s)

/-! ### The supply (chapter 10) -/

theorem putPack_preserves (mv : Nat) (s : Part) : Preserves s (putPack mv s) := preserves_edit s

theorem takeDeferred_preserves (s : Part) : Preserves s (takeDeferred s) := by
  unfold takeDeferred
  split
  · exact (dropDeferred_preserves s).trans (.ofKept (takePeriodic_kept _) (judgeReading_sound _ _))
  · exact .refl s

/-- Whether the part is powered in a supply state (R156). -/
def SupplyState.powered : SupplyState → Bool
  | .supplied | .riding => true
  | .outage | .restoring => false

/-- The monitor moves between SUPPLIED and RIDING, or between OUTAGE and RESTORING. -/
theorem preserves_monitor_state {s : Part} {monitor : Monitor} (lost : monitor.lost = s.monitor.lost)
    (state : monitor.state.powered = s.monitor.state.powered) :
    Preserves s { s with monitor := monitor } := by
  have awake (t : Part) : t.awake = (!t.monitor.lost && t.monitor.state.powered) := rfl
  refine preserves_monitor ?_
  rw [awake, awake, lost, state]

theorem putMonitor_preserves {state : SupplyState} {s : Part}
    (h : state.powered = s.monitor.state.powered) : Preserves s (putMonitor state s) :=
  preserves_monitor_state rfl h

theorem timeMonitor_preserves {state : SupplyState} {s : Part}
    (h : state.powered = s.monitor.state.powered) : Preserves s (timeMonitor state s) :=
  preserves_monitor_state rfl h

theorem packFalls_preserves (mv : Nat) (s : Part) : Preserves s (packFalls mv s) := by
  have shown := putPack_preserves mv s
  unfold packFalls
  dsimp only
  split
  · exact shown.trans (timeCold_preserves mv _)
  · split
    · next state =>
      split
      · exact shown.trans (timeMonitor_preserves (by rw [state]; rfl))
      · exact shown
    · next state =>
      split
      · exact shown.trans (putMonitor_preserves (by rw [state]; rfl))
      · exact shown
    all_goals exact shown

theorem packRises_preserves (mv : Nat) (s : Part) : Preserves s (packRises mv s) := by
  have shown := putPack_preserves mv s
  unfold packRises
  dsimp only
  split
  · exact shown.trans (timeCold_preserves mv _)
  · split
    · next state =>
      split
      · exact shown.trans ((putMonitor_preserves (by rw [state]; rfl)).trans
          ((takeDeferred_preserves _).trans (settle_preserves _)))
      · exact shown
    · next state =>
      split
      · exact shown.trans (timeMonitor_preserves (by rw [state]; rfl))
      · exact shown
    all_goals exact shown

theorem disarm_monitor (s : Part) : (disarm s).monitor = s.monitor := by
  refine (endRun_kept (b := true) _).monitor.trans ?_
  unfold setEngine
  split <;> rfl

theorem calendarEnds_monitor (s : Part) : (calendarEnds s).monitor = s.monitor := by
  have disarmed (t : Part) : (disarm (withdrawSchedule (raiseNotice .clockNeeded
      (some Config.lastSecond) t))).monitor = t.monitor := by
    rw [disarm_monitor, raiseNotice_eq]
    rfl
  unfold calendarEnds
  dsimp only
  split
  · exact (cutOperation_kept _ _).monitor.trans (disarmed _)
  · exact disarmed _

theorem passTime_monitor (n : Nat) (s : Part) : (passTime n s).monitor = s.monitor := by
  unfold passTime
  dsimp only
  split
  · rfl
  · exact calendarEnds_monitor _

theorem reachElapsed_monitor (d : Elapsed) (s : Part) :
    (reachElapsed d s).monitor = s.monitor := by
  unfold reachElapsed
  split
  · rfl
  · exact passTime_monitor _ s

theorem rideThrough_preserves (s : Part) : Preserves s (monitorExpires .riding outageEntry s) := by
  unfold monitorExpires
  split
  · exact (reachElapsed_preserves _ s).trans (outageEntry_preserves _)
  · exact .refl s

theorem restoreDeadline_preserves (s : Part) :
    Preserves s (monitorExpires .restoring (fun p => settleIfAwake (completeRestore p)) s) := by
  unfold monitorExpires
  split
  · next state =>
    have asleep : (reachElapsed s.monitor.deadline s).awake = false := by
      simp [Part.awake, reachElapsed_monitor, state.2]
    exact (reachElapsed_preserves _ s).trans
      ((completeRestore_preserves asleep).trans (settleIfAwake_preserves _))
  · exact .refl s

theorem cellReports_preserves (low : Bool) (s : Part) : Preserves s (cellReports low s) := by
  have shown : Preserves s { s with monitor := { s.monitor with cellLow := low } } :=
    preserves_monitor rfl
  unfold cellReports
  dsimp only
  split
  · exact shown.trans (loseBackup_preserves _)
  · exact shown

theorem endWithholding_preserves (s : Part) : Preserves s (endWithholding s) :=
  preserves_time fun l => ⟨l.1, l.2.1, Nat.zero_le _⟩

theorem passCalendarEnd_preserves (s : Part) : Preserves s (passCalendarEnd s) := by
  unfold passCalendarEnd
  split
  · exact .refl s
  · exact (passTime_preserves _ s).trans (settleIfAwake_preserves _)

theorem resetLineActive_preserves (s : Part) : Preserves s (resetLineActive s) := by
  unfold resetLineActive
  split
  · exact (resetByLine_preserves s).trans (settle_preserves _)
  · exact .refl s

end Sys2Proof.Machine


/-! PROOFS. Every step keeps the laws of the device: the records and the time base, the journal and the
notices, the port and the lines, and the readings (O13, O57, O58, O59). -/

namespace Sys2Proof.Machine

/-- The commands but the trim boundary, which takes other events within it, and COLD_START, which begins
a new journal. -/
def Instr.ordinary : Instr → Bool
  | .trimBoundary | .coldStart => false
  | _ => true

theorem advance_preserves {f : Part → Part} {s t : State} (h : Preserves s.part (f s.part))
    (ht : advance f s = .next t) : Preserves s.part t.part := by
  cases ht
  exact h

theorem ifAwake_preserves {f : Part → Part} {s : Part} (h : Preserves s (f s)) :
    Preserves s (if s.awake then f s else s) := by
  split
  · exact h
  · exact .refl s

theorem exec_preserves {c : Instr} (h : Instr.ordinary c = true) {s t : State}
    (ht : exec c s = .next t) : Preserves s.part t.part := by
  revert ht
  cases c with
  | trimBoundary | coldStart => cases h
  | getStatus p => exact advance_preserves (request_preserves (reportWhole_preserves _ _ _))
  | setClock p => exact advance_preserves (request_preserves (handleSetClock_preserves _ _))
  | getClock p => exact advance_preserves (request_preserves (reportWhole_preserves _ _ _))
  | setTrim p => exact advance_preserves (request_preserves (handleSetTrim_preserves _ _))
  | writePlan p => exact advance_preserves (request_preserves (writePlan_preserves _ _))
  | readPlan p => exact advance_preserves (request_preserves (reportSlot_preserves _ _ _))
  | writeProfile p => exact advance_preserves (request_preserves (writeProfile_preserves _ _))
  | readProfile p => exact advance_preserves (request_preserves (reportSlot_preserves _ _ _))
  | writeWindow p => exact advance_preserves (request_preserves (writeWindow_preserves _ _))
  | readWindow p => exact advance_preserves (request_preserves (reportSlot_preserves _ _ _))
  | writeSupply p => exact advance_preserves (request_preserves (writeSupply_preserves _ _))
  | readSupply p => exact advance_preserves (request_preserves (reportWhole_preserves _ _ _))
  | writeGeneral p => exact advance_preserves (request_preserves (writeGeneral_preserves _ _))
  | readGeneral p => exact advance_preserves (request_preserves (reportWhole_preserves _ _ _))
  | arm p => exact advance_preserves (request_preserves (whenEmpty_preserves _ (handleArm_preserves _)))
  | disarm p =>
    exact advance_preserves (request_preserves (whenEmpty_preserves _ (handleDisarm_preserves _)))
  | resume p =>
    exact advance_preserves (request_preserves (whenEmpty_preserves _ (handleResume_preserves _)))
  | shoot p => exact advance_preserves (request_preserves (handleShoot_preserves _ _))
  | abort p =>
    exact advance_preserves (request_preserves (whenEmpty_preserves _ (handleAbort_preserves _)))
  | lend p =>
    exact advance_preserves (request_preserves (whenEmpty_preserves _ (handleLend_preserves _)))
  | giveBack p =>
    exact advance_preserves (request_preserves (whenEmpty_preserves _ (handleReturn_preserves _)))
  | cameraReset p =>
    exact advance_preserves (request_preserves (whenEmpty_preserves _ (handleCameraReset_preserves _)))
  | softReset p =>
    exact advance_preserves (request_preserves (whenEmpty_preserves _ (handleSoftReset_preserves _)))
  | softResetTaken => exact advance_preserves (softResetTaken_preserves _)
  | setRehearsal p => exact advance_preserves (request_preserves (handleRehearsal_preserves _ _))
  | readFrames p => exact advance_preserves (request_preserves (handleReadFrames_preserves _ _))
  | getNotices p => exact advance_preserves (request_preserves (handleGetNotices_preserves _ _))
  | maskNotices p => exact advance_preserves (request_preserves (handleMask_preserves _ _))
  | readMeter p => exact advance_preserves (request_preserves (reportWhole_preserves _ _ _))
  | unknownType code p => exact advance_preserves (request_preserves (only_preserves _ _))
  | hostFrameComplete bytes => exact advance_preserves (ifAwake_preserves (takeHostBytes_preserves _ _))
  | hostInterByteGap next => exact advance_preserves (ifAwake_preserves (hostGap_preserves _ _))
  | hostLenAbove250 len => exact advance_preserves (ifAwake_preserves (putHostRx_preserves _ _))
  | replySent => exact advance_preserves (replyLeaves_preserves _)
  | ready => exact advance_preserves (cameraMessage_preserves takeReady_preserves _)
  | ack tag => exact advance_preserves (cameraMessage_preserves (takeAck_preserves tag) _)
  | nak tag cause => exact advance_preserves (cameraMessage_preserves (takeNak_preserves tag cause) _)
  | report tag b => exact advance_preserves (cameraMessage_preserves (takeReport_preserves tag b) _)
  | cameraLineGap next => exact advance_preserves (ifAwake_preserves (cameraGap_preserves _ _))
  | cameraLineLenAbove250 len => exact advance_preserves (ifAwake_preserves (putCameraRx_preserves _ _))
  | cameraFrameDiscarded bytes => exact advance_preserves (ifAwake_preserves (discardBytes_preserves _ _))
  | setSent => exact advance_preserves (expireAt_preserves (fun _ t _ => setGone_preserves t) _)
  | camActChange active => exact advance_preserves (camActBecomes_preserves _ _)
  | triggerEdge rising => exact advance_preserves (triggerBecomes_preserves _ _)
  | withholdEnd => exact advance_preserves (endWithholding_preserves _)
  | calendarEnd => exact advance_preserves (passCalendarEnd_preserves _)
  | wakeTime => exact advance_preserves (arriveAt_preserves takeWake_preserves _)
  | dueReached => exact advance_preserves (arriveAt_preserves takeDue_preserves _)
  | dueLateLimit => exact advance_preserves (arriveAt_preserves missDue_preserves _)
  | requestLateDeadline source =>
    exact advance_preserves (expireAt_preserves (fun _ t _ => withdrawHeld_preserves _ _ t) _)
  | reclaimMoment => exact advance_preserves (arriveAt_preserves reclaimTest_preserves _)
  | windowBoundary => exact advance_preserves (arriveAt_preserves takeBoundary_preserves _)
  | midnight => exact advance_preserves (arriveAt_preserves takeMidnight_preserves _)
  | occurrenceEnd => exact advance_preserves (arriveAt_preserves endMark_preserves _)
  | wakeLeadElapsed =>
    exact advance_preserves (expireAt_preserves (fun _ t _ => endWaking_preserves t) _)
  | readyTimeout | settingTimeout =>
    exact advance_preserves (expireAt_preserves (fun _ t _ => failFrame_preserves _ t) _)
  | prefocusElapsed =>
    exact advance_preserves (expireAt_preserves (fun _ t _ => endFocus_preserves t) _)
  | holdElapsed => exact advance_preserves (expireAt_preserves (fun _ t _ => endHold_preserves t) _)
  | activityTimeout | writeTimeout =>
    exact advance_preserves (expireAt_preserves (fun _ t _ => writingFails_preserves _ t) _)
  | reportWaitExpiry =>
    exact advance_preserves (expireAt_preserves
      (fun _ t _ => takeFrame_preserves t fun _ => brightnessInRange_none) _)
  | burstSpacingEnd =>
    exact advance_preserves (expireAt_preserves (fun _ _ due => spacingEnds_preserves due) _)
  | rehearsalWriteEnd =>
    exact advance_preserves (expireAt_preserves (fun _ t _ => endRehearsalWrite_preserves t) _)
  | lendWakeEnd =>
    exact advance_preserves (expireAt_preserves (fun _ _ due => lendWakeEnds_preserves due) _)
  | lendTimerExpiry =>
    exact advance_preserves (expireAt_preserves (fun _ t _ => takeBack_preserves _ t) _)
  | meterPeriodicDeadline =>
    exact advance_preserves (expireAt_preserves (fun d t _ => meterPeriodicDue_preserves d t) _)
  | gateEnd pulses =>
    exact advance_preserves (expireAt_preserves (fun _ t _ => gateEnds_preserves pulses t) _)
  | batteryPeriodicDeadline mv c =>
    exact advance_preserves (expireAt_preserves
      (fun d t _ => (putSense_preserves mv c t).trans (periodicDue_preserves d _)) _)
  | recoveryOffEnd =>
    exact advance_preserves (expireAt_preserves (fun _ t _ => endOffPhase_preserves t) _)
  | recoveryReadyTimeout | recoveryWakeElapsed =>
    exact advance_preserves (expireAt_preserves (fun _ t _ => endOnPhase_preserves _ t) _)
  | packFall mv => exact advance_preserves (packFalls_preserves _ _)
  | packRise mv => exact advance_preserves (packRises_preserves _ _)
  | rideThroughDeadline => exact advance_preserves (rideThrough_preserves _)
  | restoreDeadline => exact advance_preserves (restoreDeadline_preserves _)
  | backupCellChange low => exact advance_preserves (cellReports_preserves _ _)
  | resetLine => exact advance_preserves (resetLineActive_preserves _)

/-! ### The trim boundary (R6) -/

theorem ownEvents_ordinary {s : Part} {e : Timed} (h : e ∈ s.ownEvents) :
    Instr.ordinary e.event = true := by
  simp only [Part.ownEvents] at h
  split at h <;>
    simp only [Part.supplyEvents, Part.replyEvents, Part.operationEvents, Part.blockEvents,
      Part.sequenceEvents, Part.byElapsed, Part.byInstant, List.mem_append, List.mem_cons,
      List.not_mem_nil, or_false, or_assoc] at h
  · rcases h with rfl | rfl | rfl | rfl | rfl | rfl | rfl | rfl | rfl | rfl | rfl | rfl | rfl | rfl |
      rfl | rfl | rfl | rfl | rfl | rfl | rfl | rfl | rfl | rfl | rfl | rfl | rfl | rfl | rfl | rfl |
      rfl | rfl <;> rfl
  · rcases h with rfl | rfl <;> rfl

theorem takenBy_preserves {t u : Part} {e : Timed} (h : e ∈ u.ownEvents) :
    Preserves t (takenBy e.take t) := by
  unfold takenBy
  split
  · next next taken =>
    rw [take_eq_exec h] at taken
    exact exec_preserves (ownEvents_ordinary h) taken
  all_goals exact .refl t

theorem takeReached_preserves (ago fuel : Nat) (s : Part) :
    Preserves s (takeReached ago fuel s) :=
  takeReached_keeps (holds := Preserves s) ago fuel (.refl s) fun _ _ mem held =>
    held.trans (takenBy_preserves mem)

/-- The clock put to an instant within its range. -/
theorem Preserves.putInstant {s t : Part} {instant : Nat} (h : Preserves s t)
    (hi : s.time.Lawful → instant < Config.calendarSpan) :
    Preserves s { t with time := { t.time with instant := instant } } :=
  ⟨h.tables, fun l => ⟨hi l, (h.time l).2⟩, h.journal, h.notices, h.sound.trans (sound_edit t)⟩

theorem addTrim_preserves {n : Nat} {s : Part} (h : s.time.Lawful → n ≤ 1023) :
    Preserves s (addTrim n s) := by
  unfold addTrim
  split
  · exact passTime_preserves n s
  · dsimp only
    refine (calendarEnds_preserves _).via (Preserves.putInstant
      ((takeReached_preserves _ _ _).via (preserves_time fun l =>
        ⟨show Config.calendarSpan - 1 < Config.calendarSpan by decide, l.2⟩)) fun l => ?_)
    have span : 1023 < Config.calendarSpan := by decide
    have now : s.now < Config.calendarSpan := l.1
    have := h l
    omega

theorem applyTrim_preserves (s : Part) : Preserves s (applyTrim s) := by
  have applied : Preserves s { s with time :=
      { s.time with trimTaken := true, withheld := (-s.time.trim).toNat } } :=
    preserves_time fun l => ⟨l.1, l.2.1, by have := l.2.1; dsimp only; omega⟩
  unfold applyTrim
  dsimp only
  split
  · exact applied.trans (addTrim_preserves fun l => by have := l.2.1; dsimp only at this; omega)
  · exact applied

theorem takeTrimBoundary_preserves (s : Part) : Preserves s (takeTrimBoundary s) := by
  unfold takeTrimBoundary
  split
  · exact .refl s
  · exact (passTime_preserves _ s).trans
      ((applyTrim_preserves _).trans (settleIfAwake_preserves _))

theorem exec_keeps {c : Instr} (h : c ≠ .coldStart) {s t : State} (ht : exec c s = .next t) :
    Preserves s.part t.part := by
  by_cases trim : c = .trimBoundary
  · subst trim
    exact advance_preserves (takeTrimBoundary_preserves _) ht
  · exact exec_preserves (by unfold Instr.ordinary; split <;> simp_all) ht

/-! ### COLD_START (R163) -/

/-- What COLD_START begins from. -/
def freshPart (s : Part) : Part :=
  { Part.coldStart with
    pins := s.pins
    monitor := { Part.coldStart.monitor with cellLow := s.monitor.cellLow } }

theorem startCold_eq (s : Part) : startCold s = immediateReading (freshPart s) := rfl

theorem tick_preserves (s : Part) : Preserves s (tick s) := by
  unfold tick
  split_ifs
  · exact preserves_monitor rfl
  · exact preserves_time fun l => ⟨l.1, l.2.1, (Nat.sub_le _ _).trans l.2.2⟩
  · exact (passTime_preserves 1 s).trans (settleIfAwake_preserves _)

/-! ### Every step (R1 to R181) -/

section Steps

variable {law : Part → Prop}

/-- A law that the operations keep and that a fresh part has, every command keeps. -/
theorem exec_law (kept : ∀ s t, Preserves s t → law s → law t) (fresh : ∀ s, law (freshPart s))
    {c : Instr} {s t : State} (h : law s.part) (ht : exec c s = .next t) : law t.part := by
  by_cases cold : c = .coldStart
  · subst cold
    have taken : takeColdStart s.part = t.part := by cases ht; rfl
    rw [← taken, takeColdStart]
    split
    · exact kept _ _ (periodicDue_preserves _ _) (fresh s.part)
    · exact h
  · exact kept _ _ (exec_keeps cold ht) h

theorem step_law (kept : ∀ s t, Preserves s t → law s → law t) (fresh : ∀ s, law (freshPart s))
    {s t : State} (h : law s.part) (ht : step s = .next t) : law t.part := by
  unfold step idle at ht
  split at ht
  · exact exec_law kept fresh (by exact h) ht
  · split at ht
    · exact exec_law kept fresh h ht
    · exact kept _ _ (advance_preserves (tick_preserves _) ht) h

end Steps

/-! ### The laws at a cold start -/

theorem coldStart_tables_lawful : Tables.coldStart.Lawful := by
  have plan (i : Fin 16) : Tables.coldStart.plans.get i = none := by
    simp [Tables.coldStart, Vector.get_eq_getElem]
  have profile (i : Fin 4) : Tables.coldStart.profiles.get i = Profile.default := by
    simp [Tables.coldStart, Vector.get_eq_getElem]
  have window (i : Fin 8) : Tables.coldStart.windows.get i = Window.default := by
    simp [Tables.coldStart, Vector.get_eq_getElem]
  refine ⟨fun i p stored => ?_, fun i => ?_, fun i => ?_, ?_, ?_⟩
  · rw [plan] at stored
    cases stored
  · rw [profile]
    simp [Profile.Lawful, Profile.default]
  · rw [window]
    simp [Window.Lawful, Window.default]
  · simp [General.Lawful, General.default, Tables.coldStart]
  · simp [Supply.Lawful, Supply.default, Tables.coldStart, lawfulFactor]

theorem coldStart_time_lawful : Part.coldStart.time.Lawful := by
  unfold TimeBase.Lawful
  decide

theorem coldStart_journal_lawful : Part.coldStart.journal.Lawful := by
  unfold Journal.Lawful
  decide

theorem coldStart_notices_lawful : noticesLawful Part.coldStart.notices := by
  simp [noticesLawful, Part.coldStart]

theorem freshPart_wired (s : Part) : (freshPart s).Wired :=
  .of_still ⟨rfl, rfl, by simp [freshPart, Part.coldStart], by simp [freshPart, Part.coldStart]⟩ rfl
    ⟨rfl, rfl⟩ rfl

theorem freshPart_readings (s : Part) : (freshPart s).ReadingsLawful := by
  simp [Part.ReadingsLawful, freshPart, Part.coldStart, ambientInRange]

/-! ### The obligations -/

/-- Settles O13: the writes store records that lie in their ranges, and the clock, the trim and the
withheld periods move only within theirs. -/
theorem recordsStayLawful : Obligations.RecordsStayLawful :=
  ⟨fun _ _ => step_law (law := fun p => p.tables.Lawful) (fun _ _ k => k.tables)
      fun _ => coldStart_tables_lawful,
    fun _ _ => step_law (law := fun p => p.time.Lawful) (fun _ _ k => k.time)
      fun _ => coldStart_time_lawful⟩

/-- Settles O58: the port law and the line law go together through every operation. -/
theorem portAndLinesStayLawful : Obligations.PortAndLinesStayLawful :=
  fun _ _ port lines => step_law (law := Part.Wired) (fun _ _ k => k.sound.wired) freshPart_wired
    ⟨port, lines⟩

/-- Settles O59: a reading comes into the part clamped, and every operation passes it on as it is. -/
theorem readingsStayInRange : Obligations.ReadingsStayInRange :=
  fun _ _ => step_law (law := Part.ReadingsLawful) (fun _ _ k => k.sound.readings)
    freshPart_readings

/-- With none but the newest open, the closing of the newest closes every record. -/
theorem closeNewest_eq_map {rs : List FrameRecord} (h : onlyNewestOpen rs = true) :
    closeNewest rs = rs.map (fun r => { r with flags := { r.flags with isOpen := false } }) := by
  induction rs with
  | nil => rfl
  | cons r rs ih =>
    cases rs with
    | nil => rfl
    | cons q qs =>
      simp only [onlyNewestOpen, Bool.and_eq_true, Bool.not_eq_true'] at h
      rw [closeNewest, ih h.2, List.map_cons (a := r), ← h.1]
      simp

theorem Journal.append_below {j : Journal} (x : FrameRecord) (h : j.Lawful)
    (room : j.nextNumber ≤ lastFrameNumber) : j.append x = { j with
      records := (j.records.map
          (fun r => { r with flags := { r.flags with isOpen := false } })).drop
            (j.records.length - 255) ++ [{ x with number := j.nextNumber }]
      nextNumber := j.nextNumber + 1 } := by
  obtain ⟨capacity, -, -, -, newest⟩ := h
  have stays : j.atAppend = j := if_neg (Nat.not_lt.mpr room)
  have dropped (rs : List FrameRecord) (most : rs.length ≤ journalCapacity) :
      (if rs.length < journalCapacity then rs else rs.drop 1) = rs.drop (rs.length - 255) := by
    have capacity : journalCapacity = 256 := rfl
    split
    · next free => rw [show rs.length - 255 = 0 by omega, List.drop_zero]
    · next full => rw [show rs.length - 255 = 1 by omega]
  unfold Journal.append
  simp only [stays, closeNewest_eq_map newest]
  rw [dropped _ (by rwa [List.length_map]), List.length_map]

theorem Journal.append_beyond {j : Journal} (x : FrameRecord) (full : lastFrameNumber < j.nextNumber) :
    j.append x = { j with records := [{ x with number := 1 }], nextNumber := 2 } := by
  simp [Journal.append, Journal.atAppend, full, closeNewest, journalCapacity]

/-- Settles O57: every operation but COLD_START appends, misses and closes, and a growth keeps the law on
the journal. -/
theorem journalAndNoticesStayLawful : Obligations.JournalAndNoticesStayLawful := by
  refine ⟨fun s t journal notices ht => ?_, fun c s t cold ht => (exec_keeps cold ht).journal,
    fun j x h => ⟨Journal.append_below x h, Journal.append_beyond x⟩⟩
  exact step_law (law := fun p => p.journal.Lawful ∧ noticesLawful p.notices)
    (fun _ _ k l => ⟨k.journal.lawful l.1, k.notices l.2⟩)
    (fun _ => ⟨coldStart_journal_lawful, coldStart_notices_lawful⟩) ⟨journal, notices⟩ ht

end Sys2Proof.Machine


/-! PROOFS. The step and its queue, the part that is not awake, and the state after reset (O1, O2, O3,
O60). -/

namespace Sys2Proof.Machine

/-! ### The step and its queue -/

theorem advance_eq_put (f : Part → Part) (s : State) : advance f s = .next (s.put (f s.part)) := rfl

/-- Every command is an edit of the part alone, so it goes on and leaves the queue. -/
theorem exec_goesOn (c : Instr) (s : State) : ∃ p : Part, exec c s = .next (s.put p) := by
  cases c <;> exact ⟨_, rfl⟩

/-- Settles O1: every command is an edit of the part. -/
theorem commandsGoOnFromTheFrontOfTheQueue : Obligations.CommandsGoOnFromTheFrontOfTheQueue :=
  ⟨fun _ _ _ => rfl, exec_goesOn⟩

theorem step_idle (p : Part) : step ⟨p, []⟩ = idle ⟨p, []⟩ := rfl

theorem step_event {p : Part} {e : Instr} (h : p.nextEvent = some e) :
    step ⟨p, []⟩ = exec e ⟨p, []⟩ := by
  simp only [step_idle, idle, h]

theorem step_tick {p : Part} (h : p.nextEvent = none) : step ⟨p, []⟩ = .next ⟨tick p, []⟩ := by
  simp only [step_idle, idle, h, advance]

theorem settleIfAwake_kept {b : Bool} (s : Part) : Kept b s (settleIfAwake s) := by
  unfold settleIfAwake
  split
  · exact settle_kept s
  · exact .refl s

/-- Ticks that count no trim beyond them move both counters (R1). -/
theorem passTime_within {n : Nat} {s : Part} (trim : s.time.trimBeyond n = 0)
    (h : s.now + n < Config.calendarSpan) : passTime n s = { s with time := { s.time with
      instant := s.now + n, elapsed := s.time.elapsed + BitVec.ofNat 48 n
      withheld := if n = 0 then s.time.withheld else 0
      trimTaken := s.time.trimTaken && n == 0 } } := by
  unfold passTime
  simp only [trim, Nat.add_zero]
  exact if_pos h

/-- The elapsed count modulo the trim spacing, which divides its range. -/
theorem elapsed_add_mod (e : Elapsed) (n : Nat) :
    (e + BitVec.ofNat 48 n).toNat % Config.trimSpacing = (e.toNat + n) % Config.trimSpacing := by
  have divides : Config.trimSpacing ∣ 2 ^ 48 := by decide
  rw [BitVec.toNat_add, BitVec.toNat_ofNat, Nat.mod_mod_of_dvd _ divides, Nat.add_mod,
    Nat.mod_mod_of_dvd _ divides, ← Nat.add_mod]

/-- With no boundary to be taken, one tick brings no trim with it (R6). -/
theorem trimBeyond_one {t : TimeBase} (h : t.toBoundary ≠ 0) : t.trimBeyond 1 = 0 := by
  have past : ¬ (t.elapsed.toNat % Config.trimSpacing = 0 ∧ t.trimTaken = false) :=
    fun taken => h (if_pos taken)
  simp only [TimeBase.trimBeyond, elapsed_add_mod]
  rw [if_neg]
  rintro ⟨beyond, under | ⟨one, due⟩⟩
  · omega
  · simp only [Config.trimSpacing] at past one
    exact past ⟨by omega, due⟩

theorem toBoundary_ne_zero {p : Part} (none : p.nextEvent = none) (alive : p.monitor.lost = false) :
    p.time.toBoundary ≠ 0 := by
  have unreached : p.timedEvents.find? (·.reached) = .none := Option.map_eq_none_iff.mp none
  simp only [Part.timedEvents, alive, Bool.false_eq_true, if_false, List.find?_eq_none] at unreached
  simpa using unreached _ List.mem_cons_self

theorem reached_iff {p : Part} {d : Elapsed} :
    p.reached d = true ↔ (p.time.elapsed - d).toNat < 140737488355328 := by
  simp only [Part.reached, decide_eq_true_eq]
  norm_num

/-- Settles O2: the idle part takes the reached event, and otherwise ticks. -/
theorem idlePartRunsByItself : Obligations.IdlePartRunsByItself := by
  intro p
  refine ⟨fun _ => rfl, fun d => reached_iff, fun e => step_event, fun none lost => ?_,
    fun none alive held => ?_, fun none alive counted range => ?_⟩
  · rw [step_tick none, tick, if_pos lost]
  · rw [step_tick none, tick, if_neg (by simp [alive]), if_pos held]
  · have trim : p.time.trimBeyond 1 = 0 := trimBeyond_one (toBoundary_ne_zero none alive)
    refine ⟨tick p, step_tick none, ?_⟩
    rw [tick, if_neg (by simp [alive]), if_neg (by omega), passTime_within trim range]
    simpa [counted] using settleIfAwake_kept (b := false) _

/-! ### The part that is not awake (R156, R159, R163) -/

theorem request_asleep {s : Part} (h : s.awake = false) (code : Byte) (p : List Byte)
    (f : Part → Handled) : request code p f s = s := by simp [request, h]

theorem exec_still {c : Instr} {f : Part → Part} {s : State} (acts : exec c s = advance f s)
    (h : f s.part = s.part) : exec c s = .next s := by simp only [acts, advance, h]

/-- A request command is the frame of its request, completed at that moment (R174). -/
theorem exec_request {c : Instr} {frame : HostFrame} (h : requestFrame c = some frame) :
    ∃ f, ∀ s, exec c s = advance (request frame.code frame.payload f) s := by
  cases c <;> cases h <;> exact ⟨_, fun _ => rfl⟩

theorem exec_request_asleep {c : Instr} {s : State} (h : (requestFrame c).isSome = true)
    (asleep : s.part.awake = false) : exec c s = .next s := by
  obtain ⟨frame, request⟩ := Option.isSome_iff_exists.mp h
  obtain ⟨f, acts⟩ := exec_request request
  exact exec_still (acts s) (request_asleep asleep _ _ _)

theorem camActBecomes_asleep {s : Part} (asleep : s.awake = false) (active : Bool) :
    camActBecomes active s = { s with pins := { s.pins with camAct := active } } := by
  unfold camActBecomes
  have still : ({ s with pins := { s.pins with camAct := active } } : Part).awake = false := asleep
  simp only [still, Bool.false_and, Bool.false_eq_true, if_false]

theorem triggerBecomes_asleep {s : Part} (asleep : s.awake = false) (rising : Bool) :
    triggerBecomes rising s = { s with pins := { s.pins with trigger := rising } } := by
  unfold triggerBecomes
  have still : ({ s with pins := { s.pins with trigger := rising } } : Part).awake = false := asleep
  simp only [whileAwake_asleep still, ite_self]

/-- Settles O3: each event but those that are taken asleep waits for the part to be awake. -/
theorem sleepingPartTakesNoOtherCommand : Obligations.SleepingPartTakesNoOtherCommand := by
  intro s asleep
  refine ⟨fun active => ?_, fun rising => ?_, fun c other pin edge => ?_⟩
  · exact congrArg (fun p => Host.Outcome.next (s.put p)) (camActBecomes_asleep asleep active)
  · exact congrArg (fun p => Host.Outcome.next (s.put p)) (triggerBecomes_asleep asleep rising)
  · cases c with
    | camActChange active => exact absurd rfl (pin active)
    | triggerEdge rising => exact absurd rfl (edge rising)
    | trimBoundary | withholdEnd | calendarEnd | packFall | packRise | rideThroughDeadline
    | restoreDeadline | backupCellChange | coldStart => cases other
    | getStatus | setClock | getClock | setTrim | writePlan | readPlan | writeProfile | readProfile
    | writeWindow | readWindow | writeSupply | readSupply | writeGeneral | readGeneral | arm | disarm
    | resume | shoot | abort | lend | giveBack | cameraReset | softReset | setRehearsal | readFrames
    | getNotices | maskNotices | readMeter | unknownType =>
      exact exec_request_asleep rfl asleep
    | hostFrameComplete | hostInterByteGap | hostLenAbove250 | cameraLineGap | cameraLineLenAbove250
    | cameraFrameDiscarded | softResetTaken | replySent | resetLine =>
      exact exec_still rfl (if_neg (by simp [asleep]))
    | ready | ack | nak | report | setSent | wakeTime | dueReached | dueLateLimit
    | requestLateDeadline | reclaimMoment | windowBoundary | midnight | occurrenceEnd
    | wakeLeadElapsed | readyTimeout | settingTimeout | prefocusElapsed | holdElapsed
    | activityTimeout | writeTimeout | reportWaitExpiry | burstSpacingEnd | rehearsalWriteEnd
    | lendWakeEnd | lendTimerExpiry | meterPeriodicDeadline | gateEnd | batteryPeriodicDeadline
    | recoveryOffEnd | recoveryReadyTimeout | recoveryWakeElapsed =>
      exact exec_still rfl (whileAwake_asleep asleep _)

/-! ### The state after reset (R30, R163, R166, R178, R182) -/

/-- Settles O60: the state after reset is that of a cold start with its first battery reading. -/
theorem resetIsLawful : Obligations.ResetIsLawful := by
  have wired : State.reset.part.Wired :=
    .of_still ⟨rfl, rfl, by simp [State.reset, Part.coldStart], by simp [State.reset, Part.coldStart]⟩
      rfl ⟨rfl, rfl⟩ rfl
  refine ⟨coldStart_tables_lawful, coldStart_time_lawful, coldStart_journal_lawful,
    coldStart_notices_lawful, wired.1, wired.2, freshPart_readings State.reset.part, rfl, rfl, rfl, rfl,
    rfl, rfl, rfl, rfl, rfl, fun i => ?_, fun i => ?_, fun i => ?_, rfl, rfl⟩
  · simp [Part.planAt, State.reset, Part.coldStart, Tables.coldStart, Vector.get_eq_getElem]
  · simp [State.reset, Part.coldStart, Tables.coldStart, Vector.get_eq_getElem, Profile.default]
  · simp [State.reset, Part.coldStart, Tables.coldStart, Vector.get_eq_getElem, Window.default]

end Sys2Proof.Machine


/-! PROOFS. The requests that are refused, and the write requests (O10, O11, O12): a request with the
receive buffer empty is answered at once, and what a write stores is field by field what its payload
carries. -/

namespace Sys2Proof.Machine

/-! ### A request answered at once (R174, R175) -/

section Answered

variable {c : Instr} {code : Byte} {p : List Byte} {f : Part → Handled} {s : State}

/-- With the receive buffer empty a request is handled at once and its reply begins (R174). -/
theorem exec_handled (acts : exec c s = advance (request code p f) s) (awake : s.part.awake = true)
    (empty : s.part.link.handled = none) :
    exec c s = .next (s.put (startReply ⟨code, p⟩ (f s.part).reply (f s.part).part)) := by
  rw [acts, advance_eq_put, request_handled awake empty]

/-- A request that is only answered. -/
theorem exec_answered {r : Reply} (acts : exec c s = advance (request code p f) s)
    (awake : s.part.awake = true) (empty : s.part.link.handled = none)
    (h : f s.part = only r s.part) : exec c s = .next (s.put (startReply ⟨code, p⟩ r s.part)) := by
  rw [exec_handled acts awake empty, h, only]

end Answered

/-! ### Payloads of another length (R175) -/

section Lengths

variable {p : List Byte} {s : Part}

theorem reportWhole_badLength (h : p.length ≠ 0) (data : Part → List Byte) :
    reportWhole p data s = only .badLength s := if_neg h

theorem whenEmpty_badLength (h : p.length ≠ 0) (f : Part → Handled) :
    whenEmpty p f s = only .badLength s := if_neg h

theorem reportSlot_badLength {n : Nat} (h : p.length ≠ 1) (data : Fin n → List Byte) :
    reportSlot n p data s = only .badLength s := if_pos h

theorem handleWrite_refused {ι α : Type} {checked : Checked ι α} {r : Reply}
    (h : checked = .refuse r) (store : ι → α → Part → Part) :
    handleWrite checked store s = only r s := by
  subst h
  rfl

theorem handleWrite_stored {ι α : Type} {checked : Checked ι α} {i : ι} {a : α} {changed : List Nat}
    (h : checked = .store i a changed) (store : ι → α → Part → Part) :
    handleWrite checked store s = done (storedReply changed) (store i a s) := by
  subst h
  rfl

end Lengths

/-! ### The check that fails first (R15) -/

section Refusals

variable (p : List Byte) (r : Reply)

theorem checkPlan_refuse_iff : checkPlan p = .refuse r ↔ firstFailed (planChecks p) = some r := by
  rw [checkPlan_eq]
  split <;> exact Checked.under_eq_refuse

theorem checkProfile_refuse_iff :
    checkProfile p = .refuse r ↔ firstFailed (profileChecks p) = some r := by
  rw [checkProfile_eq, Checked.under_eq_refuse]

theorem checkWindow_refuse_iff :
    checkWindow p = .refuse r ↔ firstFailed (windowChecks p) = some r := by
  rw [checkWindow_eq, Checked.under_eq_refuse]

theorem checkSupply_refuse_iff :
    checkSupply p = .refuse r ↔ firstFailed (supplyChecks p) = some r := by
  rw [checkSupply_eq, Checked.under_eq_refuse]

theorem checkGeneral_refuse_iff :
    checkGeneral p = .refuse r ↔ firstFailed (generalChecks p) = some r := by
  rw [checkGeneral_eq, Checked.under_eq_refuse]

end Refusals

theorem fixedRequest_badLength {c : Instr} {code : Byte} {p : List Byte} {n : Nat} {s : State}
    (fixed : fixedRequest c = some (code, p, n)) (awake : s.part.awake = true)
    (empty : s.part.link.handled = none) (length : p.length ≠ n) :
    exec c s = .next (s.put (startReply ⟨code, p⟩ .badLength s.part)) := by
  cases c <;> cases fixed
  case getStatus | getClock | readSupply | readGeneral | readMeter =>
    exact exec_answered rfl awake empty (reportWhole_badLength length _)
  case arm | disarm | resume | abort | lend | giveBack | cameraReset | softReset =>
    exact exec_answered rfl awake empty (whenEmpty_badLength length _)
  case readPlan | readProfile | readWindow =>
    exact exec_answered rfl awake empty (reportSlot_badLength length _)
  case setClock | setTrim | setRehearsal | readFrames | maskNotices =>
    exact exec_answered rfl awake empty (if_pos length)
  case getNotices => exact exec_answered rfl awake empty (if_neg length)
  case writeProfile =>
    exact exec_answered rfl awake empty (handleWrite_refused (if_pos length) _)
  case writeSupply | writeGeneral =>
    exact exec_answered rfl awake empty (handleWrite_refused (if_pos length) _)

/-- Settles O10: the lists of checks are those of the write requests, and the first that fails is
answered. -/
theorem refusedRequestsChangeNothing : Obligations.RefusedRequestsChangeNothing := by
  refine ⟨fun c code p n s => fixedRequest_badLength, fun p r s awake empty => ?_, fun p r =>
    ⟨checkPlan_refuse_iff p r, checkProfile_refuse_iff p r, checkWindow_refuse_iff p r,
      checkSupply_refuse_iff p r, checkGeneral_refuse_iff p r⟩⟩
  refine ⟨fun h => ?_, fun h => ?_, fun h => ?_, fun h => ?_, fun h => ?_⟩
  · exact exec_answered rfl awake empty (handleWrite_refused ((checkPlan_refuse_iff p r).2 h) _)
  · exact exec_answered rfl awake empty (handleWrite_refused ((checkProfile_refuse_iff p r).2 h) _)
  · exact exec_answered rfl awake empty (handleWrite_refused ((checkWindow_refuse_iff p r).2 h) _)
  · exact exec_answered rfl awake empty (handleWrite_refused ((checkSupply_refuse_iff p r).2 h) _)
  · exact exec_answered rfl awake empty (handleWrite_refused ((checkGeneral_refuse_iff p r).2 h) _)

end Sys2Proof.Machine


/-! PROOFS. What an accepted write stores, field by field (R15 to R19, R22, R24, R31): the candidate of
each write request against its payload, and the fields that the reply names. -/

namespace Sys2Proof.Machine

/-! ### The fields that a reply names (R15 step 6) -/

theorem storedReply_eq (changed : List Nat) :
    storedReply changed = if changed = [] then .ok [] else .adjusted changed := by
  cases changed <;> rfl

theorem mem_changedFields_cons {k i : Nat} {b : Bool} {fields : List (Nat × Bool)} :
    k ∈ changedFields ((i, b) :: fields) ↔ k = i ∧ b = true ∨ k ∈ changedFields fields := by
  cases b <;> simp [changedFields]

theorem changedFields_nil : changedFields [] = [] := rfl

/-- Fields listed in increasing order are named in increasing order, each once. -/
theorem changedFields_pairwise {fields : List (Nat × Bool)}
    (h : (fields.map (·.1)).Pairwise (· < ·)) : (changedFields fields).Pairwise (· < ·) :=
  h.sublist (List.filter_sublist.map _)

/-- An enumeration's value by its place in its table (R183). -/
theorem exposureModeOf_eq {n : Nat} (h : n < 4) :
    ([.fixed, .ambient, .feedback, .blend] : List ExposureMode)[n]? = some (exposureModeOf n) := by
  match n, h with
  | 0, _ | 1, _ | 2, _ | 3, _ => rfl

theorem startRuleOf_eq {n : Nat} (h : n < 3) :
    ([.fromPlan, .fromAmbient, .inherit] : List StartRule)[n]? = some (startRuleOf n) := by
  match n, h with
  | 0, _ | 1, _ | 2, _ => rfl

theorem bracketModeOf_eq {n : Nat} (h : n < 3) :
    ([.single, .rotate, .burst] : List BracketMode)[n]? = some (bracketModeOf n) := by
  match n, h with
  | 0, _ | 1, _ | 2, _ => rfl

theorem endActionOf_eq {n : Nat} (h : n < 4) :
    ([.stopNotify, .stopSilent, .chain, .chainNotify] : List EndAction)[n]? =
      some (endActionOf n) := by
  match n, h with
  | 0, _ | 1, _ | 2, _ | 3, _ => rfl

theorem bracketModeOf_single {n : Nat} (h : n < 3) : bracketModeOf n = .single ↔ n = 0 := by
  match n, h with
  | 0, _ | 1, _ | 2, _ => simp [bracketModeOf]

/-! ### The candidates against their payloads -/

theorem supplyCandidate_fields (p : List Byte) :
    SupplyFields p (supplyCandidate p).1 (supplyCandidate p).2 where
  thresholds := ⟨clampNat_eq (by omega) _, clampNat_eq (by omega) _, clampNat_eq (by omega) _⟩
  judging := by simp [supplyCandidate, clampNat_eq]
  factors := by
    simp only [supplyCandidate, forceFactor]
    constructor <;> split_ifs <;> omega
  outage := ⟨clampNat_eq (by omega) _, clampNat_eq (by omega) _⟩
  adjusted := ⟨changedFields_pairwise (by simp), fun k => by
    simp only [supplyCandidate, mem_changedFields_cons, changedFields_nil, List.not_mem_nil, or_false,
      bne_iff_ne]⟩

theorem generalCandidate_fields {p : List Byte} (passed : firstFailed (generalChecks p) = none) :
    GeneralFields p (generalCandidate p).1 (generalCandidate p).2 := by
  have checks := firstFailed_eq_none.1 passed
  simp only [generalChecks, List.forall_mem_cons, decide_eq_true_eq] at checks
  obtain ⟨-, -, -, -, mask, number, -⟩ := checks
  refine ⟨by simp [generalCandidate, clampNat_eq], by simp [generalCandidate, clampNat_eq],
    ⟨?_, rfl, rfl⟩, ⟨by simp [generalCandidate], clampNat_eq (by omega) _, rfl⟩,
    ⟨clampNat_eq (by omega) _, clampNat_eq (by omega) _, clampNat_eq (by omega) _, rfl⟩,
    Nat.mod_eq_of_lt mask, ⟨changedFields_pairwise (by simp), fun k => ?_⟩⟩
  · by_cases absent : fieldNat 5 1 p = 255
    · simp [generalCandidate, absent]
    · simp [generalCandidate, absent, finOf?, number.resolve_right absent]
  · simp only [generalCandidate, mem_changedFields_cons, changedFields_nil, List.not_mem_nil, or_false,
      bne_iff_ne]

theorem profileCandidate_fields {p : List Byte} (passed : firstFailed (profileChecks p) = none) :
    ProfileFields p (profileCandidate p).1 (profileCandidate p).2 := by
  have checks := firstFailed_eq_none.1 passed
  simp only [profileChecks, List.forall_mem_cons, decide_eq_true_eq] at checks
  obtain ⟨-, -, line, report, wake, -⟩ := checks
  refine ⟨rfl, ?_, rfl, ⟨clampInt_eq (by omega) _, clampInt_eq (by omega) _, clampInt_eq (by omega) _,
    clampInt_eq (by omega) _⟩, by simp [profileCandidate, clampNat_eq], clampInt_eq (by omega) _,
    by simp [profileCandidate, clampNat_eq], by simp [profileCandidate, clampNat_eq],
    by simp [profileCandidate, clampNat_eq], by simp [profileCandidate, clampNat_eq],
    ⟨changedFields_pairwise (by simp), fun k => ?_⟩⟩
  · interval_cases hl : fieldNat 1 1 p <;> interval_cases hr : fieldNat 2 1 p <;>
      simp [profileCandidate, hl, hr]
  · have named : ((profileCandidate p).1.report != if fieldNat 2 1 p = 0 then .noReport else .report) =
        true ↔ fieldNat 1 1 p = 1 ∧ fieldNat 2 1 p = 1 := by
      interval_cases hl : fieldNat 1 1 p <;> interval_cases hr : fieldNat 2 1 p <;>
        simp [profileCandidate, hl, hr]
    simp only [profileCandidate, mem_changedFields_cons, changedFields_nil, List.not_mem_nil, or_false,
      bne_iff_ne] at named ⊢
    rw [named]

/-- A clamped number is a changed one just where it lies outside its range. -/
theorem clampNat_ne_iff {hi n : Nat} : clampNat 0 hi n ≠ n ↔ hi < n := by
  rw [clampNat_eq (Nat.zero_le _)]
  omega

theorem clampInt_ne_iff {lo hi i : Int} (h : lo ≤ hi) : clampInt lo hi i ≠ i ↔ i < lo ∨ hi < i := by
  rw [clampInt_eq h]
  omega

theorem windowCandidate_fields {p : List Byte} (passed : firstFailed (windowChecks p) = none) :
    WindowFields p (windowCandidate p).1 (windowCandidate p).2 := by
  have checks := firstFailed_eq_none.1 passed
  simp only [windowChecks, List.forall_mem_cons, decide_eq_true_eq] at checks
  obtain ⟨-, -, -, kind, -, -, -, mask, -, plan, -⟩ := checks
  refine ⟨by simp [windowCandidate], by simp [windowCandidate, clampNat_eq],
    by simp [windowCandidate, clampNat_eq], ?_, ?_, ?_, ⟨changedFields_pairwise (by simp), fun k => ?_⟩⟩
  · exact Nat.mod_eq_of_lt mask
  · simp only [windowCandidate, windowMaskAt_eq, clampInt_eq (show (-160 : Int) ≤ 160 by omega)]
    interval_cases fieldNat (maskOffset p + 1) 1 p <;> rfl
  · by_cases gated : fieldNat (maskOffset p + 1) 1 p = 0 <;> simp only [gated, if_true, if_false] at plan ⊢ <;>
      simpa [windowCandidate, windowMaskAt_eq, gated] using finOf_val plan
  · simp only [windowCandidate, windowMaskAt_eq, mem_changedFields_cons, changedFields_nil,
      List.not_mem_nil, or_false, bne_iff_ne, Bool.and_eq_true, decide_eq_true_eq, clampNat_ne_iff,
      clampInt_ne_iff (show (-160 : Int) ≤ 160 by omega)]

theorem planCandidate_fields {p : List Byte} (passed : firstFailed (planChecks p) = none)
    (state : fieldNat 1 1 p = 1) : PlanFields p (planCandidate p).1 (planCandidate p).2 := by
  have checks := firstFailed_eq_none.1 passed
  simp only [planChecks, state, Nat.one_ne_zero, if_false, List.cons_append, List.nil_append,
    List.forall_mem_cons, decide_eq_true_eq, beq_iff_eq, Bool.or_eq_true] at checks
  obtain ⟨-, -, length, slot, exposure, start, mode, action, profile, entries, target, -⟩ := checks
  have offsets : ((slice 28 (fieldNat 27 1 p) p).map (fun b => beInt [b])) =
      (slice 28 (fieldNat 27 1 p) p).map (·.toInt) := by simp only [beInt_byte]
  refine ⟨exposureModeOf_eq exposure, finOf_val profile,
    ⟨clampNat_eq (by decide) _, clampNat_eq (by decide) _⟩, by simp [planCandidate, clampNat_eq],
    startRuleOf_eq start, ⟨clampInt_eq (by omega) _, clampInt_eq (by omega) _⟩,
    by simp [planCandidate, clampNat_eq], bracketModeOf_eq mode, ?_, endActionOf_eq action, ?_,
    ⟨changedFields_pairwise (by simp), fun k => ?_⟩⟩
  · simp [planCandidate, bracketModeOf_single mode, beInt_byte, clampInt_eq, Function.comp_def]
  · by_cases ends : fieldNat (28 + fieldNat 27 1 p) 1 p < 2
    · simp [planCandidate, chains_endActionOf, Nat.le_of_lt_succ ends]
    · have number := (target.resolve_left ends).1
      have chained : ¬ fieldNat (28 + fieldNat 27 1 p) 1 p ≤ 1 := by omega
      simp [planCandidate, chains_endActionOf, finOf?, number, chained]
  · simp only [planCandidate, mem_changedFields_cons, changedFields_nil, List.not_mem_nil, or_false,
      bne_iff_ne, offsets]

end Sys2Proof.Machine


/-! PROOFS. The accepted writes (O11, O12): what the storing of each record leaves, with the tail of its
step, and the parts in which nothing goes on and the tail finds nothing to do. -/

namespace Sys2Proof.Machine

/-! ### Frames and replies -/

section Frames

variable {b : Bool} {s t : Part}

/-- The reply that begins after a change is the one that would have begun before it. -/
theorem Kept.startReply (h : Kept b s t) (f : HostFrame) (r : Reply) :
    Kept b (Machine.startReply f r s) (Machine.startReply f r t) :=
  { h with
    link := by simp only [Machine.startReply, Part.after, h.link, h.time]
    journal := h.journal
    notices := h.notices
    rare := h.rare
    health := h.health
    measuring := h.measuring }

/-- The battery supervisor's own fields are named by the part after. -/
theorem Kept.ownBattery {battery : Battery} (h : Kept b { s with battery := battery } t) :
    Kept b { s with battery := t.battery } t :=
  { h with cadence := ⟨rfl, rfl, rfl⟩ }

end Frames

/-! ### Parts in which nothing goes on -/

/-- In DISARMED with no run the selector only looks at the done mark (R35). -/
theorem reEvaluate_disarmed {s : Part} (engine : s.engine = .disarmed) :
    reEvaluate s = { s with doneMark := markAfter s.selectedWindow s.now s.doneMark } := by
  unfold reEvaluate
  exact if_pos engine

theorem reEvaluate_idle {s : Part} (engine : s.engine = .disarmed) (mark : s.doneMark = none) :
    reEvaluate s = s := by
  rw [reEvaluate_disarmed engine, mark, markAfter, ← mark]

/-- A DISARMED part with no run, no operation, nothing requested and no lend. -/
structure Part.Idle (s : Part) : Prop where
  alone : s.Alone
  op : s.op = none
  engine : s.engine = .disarmed

namespace Part.Idle

variable {s t : Part}

/-- An edit of the fields beside those that are to stand still. -/
theorem congr (h : s.Idle) (run : t.run = s.run) (arbiter : t.arbiter = s.arbiter)
    (lending : t.lending = s.lending) (op : t.op = s.op) (engine : t.engine = s.engine) : t.Idle where
  alone := by simpa only [Part.Alone, run, arbiter, lending] using h.alone
  op := op.trans h.op
  engine := engine.trans h.engine

theorem setBattery (h : s.Idle) (battery : Battery) : ({ s with battery := battery } : Part).Idle :=
  h.congr rfl rfl rfl rfl rfl

theorem settle (h : s.Idle) : Machine.settle s = s := settle_alone h.alone h.op

theorem raiseAndTest (h : s.Idle) : arbiterTest (raiseSchedule s) = s := by
  obtain ⟨run, schedule, external, manual, -⟩ := h.alone
  rw [raiseSchedule_noRun run, arbiterTest_empty schedule external manual]

theorem lendTest (h : s.Idle) : Machine.lendTest s = s :=
  lendTest_idle (.inl (by simp [h.alone.2.2.2.2]))

end Part.Idle

theorem excludeHolders_idle {s : Part} (h : s.Idle) (old new : Level) :
    (excludeHolders old new s).Idle ∧ (excludeHolders old new s).battery = s.battery := by
  have dropped : (if old = .normal ∧ new ≠ .normal then dropKeepWarm s else s).Idle ∧
      (if old = .normal ∧ new ≠ .normal then dropKeepWarm s else s).battery = s.battery := by
    split
    · exact ⟨h.congr rfl rfl rfl rfl rfl, rfl⟩
    · exact ⟨h, rfl⟩
  have entered (t : Part) (ht : t.Idle) : (criticalEntry t).Idle ∧
      (criticalEntry t).battery = t.battery := by
    have owned : (dropLend (dropKeepWarm t)).lending.port = .owned := ht.alone.2.2.2.2
    unfold criticalEntry
    simp only [owned]
    exact ⟨ht.congr rfl rfl rfl rfl rfl, rfl⟩
  unfold excludeHolders
  extract_lets u v
  have excluded : v.Idle ∧ v.battery = s.battery := by
    unfold v
    split
    · exact ⟨(entered u dropped.1).1, (entered u dropped.1).2.trans dropped.2⟩
    · exact dropped
  split
  · exact excluded
  · rw [excluded.1.raiseAndTest]
    exact excluded

/-- A change of level sets the level and the streaks of a part in which nothing goes on (R147). -/
theorem changeLevel_idle {s : Part} (h : s.Idle) (new : Level) :
    (changeLevel new s).Idle ∧
      (changeLevel new s).battery = { s.battery with level := new, worse := 0, better := 0 } := by
  have excluded (t : Part) (ht : t.Idle) : (reEvaluate (excludeHolders s.battery.level new
        (raiseNotice .levelChanged (some new.rank) t))).Idle ∧
      (reEvaluate (excludeHolders s.battery.level new
        (raiseNotice .levelChanged (some new.rank) t))).battery = t.battery := by
    have raised : (raiseNotice .levelChanged (some new.rank) t).Idle := by
      rw [raiseNotice_eq]
      exact ht.congr rfl rfl rfl rfl rfl
    obtain ⟨idle, battery⟩ := excludeHolders_idle raised s.battery.level new
    rw [reEvaluate_disarmed idle.engine]
    refine ⟨idle.congr rfl rfl rfl rfl rfl, battery.trans ?_⟩
    rw [raiseNotice_eq]
  obtain ⟨idle, battery⟩ := excluded
    { s with battery := { s.battery with level := new, worse := 0, better := 0 } }
    (h.congr rfl rfl rfl rfl rfl)
  unfold changeLevel
  dsimp only
  split
  · rw [idle.raiseAndTest, idle.lendTest]
    exact ⟨idle, battery⟩
  · exact ⟨idle, battery⟩

/-! ### The storing of records leaves the rest alone (R25 to R29, R31) -/

theorem storePlan_kept (i : Fin 16) (p : Option Plan) (s : Part) :
    Kept true { s with tables := { s.tables with plans := s.tables.plans.set i p } }
      (storePlan i p s) := by
  have unmarked : Kept true { s with tables := { s.tables with plans := s.tables.plans.set i p } }
      (dropMarkOfPlan i { s with tables := { s.tables with plans := s.tables.plans.set i p } }) :=
    kept_edit _
  have ended (t : Part) : Kept true t (endEmptiedRun i t) := by
    unfold endEmptiedRun
    split
    · split
      · dsimp only
        split
        · exact (endRun_kept t).trans (cutOperation_kept _ _)
        · exact endRun_kept t
      · exact .refl t
    · exact .refl t
  have taken (old : Option Plan) (q : Plan) (t : Part) : Kept true t (takeUpPlan i old q t) := by
    unfold takeUpPlan
    split
    · split
      · exact kept_edit t
      · exact .refl t
    · exact .refl t
  unfold storePlan
  cases p with
  | none => exact unmarked.trans (((ended _).via (kept_edit _)).trans (reEvaluate_kept _))
  | some q => exact unmarked.trans ((taken _ q _).trans (reEvaluate_kept _))

theorem dropMarkOfPlan_none {s : Part} (mark : s.doneMark = none) (i : Fin 16) :
    dropMarkOfPlan i s = s := by
  rw [dropMarkOfPlan, mark, Option.filter_none, ← mark]

theorem endEmptiedRun_noRun {s : Part} (run : s.run = none) (i : Fin 16) :
    endEmptiedRun i s = s := by simp only [endEmptiedRun, run]

theorem takeUpPlan_noRun {s : Part} (run : s.run = none) (i : Fin 16) (old : Option Plan) (q : Plan) :
    takeUpPlan i old q s = s := by simp only [takeUpPlan, run]

theorem emptySlot_idle {s : Part} (h : s.Idle) (i : Fin 16) : emptySlot i s = s := by
  obtain ⟨run, -, external, manual, -⟩ := h.alone
  have heldExternal : dropNaming i s.arbiter.external = s.arbiter.external := by rw [external]; rfl
  have heldManual : dropNaming i s.arbiter.manual = s.arbiter.manual := by rw [manual]; rfl
  rw [emptySlot, heldExternal, heldManual]
  exact endEmptiedRun_noRun run i

theorem storePlan_idle {i : Fin 16} {p : Option Plan} {s : Part} (h : s.Idle)
    (mark : s.doneMark = none) :
    storePlan i p s = { s with tables := { s.tables with plans := s.tables.plans.set i p } } := by
  have idle : ({ s with tables := { s.tables with plans := s.tables.plans.set i p } } : Part).Idle :=
    h.congr rfl rfl rfl rfl rfl
  unfold storePlan
  dsimp only
  rw [dropMarkOfPlan_none (by exact mark)]
  cases p with
  | none =>
    dsimp only
    rw [emptySlot_idle idle, reEvaluate_idle idle.engine (by exact mark)]
  | some q =>
    dsimp only
    rw [takeUpPlan_noRun idle.alone.1, reEvaluate_idle idle.engine (by exact mark)]

/-- A window as stored, with its gate state where the gate kind is a new one, and the boundaries up to
now passed (R31, assumption 9). -/
def storedWindow (i : Fin 8) (w : Window) (s : Part) : Part :=
  { s with
    tables := { s.tables with windows := s.tables.windows.set i w }
    time := { s.time with boundarySeen := s.now }
    gates :=
      if (s.tables.windows.get i).gate.kind = w.gate.kind then s.gates else s.gates.set i false }

theorem storeWindow_eq (i : Fin 8) (w : Window) (s : Part) :
    storeWindow i w s = reEvaluate { storedWindow i w s with
      doneMark := s.doneMark.filter (fun m => m.window != i) } := by
  simp only [storeWindow, storedWindow, passBoundaries, dropMarkOfWindow, beq_iff_eq]
  rfl

theorem storeWindow_kept {b : Bool} (i : Fin 8) (w : Window) (s : Part) :
    Kept b (storedWindow i w s) (storeWindow i w s) := by
  rw [storeWindow_eq]
  exact (reEvaluate_kept _).via (kept_edit _)

theorem storeWindow_idle {i : Fin 8} {w : Window} {s : Part} (h : s.Idle) (mark : s.doneMark = none) :
    storeWindow i w s = storedWindow i w s := by
  have unmarked : s.doneMark.filter (fun m => m.window != i) = (storedWindow i w s).doneMark := by
    rw [mark]
    exact mark.symm
  rw [storeWindow_eq, unmarked]
  exact reEvaluate_idle h.engine mark

/-! ### The supply settings (R25) -/

theorem eighths_eq (n : Nat) : eighths n = 4096 * n := Nat.mul_comm _ _

/-- The battery supervisor as a periodic reading due now leaves it, before the reading (R141). -/
def Battery.due (b : Battery) (s : Part) : Battery :=
  { b with lastDue := s.time.elapsed
           deadline := some (s.after (4096 * s.tables.supply.checkPeriod)) }

theorem periodicDue_now (s : Part) :
    immediateReading s =
      if s.monitor.state = .riding then { s with battery := { s.battery.due s with deferred := true } }
      else takePeriodic { s with battery := s.battery.due s } := by
  simp only [immediateReading, periodicDue, eighths_eq]
  rfl

theorem immediateReading_kept {b : Bool} (s : Part) :
    Kept b { s with battery := (immediateReading s).battery } (immediateReading s) := by
  rw [periodicDue_now]
  split
  · exact .refl _
  · exact (takePeriodic_kept { s with battery := s.battery.due s }).ownBattery

/-- The moment that a new check_period gives the next reading (R25). -/
def Part.recheckAt (s : Part) : Elapsed :=
  s.battery.lastDue + BitVec.ofNat 48 (4096 * s.tables.supply.checkPeriod)

theorem retimeBattery_cases (s : Part) :
    retimeBattery s =
      if s.battery.deadline = none then s
      else if s.reached s.recheckAt then immediateReading s
      else { s with battery := { s.battery with deadline := some s.recheckAt } } := by
  simp only [retimeBattery, eighths_eq, Option.isNone_iff_eq_none]
  rfl

theorem retimeBattery_kept {b : Bool} (s : Part) :
    Kept b { s with battery := (retimeBattery s).battery } (retimeBattery s) := by
  rw [retimeBattery_cases]
  split_ifs
  · exact .refl _
  · exact immediateReading_kept s
  · exact .refl _

/-- The judgement that a periodic reading of the pins draws now (R144 to R146). -/
def Part.periodicJudgement (s : Part) : Judgement :=
  judge s.tables.supply s.battery.level s.battery.worse s.battery.better (s.sample .periodic)

theorem immediateReading_riding {s : Part} (riding : s.monitor.state = .riding) :
    immediateReading s = { s with battery := { s.battery.due s with deferred := true } } := by
  rw [periodicDue_now, if_pos riding]

/-- A reading that confirms no level is held as the latest, with its streaks (R146). -/
theorem immediateReading_unconfirmed {s : Part} (supplied : s.monitor.state ≠ .riding)
    (h : s.periodicJudgement.confirmed = none) :
    immediateReading s = { s with battery := { s.battery.due s with
      latest := some (s.sample .periodic)
      worse := s.periodicJudgement.worse, better := s.periodicJudgement.better } } := by
  rw [periodicDue_now, if_neg supplied, takePeriodic, judgeReading]
  have unconfirmed : (judge s.tables.supply (s.battery.due s).level (s.battery.due s).worse
    (s.battery.due s).better (({ s with battery := s.battery.due s } : Part).sample
      .periodic)).confirmed = none := h
  simp only [unconfirmed]
  rfl

/-- A reading that confirms a level sets it, with both streaks 0, where nothing goes on (R147). -/
theorem immediateReading_confirmed {s : Part} (supplied : s.monitor.state ≠ .riding) (idle : s.Idle)
    {l : Level} (h : s.periodicJudgement.confirmed = some l) :
    (immediateReading s).Idle ∧ (immediateReading s).battery = { s.battery.due s with
      latest := some (s.sample .periodic), level := l, worse := 0, better := 0 } := by
  rw [periodicDue_now, if_neg supplied, takePeriodic, judgeReading]
  have confirmed : (judge s.tables.supply (s.battery.due s).level (s.battery.due s).worse
    (s.battery.due s).better (({ s with battery := s.battery.due s } : Part).sample
      .periodic)).confirmed = some l := h
  simp only [confirmed]
  exact changeLevel_idle (idle.setBattery _) l

/-- The supply settings put in the table. -/
def storedSupply (g : Supply) (s : Part) : Part :=
  { s with tables := { s.tables with supply := g } }

theorem storeSupply_eq (g : Supply) (s : Part) :
    storeSupply g s =
      if s.tables.supply.checkPeriod = g.checkPeriod then storedSupply g s
      else retimeBattery (storedSupply g s) := rfl

theorem storeSupply_kept {b : Bool} (g : Supply) (s : Part) :
    Kept b { storedSupply g s with battery := (settle (storeSupply g s)).battery }
      (settle (storeSupply g s)) := by
  have stored : Kept b { storedSupply g s with battery := (storeSupply g s).battery }
      (storeSupply g s) := by
    rw [storeSupply_eq]
    split
    · exact .refl _
    · exact retimeBattery_kept _
  exact (stored.trans (settle_kept _)).ownBattery

/-- A write that leaves check_period, or finds the supervisor without a deadline, retimes nothing. -/
theorem storeSupply_untimed {g : Supply} {s : Part}
    (h : g.checkPeriod = s.tables.supply.checkPeriod ∨ s.battery.deadline = none) :
    storeSupply g s = storedSupply g s := by
  rw [storeSupply_eq, retimeBattery_cases]
  split
  · rfl
  · next new => exact if_pos (h.resolve_left fun same => new same.symm)

theorem storeSupply_retimed {g : Supply} {s : Part}
    (h : ¬(g.checkPeriod = s.tables.supply.checkPeriod ∨ s.battery.deadline = none)) :
    storeSupply g s =
      if s.reached (storedSupply g s).recheckAt then immediateReading (storedSupply g s)
      else { storedSupply g s with battery :=
        { s.battery with deadline := some (storedSupply g s).recheckAt } } := by
  obtain ⟨new, timed⟩ := not_or.mp h
  rw [storeSupply_eq, if_neg fun same => new same.symm, retimeBattery_cases]
  exact if_neg timed

theorem settle_cadence (s : Part) :
    (settle s).battery.deadline = s.battery.deadline ∧
      (settle s).battery.lastDue = s.battery.lastDue ∧
      (settle s).battery.deferred = s.battery.deferred := (settle_kept (b := true) s).cadence

/-- A reading that is due now is timed from now, whether it is taken or deferred (R141). -/
theorem immediateReading_cadence (s : Part) :
    (immediateReading s).battery.deadline = (s.battery.due s).deadline ∧
      (immediateReading s).battery.lastDue = (s.battery.due s).lastDue ∧
      (s.monitor.state = .riding → (immediateReading s).battery.deferred = true) := by
  rw [periodicDue_now]
  split
  · exact ⟨rfl, rfl, fun _ => rfl⟩
  · next supplied =>
    obtain ⟨deadline, lastDue, -⟩ :=
      (takePeriodic_kept (b := true) { s with battery := s.battery.due s }).cadence
    exact ⟨deadline, lastDue, fun riding => absurd riding supplied⟩

/-! ### The writes carried out -/

/-- A write that is stored, with the tail of its step and its reply (R15). -/
theorem exec_stored {ι α : Type} {c : Instr} {code : Byte} {p : List Byte} {s : State}
    {checked : Checked ι α} {store : ι → α → Part → Part} {i : ι} {a : α} {changed : List Nat}
    (acts : exec c s = advance (request code p (handleWrite checked store)) s)
    (awake : s.part.awake = true) (empty : s.part.link.handled = none)
    (h : checked = .store i a changed) :
    exec c s = .next (s.put (startReply ⟨code, p⟩ (storedReply changed)
      (settle (store i a s.part)))) := by
  rw [exec_handled acts awake empty, handleWrite_stored h, done]

/-! ### The slot of an accepted write -/

theorem profileSlot_lt {p : List Byte} (passed : firstFailed (profileChecks p) = none) :
    fieldNat 0 1 p < 4 := by
  have checks := firstFailed_eq_none.1 passed
  simp only [profileChecks, List.forall_mem_cons, decide_eq_true_eq] at checks
  exact checks.2.1

theorem windowSlot_lt {p : List Byte} (passed : firstFailed (windowChecks p) = none) :
    fieldNat 0 1 p < 8 := by
  have checks := firstFailed_eq_none.1 passed
  simp only [windowChecks, List.forall_mem_cons, decide_eq_true_eq] at checks
  exact checks.2.2.2.2.2.1

theorem planSlot_lt {p : List Byte} (passed : firstFailed (planChecks p) = none) :
    fieldNat 0 1 p < 16 := by
  have checks := firstFailed_eq_none.1 passed
  simp only [planChecks, List.cons_append, List.forall_mem_cons, decide_eq_true_eq] at checks
  exact checks.2.2.2.1

/-- A plan write whose checks pass stores an EMPTY slot or the candidate (R16). -/
theorem checkPlan_stores {p : List Byte} (passed : firstFailed (planChecks p) = none) :
    ∃ i q changed, checkPlan p = .store i q changed ∧ i.val = fieldNat 0 1 p ∧
      (fieldNat 1 1 p = 0 → q = none ∧ changed = []) ∧
      (fieldNat 1 1 p = 1 → ∃ x, q = some x ∧ PlanFields p x changed) := by
  have slot := finOf_val (planSlot_lt passed)
  by_cases empty : fieldNat 1 1 p = 0
  · refine ⟨_, _, _, ?_, slot, fun _ => ⟨rfl, rfl⟩, fun defined => by omega⟩
    rw [checkPlan_eq, if_pos empty]
    exact Checked.under_eq_store.2 ⟨passed, rfl⟩
  · refine ⟨_, _, _, ?_, slot, fun state => absurd state empty, fun state =>
      ⟨_, rfl, planCandidate_fields passed state⟩⟩
    rw [checkPlan_eq, if_neg empty]
    exact Checked.under_eq_store.2 ⟨passed, rfl⟩

/-- Settles O11: the candidate of each write is stored, and with nothing going on the rest of the step
finds nothing to do. -/
theorem acceptedWriteIsStored : Obligations.AcceptedWriteIsStored := by
  refine ⟨storedReply_eq, fun p => ⟨fun passed => ?_, fun passed => ?_, fun passed => ?_,
    fun passed => ?_⟩, fun p changed s awake empty => ⟨fun i q stored => ?_, fun i q stored => ?_,
    fun i w stored => ?_, fun g stored => ?_⟩⟩
  · exact checkPlan_stores passed
  · exact ⟨_, _, _, (checkProfile_eq p).trans (Checked.under_eq_store.2 ⟨passed, rfl⟩),
      finOf_val (profileSlot_lt passed), profileCandidate_fields passed⟩
  · exact ⟨_, _, _, (checkWindow_eq p).trans (Checked.under_eq_store.2 ⟨passed, rfl⟩),
      finOf_val (windowSlot_lt passed), windowCandidate_fields passed⟩
  · exact ⟨_, _, (checkSupply_eq p).trans (Checked.under_eq_store.2 ⟨passed, rfl⟩),
      supplyCandidate_fields p⟩
  · refine ⟨_, exec_stored rfl awake empty stored, rfl,
      ((storePlan_kept i q s.part).trans (settle_kept _)).startReply _ _, fun alone op engine mark => ?_⟩
    change startReply _ _ _ = _
    rw [storePlan_idle ⟨alone, op, engine⟩ mark, settle_alone (by exact alone) (by exact op)]
  · refine ⟨_, exec_stored rfl awake empty stored, rfl, (settle_kept _).startReply _ _,
      fun alone op => ?_⟩
    change startReply _ _ _ = _
    rw [settle_alone (by exact alone) (by exact op)]
    rfl
  · refine ⟨_, exec_stored rfl awake empty stored, rfl,
      ((storeWindow_kept i w s.part).trans (settle_kept _)).startReply _ _,
      fun alone op engine mark => ?_⟩
    change startReply _ _ _ = _
    rw [storeWindow_idle ⟨alone, op, engine⟩ mark, settle_alone (by exact alone) (by exact op)]
    rfl
  · intro settings answered old d retimed reading j kept
    have settled (u : Part) (h : storeSupply g s.part = u) :
        (settle (storeSupply g s.part)).battery.deadline = u.battery.deadline ∧
        (settle (storeSupply g s.part)).battery.lastDue = u.battery.lastDue ∧
        (settle (storeSupply g s.part)).battery.deferred = u.battery.deferred := h ▸ settle_cadence u
    have still (u : Part) (h : storeSupply g s.part = u) (alone : u.Alone) (op : u.op = none) :
        startReply ⟨0x16#8, p⟩ (storedReply changed) (settle (storeSupply g s.part)) =
          startReply ⟨0x16#8, p⟩ (storedReply changed) u := by rw [h, settle_alone alone op]
    refine ⟨_, exec_stored rfl awake empty stored, rfl, (storeSupply_kept g s.part).startReply _ _,
      fun same => ?_, fun fresh ahead => ?_, fun fresh passed => ?_⟩
    · have untimed := storeSupply_untimed same
      obtain ⟨deadline, lastDue, -⟩ := settled _ untimed
      exact ⟨deadline, lastDue, still _ untimed⟩
    · have later := (storeSupply_retimed fresh).trans (if_neg (ne_true_of_eq_false ahead))
      obtain ⟨deadline, lastDue, -⟩ := settled _ later
      exact ⟨deadline, lastDue, still _ later⟩
    · have read := (storeSupply_retimed fresh).trans (if_pos passed)
      obtain ⟨deadline, lastDue, deferred⟩ := settled _ read
      obtain ⟨deadline', lastDue', deferred'⟩ := immediateReading_cadence (storedSupply g s.part)
      refine ⟨deadline.trans deadline', lastDue.trans lastDue', fun riding =>
        ⟨deferred.trans (deferred' riding), fun alone op => ?_⟩, fun supplied alone op =>
          ⟨fun unconfirmed => ?_, fun l confirmed engine => ?_⟩⟩
      · exact still _ (read.trans (immediateReading_riding riding)) alone op
      · exact still _ (read.trans (immediateReading_unconfirmed supplied unconfirmed)) alone op
      · have idle : (storedSupply g s.part).Idle := ⟨alone, op, engine⟩
        obtain ⟨rest, battery⟩ :=
          immediateReading_confirmed (s := storedSupply g s.part) supplied idle confirmed
        change (settle (storeSupply g s.part)).battery = _
        rw [read, rest.settle, battery]
        rfl

/-! ### The general settings (R22, R23, R73, R80) -/

/-- The meter's own fields, and the gates, are named by the part after. -/
theorem Kept.ownMeter {b : Bool} {s t : Part} {meter : Meter} {gates : Vector Bool 8}
    (h : Kept b { s with meter := meter, gates := gates } t) :
    Kept b { s with meter := t.meter, gates := t.gates } t :=
  { h with
    gates := rfl
    meter := rfl
    measuring := fun _ => rfl }

/-- The general settings put in the table. -/
def storedGeneral (g : General) (s : Part) : Part :=
  { s with tables := { s.tables with general := g } }

theorem storeGeneral_disables {g : General} {s : Part} (was : s.tables.general.meterEnabled = true)
    (off : g.meterEnabled = false) : storeGeneral g s = disableMeter (storedGeneral g s) := by
  simp only [storeGeneral, was, off]
  rfl

theorem storeGeneral_enables {g : General} {s : Part} (was : s.tables.general.meterEnabled = false)
    (on : g.meterEnabled = true) :
    storeGeneral g s = meterStart (setStartGate 1 (storedGeneral g s)) := by
  simp only [storeGeneral, was, on]
  rfl

theorem storeGeneral_keeps {g : General} {s : Part}
    (same : s.tables.general.meterEnabled = g.meterEnabled) :
    storeGeneral g s = if s.tables.general.meterPeriod = g.meterPeriod then storedGeneral g s
      else retimeMeter (storedGeneral g s) := by
  unfold storeGeneral
  cases h : g.meterEnabled <;> rw [h] at same <;> simp only [same] <;> rfl

/-- The moment that a new meter_period gives the next periodic reading (R74). -/
def Part.remeterAt (s : Part) : Elapsed :=
  s.meter.lastDue + BitVec.ofNat 48 (4096 * s.tables.general.meterPeriod)

/-- A periodic meter reading due now: the deadline is timed from now, and an IDLE meter begins it
(R74). -/
def Meter.periodic (m : Meter) (s : Part) : Meter :=
  { m with
    lastDue := s.time.elapsed
    deadline := s.after (4096 * s.tables.general.meterPeriod)
    state :=
      if m.state = .idle then .measuring ⟨m.startGate, 0, s.after (gateTicks m.startGate)⟩
      else m.state
    count := if m.state = .idle then 0 else m.count }

theorem meterPeriodicDue_now (s : Part) :
    meterPeriodicDue s.time.elapsed s = { s with meter := s.meter.periodic s } := by
  simp only [meterPeriodicDue, readIfIdle, Meter.periodic, eighths_eq]
  cases state : s.meter.state with
  | idle => rfl
  | stopped => simp only [reduceCtorEq, if_false]; rfl
  | measuring m => simp only [reduceCtorEq, if_false]; rfl

theorem retimeMeter_cases (s : Part) :
    retimeMeter s =
      if s.meter.state = .stopped then s
      else if s.reached s.remeterAt then { s with meter := s.meter.periodic s }
      else { s with meter := { s.meter with deadline := s.remeterAt } } := by
  rw [← meterPeriodicDue_now]
  unfold retimeMeter
  simp only [eighths_eq]
  cases state : s.meter.state with
  | stopped => rfl
  | idle => simp only [reduceCtorEq, if_false]; rfl
  | measuring m => simp only [reduceCtorEq, if_false]; rfl

theorem retimeMeter_meter (s : Part) : retimeMeter s = { s with meter := (retimeMeter s).meter } := by
  rw [retimeMeter_cases]
  split_ifs <;> rfl

theorem storeGeneral_kept (g : General) (s : Part) :
    Kept false { storedGeneral g s with
      meter := (settle (storeGeneral g s)).meter, gates := (settle (storeGeneral g s)).gates }
      (settle (storeGeneral g s)) := by
  have edited (meter : Meter) (gates : Vector Bool 8) (h : storeGeneral g s =
      { storedGeneral g s with meter := meter, gates := gates }) :
      Kept false { storedGeneral g s with meter := meter, gates := gates }
        (settle (storeGeneral g s)) := h ▸ settle_kept _
  cases was : s.tables.general.meterEnabled <;> cases now : g.meterEnabled
  case true.false =>
    have disabled : Kept false { storedGeneral g s with
        meter := { s.meter with state := .stopped, latest := none }
        gates := Vector.replicate 8 false } (settle (storeGeneral g s)) := by
      rw [storeGeneral_disables was now]
      exact (reEvaluate_kept _).trans (settle_kept _)
    exact disabled.ownMeter
  case false.true =>
    exact (edited _ s.gates (storeGeneral_enables was now)).ownMeter
  all_goals
    have same := storeGeneral_keeps (was.trans now.symm)
    split at same
    · exact (edited s.meter s.gates same).ownMeter
    · exact (edited _ s.gates (same.trans (retimeMeter_meter _))).ownMeter

/-- A running meter goes through the tail of a step as it is, and an idle part has no tail. -/
theorem settle_meter {s : Part} (h : s.meter.state ≠ .idle ∨ (s.Alone ∧ s.op = none)) :
    (settle s).meter = s.meter := by
  obtain running | ⟨alone, op⟩ := h
  · exact (settle_kept (b := true) s).measuring running
  · rw [settle_alone alone op]

theorem settle_meter_fields (s : Part) :
    (settle s).meter.deadline = s.meter.deadline ∧ (settle s).meter.lastDue = s.meter.lastDue ∧
      (settle s).meter.latest = s.meter.latest ∧ (settle s).meter.startGate = s.meter.startGate := by
  have kept := (settle_kept (b := true) s).meter
  exact ⟨by rw [kept], by rw [kept], by rw [kept], by rw [kept]⟩

theorem settle_gates (s : Part) : (settle s).gates = s.gates := (settle_kept (b := true) s).gates

/-- Settles O12: the candidate is stored, and the meter follows meter_enabled and meter_period. -/
theorem acceptedGeneralWriteIsStored : Obligations.AcceptedGeneralWriteIsStored := by
  refine ⟨fun p passed => ⟨_, _, (checkGeneral_eq p).trans (Checked.under_eq_store.2 ⟨passed, rfl⟩),
    generalCandidate_fields passed⟩, fun p g changed s awake empty stored => ?_⟩
  refine ⟨_, exec_stored rfl awake empty stored, rfl, (storeGeneral_kept g s.part).startReply _ _,
    fun was now => ?_, fun was now => ?_, fun same period => ?_, fun same period => ?_⟩
  · change (settle (storeGeneral g s.part)).meter.state = _ ∧
      (settle (storeGeneral g s.part)).meter.latest = _ ∧ (settle (storeGeneral g s.part)).gates = _
    have kept : Kept true { meterStop (storedGeneral g s.part) with gates := Vector.replicate 8 false }
        (settle (storeGeneral g s.part)) := by
      rw [storeGeneral_disables was now]
      exact (reEvaluate_kept _).trans (settle_kept _)
    have meter := kept.measuring (by simp)
    exact ⟨by rw [meter]; rfl, by rw [meter]; rfl, kept.gates⟩
  · change (settle (storeGeneral g s.part)).meter.state = _ ∧
      (settle (storeGeneral g s.part)).meter.count = _ ∧
      (settle (storeGeneral g s.part)).meter.startGate = _ ∧
      (settle (storeGeneral g s.part)).meter.latest = _ ∧
      (settle (storeGeneral g s.part)).meter.deadline = _ ∧
      (settle (storeGeneral g s.part)).gates = _
    rw [storeGeneral_enables was now]
    have begun : (meterStart (setStartGate 1 (storedGeneral g s.part))).meter.state ≠ .idle := by
      simp [meterStart, beginReading]
    rw [settle_meter (.inl begun), settle_gates]
    exact ⟨rfl, rfl, rfl, rfl, rfl, rfl⟩
  · change (settle (storeGeneral g s.part)).gates = _ ∧
      (settle (storeGeneral g s.part)).meter.deadline = _ ∧
      (settle (storeGeneral g s.part)).meter.latest = _
    rw [storeGeneral_keeps same, if_pos period]
    obtain ⟨deadline, -, latest, -⟩ := settle_meter_fields (storedGeneral g s.part)
    exact ⟨settle_gates _, deadline, latest⟩
  · intro old d
    have retimed := (storeGeneral_keeps same).trans (if_neg period)
    rw [retimeMeter_cases] at retimed
    have settled (u : Part) (h : storeGeneral g s.part = u) :
        (settle (storeGeneral g s.part)).meter.deadline = u.meter.deadline ∧
        (settle (storeGeneral g s.part)).meter.lastDue = u.meter.lastDue ∧
        (settle (storeGeneral g s.part)).meter.latest = u.meter.latest ∧
        (settle (storeGeneral g s.part)).meter.startGate = u.meter.startGate := h ▸ settle_meter_fields u
    have whole (u : Part) (h : storeGeneral g s.part = u)
        (hu : u.meter.state ≠ .idle ∨ (u.Alone ∧ u.op = none)) :
        (settle (storeGeneral g s.part)).meter = u.meter := by
      rw [h]; exact settle_meter hu
    refine ⟨?_, fun stopped => ?_, fun running ahead => ?_, fun running passed => ?_⟩
    · change (settle (storeGeneral g s.part)).gates = _
      rw [settle_gates, (storeGeneral_keeps same).trans (if_neg period), retimeMeter_meter]
      rfl
    · have still : storeGeneral g s.part = storedGeneral g s.part := retimed.trans (if_pos stopped)
      change (settle (storeGeneral g s.part)).meter = (storedGeneral g s.part).meter
      refine whole _ still (.inl ?_)
      change old.state ≠ .idle
      simp [stopped]
    · have later := retimed.trans ((if_neg running).trans (if_neg (ne_true_of_eq_false ahead)))
      obtain ⟨deadline, lastDue, latest, startGate⟩ := settled _ later
      exact ⟨deadline, lastDue, latest, startGate, whole _ later⟩
    · have read := retimed.trans ((if_neg running).trans (if_pos passed))
      refine whole _ read (.inl ?_)
      change (if old.state = .idle then _ else old.state) ≠ .idle
      split
      · simp
      · assumption

end Sys2Proof.Machine


/-! PROOFS. Bytes on the wire (R183): what a number reads back as from its bytes, and where the parts of a
reply stand. With them a stored record read back is the payload that stores it (O14). -/

namespace Sys2Proof.Machine

/-! ### Numbers, high byte first -/

@[simp] theorem length_putNat (size n : Nat) : (putNat size n).length = size := by
  induction size with
  | zero => rfl
  | succ size ih => simp [putNat, ih]

@[simp] theorem length_putInt (size : Nat) (i : Int) : (putInt size i).length = size :=
  length_putNat _ _

theorem byte_toNat (n : Nat) : (byte n).toNat = n % 256 := BitVec.toNat_ofNat n 8

theorem beNat_singleton (b : Byte) : beNat [b] = b.toNat := by simp [beNat]

theorem beNat_cons (b : Byte) (bs : List Byte) :
    beNat (b :: bs) = b.toNat * 256 ^ bs.length + beNat bs := by
  induction bs using List.reverseRecOn with
  | nil => simp [beNat]
  | append_singleton bs c ih =>
    rw [← List.cons_append, beNat_append_singleton, beNat_append_singleton, ih, List.length_append,
      List.length_singleton, pow_succ]
    ring

theorem beNat_putNat (size n : Nat) : beNat (putNat size n) = n % 256 ^ size := by
  induction size with
  | zero => simp [putNat, beNat, Nat.mod_one]
  | succ size ih =>
    rw [putNat, beNat_cons, length_putNat, ih, byte_toNat, pow_succ, Nat.mod_mul, mul_comm, add_comm]

theorem beInt_putInt {size : Nat} {i : Int} (low : -((256 ^ size : Nat) : Int) ≤ 2 * i)
    (high : 2 * i < (256 ^ size : Nat)) : beInt (putInt size i) = i := by
  have modulo : beNat (putInt size i) = (i % ((256 ^ size : Nat) : Int)).toNat := by
    rw [putInt, beNat_putNat, Nat.mod_eq_of_lt]
    have := Int.emod_lt_of_pos i (by omega : (0 : Int) < (256 ^ size : Nat))
    omega
  simp only [beInt, modulo, length_putInt]
  obtain nonneg | negative := le_or_gt 0 i
  · rw [Int.emod_eq_of_lt nonneg (by omega), if_pos (by omega)]
    omega
  · have shifted : i % ((256 ^ size : Nat) : Int) = i + (256 ^ size : Nat) := by
      rw [← Int.add_emod_right, Int.emod_eq_of_lt (by omega) (by omega)]
    rw [shifted, if_neg (by omega)]
    omega

theorem putNat_one (n : Nat) : putNat 1 n = [byte n] := by simp [putNat]

theorem putInt_one (i : Int) : putInt 1 i = [BitVec.ofInt 8 i] := by
  rw [putInt, putNat_one]
  exact congrArg (fun b => [b]) (BitVec.eq_of_toNat_eq (by simp [byte_toNat]; omega))

/-- A signed number in two bytes is its two's complement word, high byte first. -/
theorem putInt_two (i : Int) : putInt 2 i = signedPair i := by
  simp only [putInt, putNat, signedPair, List.cons.injEq, and_true]
  constructor <;> refine BitVec.eq_of_toNat_eq ?_ <;>
    simp [byte_toNat, BitVec.extractLsb', Nat.shiftRight_eq_div_pow]

theorem putInstant_eq (t : Nat) : putInstant t = instantBytes t := rfl

/-! ### Places in a reply -/

section Places

variable {a size : Nat} {xs ys : List Byte}

theorem slice_append_left (h : a + size ≤ xs.length) : slice a size (xs ++ ys) = slice a size xs := by
  simp only [slice]
  rw [List.drop_append_of_le_length (by omega), List.take_append_of_le_length (by simp; omega)]

theorem slice_append_right (h : xs.length ≤ a) :
    slice a size (xs ++ ys) = slice (a - xs.length) size ys := by
  simp only [slice]
  rw [List.drop_append, List.drop_eq_nil_of_le h, List.nil_append]

theorem slice_all (h : xs.length = size) : slice 0 size xs = xs := by
  simp [slice, ← h]

end Places

theorem fieldNat_of_slice {at_ size n : Nat} {bs : List Byte} (h : slice at_ size bs = putNat size n)
    (fits : n < 256 ^ size) : fieldNat at_ size bs = n := by
  rw [fieldNat, h, beNat_putNat, Nat.mod_eq_of_lt fits]

theorem fieldNat_of_byte {at_ n : Nat} {bs : List Byte} (h : slice at_ 1 bs = [byte n])
    (fits : n < 256) : fieldNat at_ 1 bs = n :=
  fieldNat_of_slice (h.trans (putNat_one n).symm) fits

theorem fieldInt_of_slice {at_ size : Nat} {i : Int} {bs : List Byte}
    (h : slice at_ size bs = putInt size i) (low : -((256 ^ size : Nat) : Int) ≤ 2 * i)
    (high : 2 * i < (256 ^ size : Nat)) : fieldInt at_ size bs = i := by
  rw [fieldInt, h, beInt_putInt low high]

/-! ### Values within their ranges stand as they are -/

theorem clampNat_of_mem {lo hi n : Nat} (h : lo ≤ n ∧ n ≤ hi) : clampNat lo hi n = n := by
  rw [clampNat_eq (h.1.trans h.2)]
  omega

theorem clampNat_of_le {hi n : Nat} (h : n ≤ hi) : clampNat 0 hi n = n :=
  clampNat_of_mem ⟨Nat.zero_le n, h⟩

theorem clampInt_of_mem {lo hi i : Int} (h : lo ≤ i ∧ i ≤ hi) : clampInt lo hi i = i := by
  rw [clampInt_eq (h.1.trans h.2)]
  omega

theorem forceFactor_of_lawful {n : Nat} (h : lawfulFactor n) : forceFactor n = n := by
  obtain rfl | rfl | rfl | rfl := h <;> rfl

/-! ### Records read back (O14) -/

theorem checkSupply_putSupply {g : Supply} (h : g.Lawful) : checkSupply (putSupply g) = .store () g [] := by
  obtain ⟨⟨low, scarce, thrift, high⟩, hysteresis, confirm, slope, sag, period, fThrift, fScarce, ride,
    warm⟩ := h
  have fits (n : Nat) (h : n ≤ 16000) : n < 256 ^ 2 := by omega
  have small (n : Nat) (h : lawfulFactor n) : n < 256 := by
    obtain rfl | rfl | rfl | rfl := h <;> omega
  have f0 : fieldNat 0 2 (putSupply g) = g.thrThrift := fieldNat_of_slice rfl (fits _ (by omega))
  have f1 : fieldNat 2 2 (putSupply g) = g.thrScarce := fieldNat_of_slice rfl (fits _ (by omega))
  have f2 : fieldNat 4 2 (putSupply g) = g.thrCritical := fieldNat_of_slice rfl (fits _ (by omega))
  have f3 : fieldNat 6 2 (putSupply g) = g.hysteresis := fieldNat_of_slice rfl (fits _ (by omega))
  have f4 : fieldNat 8 1 (putSupply g) = g.confirm := fieldNat_of_byte rfl (by omega)
  have f5 : fieldNat 9 1 (putSupply g) = g.coldSlope := fieldNat_of_byte rfl (by omega)
  have f6 : fieldNat 10 2 (putSupply g) = g.sagAllowance := fieldNat_of_slice rfl (fits _ (by omega))
  have f7 : fieldNat 12 2 (putSupply g) = g.checkPeriod := fieldNat_of_slice rfl (fits _ (by omega))
  have f8 : fieldNat 14 1 (putSupply g) = g.fThrift := fieldNat_of_byte rfl (small _ fThrift)
  have f9 : fieldNat 15 1 (putSupply g) = g.fScarce := fieldNat_of_byte rfl (small _ fScarce)
  have f10 : fieldNat 16 1 (putSupply g) = g.rideThrough := fieldNat_of_byte rfl (by omega)
  have f11 : fieldNat 17 2 (putSupply g) = g.warmWindow := fieldNat_of_slice rfl (fits _ (by omega))
  have thresholds (n : Nat) (above : 4500 ≤ n) (below : n ≤ 16000) : clampNat 4500 16000 n = n :=
    clampNat_of_mem ⟨above, below⟩
  have candidate : supplyCandidate (putSupply g) = (g, []) := by
    simp only [supplyCandidate, f0, f1, f2, f3, f4, f5, f6, f7, f8, f9, f10, f11,
      thresholds g.thrThrift (by omega) (by omega), thresholds g.thrScarce (by omega) (by omega),
      thresholds g.thrCritical (by omega) (by omega), clampNat_of_le hysteresis, clampNat_of_mem confirm,
      clampNat_of_le slope, clampNat_of_le sag, clampNat_of_mem period, forceFactor_of_lawful fThrift,
      forceFactor_of_lawful fScarce, clampNat_of_mem ride, clampNat_of_mem warm, changedFields, bne_self_eq_false]
    rfl
  have length : (putSupply g).length = 19 := rfl
  simp [checkSupply, length, candidate, firstFault, scarce, thrift]

theorem fieldNat_of_flag {at_ : Nat} {bs : List Byte} (c : Prop) [Decidable c]
    (h : slice at_ 1 bs = [if c then 0 else 1]) : fieldNat at_ 1 bs = if c then 0 else 1 := by
  rw [fieldNat, h, beNat_singleton]
  split <;> rfl

theorem boolCode_lt (b : Bool) : boolCode b < 2 := by cases b <;> decide

theorem boolCode_eq_one (b : Bool) : (boolCode b == 1) = b := by cases b <;> rfl

/-- An optional slot number reads back as its number, or as 255 where it is absent (R183). -/
theorem fieldNat_of_optIndex {at_ n : Nat} {bs : List Byte} {i : Option (Fin n)} (fits : n ≤ 255)
    (h : slice at_ 1 bs = putOptIndex i) : fieldNat at_ 1 bs = (i.map Fin.val).getD 255 := by
  rw [fieldNat, h]
  cases i with
  | none => rfl
  | some k =>
    exact (beNat_singleton _).trans ((byte_toNat _).trans (Nat.mod_eq_of_lt (by omega)))

theorem finOf?_fin {n : Nat} (k : Fin n) : finOf? n k.val = some k := dif_pos k.isLt

theorem finOf_fin {n : Nat} [NeZero n] (k : Fin n) : finOf n k.val = k := Fin.ext (finOf_val k.isLt)

theorem checkGeneral_putGeneral {g : General} (h : g.Lawful) :
    checkGeneral (putGeneral g) = .store () g [] := by
  obtain ⟨schedule, external, manual, late, holdoff, period, cal, limit, least, lead⟩ := h
  generalize written : putGeneral g = w
  simp only [putGeneral, List.append_assoc] at written
  have f0 : fieldNat 0 1 w = g.levelSchedule := fieldNat_of_byte (written ▸ rfl) (by omega)
  have f1 : fieldNat 1 1 w = g.levelExternal := fieldNat_of_byte (written ▸ rfl) (by omega)
  have f2 : fieldNat 2 1 w = g.levelManual := fieldNat_of_byte (written ▸ rfl) (by omega)
  have f3 : fieldNat 3 2 w = g.lateLimit := fieldNat_of_slice (written ▸ rfl) (by omega)
  have f4 : fieldNat 5 1 w = (g.triggerPlan.map Fin.val).getD 255 :=
    fieldNat_of_optIndex (by omega) (written ▸ rfl)
  have f5 : fieldNat 6 1 w = if g.triggerEdge = .rising then 0 else 1 :=
    fieldNat_of_flag _ (written ▸ rfl)
  have f6 : fieldNat 7 2 w = g.holdoff := fieldNat_of_slice (written ▸ rfl) (by omega)
  have f7 : fieldNat 9 1 w = boolCode g.meterEnabled :=
    fieldNat_of_byte (written ▸ rfl) ((boolCode_lt _).trans (by omega))
  have f8 : fieldNat 10 2 w = g.meterPeriod := fieldNat_of_slice (written ▸ rfl) (by omega)
  have f9 : fieldInt 12 1 w = g.cCal := fieldInt_of_slice (written ▸ rfl) (by omega) (by omega)
  have f10 : fieldNat 13 1 w = g.lendLimit := fieldNat_of_byte (written ▸ rfl) (by omega)
  have f11 : fieldNat 14 2 w = g.lendMin := fieldNat_of_slice (written ▸ rfl) (by omega)
  have f12 : fieldNat 16 2 w = g.reclaimLead := fieldNat_of_slice (written ▸ rfl) (by omega)
  have f13 : fieldNat 18 1 w = if g.lendPolicy = .hostFirst then 0 else 1 :=
    fieldNat_of_flag _ (written ▸ rfl)
  have mask := g.mask.isLt
  have f14 : fieldNat 19 2 w = g.mask.toNat := fieldNat_of_slice (written ▸ rfl) (by omega)
  have trigger : (if (g.triggerPlan.map Fin.val).getD 255 = 255 then none
      else finOf? 16 ((g.triggerPlan.map Fin.val).getD 255)) = g.triggerPlan := by
    cases g.triggerPlan with
    | none => rfl
    | some k => exact (if_neg (show k.val ≠ 255 by omega)).trans (finOf?_fin k)
  have edge : (if (if g.triggerEdge = .rising then 0 else 1) = 0 then EdgeKind.rising else .falling) =
      g.triggerEdge := by cases g.triggerEdge <;> rfl
  have policy : (if (if g.lendPolicy = .hostFirst then 0 else 1) = 0 then LendPolicy.hostFirst
      else .partFirst) = g.lendPolicy := by cases g.lendPolicy <;> rfl
  have candidate : generalCandidate w = (g, []) := by
    simp only [generalCandidate, f0, f1, f2, f3, f4, f5, f6, f7, f8, f9, f10, f11, f12, f13, f14,
      clampNat_of_le schedule, clampNat_of_le external, clampNat_of_le manual, clampNat_of_le late,
      clampNat_of_mem period, clampNat_of_mem limit, clampNat_of_mem least, clampNat_of_mem lead,
      trigger, edge, policy, boolCode_eq_one, BitVec.ofNat_toNat, BitVec.setWidth_eq, changedFields,
      bne_self_eq_false]
    rfl
  have length : w.length = 21 := written ▸ rfl
  have number : (g.triggerPlan.map Fin.val).getD 255 < 16 ∨ (g.triggerPlan.map Fin.val).getD 255 = 255 := by
    cases g.triggerPlan with
    | none => exact .inr rfl
    | some k => exact .inl k.isLt
  have flag (c : Prop) [Decidable c] : (if c then 0 else 1) < 2 := by split <;> omega
  have passed : firstFailed (generalChecks w) = none := firstFailed_eq_none.2 (by
    simp [generalChecks, length, f4, f5, f7, f13, f14, flag, Nat.le_of_lt_succ (boolCode_lt _), number,
      show g.mask.toNat < 16384 from mask])
  rw [checkGeneral_eq, candidate]
  exact Checked.under_eq_store.2 ⟨passed, rfl⟩

/-- The stored fields of a profile, as READ_PROFILE returns them before the effective values. -/
def profileBytes (slot : Fin 4) (p : Profile) : List Byte :=
  [byte slot.val, if p.lineMode = .settings then 0 else 1, if p.report = .noReport then 0 else 1] ++
  (putInt 2 p.sMin ++ (putInt 2 p.sMax ++ (putInt 2 p.sBulb ++ (putInt 2 p.sKnee ++
  ([byte p.gMax, byte p.gKnee] ++ (putInt 2 p.targetB ++
  ([if p.wakeMode = .waitReady then 0 else 1] ++
  (putNat 2 p.wakeLead ++ (putNat 2 p.readyTimeout ++ (putNat 2 p.settingTimeout ++
  (putNat 2 p.prefocus ++ (putNat 2 p.shutterPulse ++ (putNat 2 p.activityTimeout ++
  (putNat 2 p.writeTimeout ++ (putNat 2 p.reportWait ++ (putNat 2 p.reserve ++
  (putNat 2 p.keepWarmLimit ++ (putNat 2 p.burstSpacing ++ ([byte p.faultLimit] ++
  (putNat 2 p.recoveryOff ++ [byte p.recoveryAttempts]))))))))))))))))))))

/-- The five effective values of a profile (R20, R21). -/
def effectiveBytes (e : EffectiveLimits) : List Byte :=
  putInt 2 e.sMin ++ putInt 2 e.sMax ++ putInt 2 e.sKnee ++ putInt 1 e.gMax ++ putInt 1 e.gKnee

theorem putProfile_eq (slot : Fin 4) (p : Profile) :
    putProfile slot p = profileBytes slot p ++ effectiveBytes p.effective := by
  unfold putProfile profileBytes effectiveBytes
  simp only [List.append_assoc]

theorem length_profileBytes (slot : Fin 4) (p : Profile) : (profileBytes slot p).length = 42 := rfl

theorem length_effectiveBytes (e : EffectiveLimits) : (effectiveBytes e).length = 8 := rfl

theorem length_putProfile (slot : Fin 4) (p : Profile) : (putProfile slot p).length = 50 := by
  rw [putProfile_eq, List.length_append, length_profileBytes, length_effectiveBytes]

theorem checkProfile_putProfile {p : Profile} (h : p.Lawful) (i : Fin 4) :
    checkProfile ((putProfile i p).take 42) = .store i p [] := by
  obtain ⟨⟨low, knee, kneeMax, high⟩, bulb, ⟨gains, gMax⟩, target, lead, ready, setting, prefocus, pulse,
    activity, write, wait, reserve, warm, spacing, fault, off, attempts, report⟩ := h
  rw [putProfile_eq, List.take_left' (length_profileBytes i p)]
  generalize written : profileBytes i p = w
  have f0 : fieldNat 0 1 w = i.val := fieldNat_of_byte (written ▸ rfl) (by omega)
  have f1 : fieldNat 1 1 w = if p.lineMode = .settings then 0 else 1 :=
    fieldNat_of_flag _ (written ▸ rfl)
  have f2 : fieldNat 2 1 w = if p.report = .noReport then 0 else 1 := fieldNat_of_flag _ (written ▸ rfl)
  have f3 : fieldInt 3 2 w = p.sMin := fieldInt_of_slice (written ▸ rfl) (by omega) (by omega)
  have f4 : fieldInt 5 2 w = p.sMax := fieldInt_of_slice (written ▸ rfl) (by omega) (by omega)
  have f5 : fieldInt 7 2 w = p.sBulb := fieldInt_of_slice (written ▸ rfl) (by omega) (by omega)
  have f6 : fieldInt 9 2 w = p.sKnee := fieldInt_of_slice (written ▸ rfl) (by omega) (by omega)
  have f7 : fieldNat 11 1 w = p.gMax := fieldNat_of_byte (written ▸ rfl) (by omega)
  have f8 : fieldNat 12 1 w = p.gKnee := fieldNat_of_byte (written ▸ rfl) (by omega)
  have f9 : fieldInt 13 2 w = p.targetB := fieldInt_of_slice (written ▸ rfl) (by omega) (by omega)
  have f10 : fieldNat 15 1 w = if p.wakeMode = .waitReady then 0 else 1 :=
    fieldNat_of_flag _ (written ▸ rfl)
  have f11 : fieldNat 16 2 w = p.wakeLead := fieldNat_of_slice (written ▸ rfl) (by omega)
  have f12 : fieldNat 18 2 w = p.readyTimeout := fieldNat_of_slice (written ▸ rfl) (by omega)
  have f13 : fieldNat 20 2 w = p.settingTimeout := fieldNat_of_slice (written ▸ rfl) (by omega)
  have f14 : fieldNat 22 2 w = p.prefocus := fieldNat_of_slice (written ▸ rfl) (by omega)
  have f15 : fieldNat 24 2 w = p.shutterPulse := fieldNat_of_slice (written ▸ rfl) (by omega)
  have f16 : fieldNat 26 2 w = p.activityTimeout := fieldNat_of_slice (written ▸ rfl) (by omega)
  have f17 : fieldNat 28 2 w = p.writeTimeout := fieldNat_of_slice (written ▸ rfl) (by omega)
  have f18 : fieldNat 30 2 w = p.reportWait := fieldNat_of_slice (written ▸ rfl) (by omega)
  have f19 : fieldNat 32 2 w = p.reserve := fieldNat_of_slice (written ▸ rfl) (by omega)
  have f20 : fieldNat 34 2 w = p.keepWarmLimit := fieldNat_of_slice (written ▸ rfl) (by omega)
  have f21 : fieldNat 36 2 w = p.burstSpacing := fieldNat_of_slice (written ▸ rfl) (by omega)
  have f22 : fieldNat 38 1 w = p.faultLimit := fieldNat_of_byte (written ▸ rfl) (by omega)
  have f23 : fieldNat 39 2 w = p.recoveryOff := fieldNat_of_slice (written ▸ rfl) (by omega)
  have f24 : fieldNat 41 1 w = p.recoveryAttempts := fieldNat_of_byte (written ▸ rfl) (by omega)
  have line : (if (if p.lineMode = .settings then 0 else 1) = 0 then LineMode.settings else .noSettings) =
      p.lineMode := by cases p.lineMode <;> rfl
  have asked : (if (if p.report = .noReport then 0 else 1) = 0 then ReportMode.noReport else .report) =
      p.report := by cases p.report <;> rfl
  have wake : (if (if p.wakeMode = .waitReady then 0 else 1) = 0 then WakeMode.waitReady else .fixedTime) =
      p.wakeMode := by cases p.wakeMode <;> rfl
  have forced : (if p.lineMode = .noSettings then .noReport else p.report) = p.report := by
    split
    · next none => exact (report none).symm
    · rfl
  have shutter (x : Int) (above : -96 ≤ x) (below : x ≤ 64) : clampInt (-96) 64 x = x :=
    clampInt_of_mem ⟨above, below⟩
  have candidate : profileCandidate w = (p, []) := by
    simp only [profileCandidate, f1, f2, f3, f4, f5, f6, f7, f8, f9, f10, f11, f12, f13, f14, f15, f16,
      f17, f18, f19, f20, f21, f22, f23, f24, line, asked, wake, forced,
      shutter p.sMin (by omega) (by omega), shutter p.sMax (by omega) (by omega),
      shutter p.sKnee (by omega) (by omega), clampInt_of_mem bulb, clampInt_of_mem target,
      clampNat_of_le gMax, clampNat_of_le (gains.trans gMax), clampNat_of_le lead, clampNat_of_mem ready,
      clampNat_of_mem setting, clampNat_of_mem pulse, clampNat_of_mem activity, clampNat_of_mem write,
      clampNat_of_mem wait, clampNat_of_le reserve, clampNat_of_le warm, clampNat_of_mem spacing,
      clampNat_of_mem fault, clampNat_of_mem off, clampNat_of_mem attempts, changedFields,
      bne_self_eq_false]
    rfl
  have length : w.length = 42 := written ▸ rfl
  have flag (c : Prop) [Decidable c] : (if c then 0 else 1) < 2 := by split <;> omega
  simp [checkProfile, length, candidate, profileStructure, firstFault, f0, f1, f2, f10, flag, finOf?_fin,
    knee, kneeMax, gains, knee.trans kneeMax]

/-- A date range as a window carries it: its presence byte, and its two days where it is present. -/
def dateBytes : Option (Nat × Nat) → List Byte
  | some (first, last) => 0 :: (putNat 2 first ++ putNat 2 last)
  | none => [1]

/-- The reading of a gate as a window carries it. -/
def gateBytes : AmbientGate → List Byte
  | .noGate => []
  | .above x => putInt 2 x
  | .below x => putInt 2 x

/-- What follows a window's date range. -/
def windowTail (w : Window) : List Byte :=
  [w.weekdays.setWidth 8, byte w.gate.kind] ++
    (gateBytes w.gate ++ [byte w.plan.val, byte (boolCode w.essential)])

theorem putWindow_eq (slot : Fin 8) (w : Window) :
    putWindow slot w = ([byte slot.val, byte (boolCode w.enabled)] ++
      (putNat 4 w.startSod ++ putNat 4 w.endSod)) ++ (dateBytes w.dates ++ windowTail w) := by
  cases dates : w.dates <;> cases gate : w.gate <;>
    simp [putWindow, windowTail, dateBytes, gateBytes, dates, gate]

theorem AmbientGate.kind_le (g : AmbientGate) : g.kind ≤ 2 := by cases g <;> simp [AmbientGate.kind]

section ReadWindow

variable (slot : Fin 8) (w : Window)

/-- A field after the date range stands that much further on. -/
theorem slice_windowTail (k size : Nat) :
    slice (10 + (dateBytes w.dates).length + k) size (putWindow slot w) = slice k size (windowTail w) := by
  rw [putWindow_eq, slice_append_right (by simp; omega), slice_append_right (by simp; omega)]
  congr 1
  simp
  omega

/-- The plan and the essential flag stand after the reading of the gate. -/
theorem slice_windowTail_gate (k size : Nat) :
    slice (2 + (gateBytes w.gate).length + k) size (windowTail w) =
      slice k size [byte w.plan.val, byte (boolCode w.essential)] := by
  rw [windowTail, slice_append_right (by simp; omega), slice_append_right (by simp; omega)]
  congr 1
  simp
  omega

theorem length_putWindow : (putWindow slot w).length =
    14 + (dateBytes w.dates).length + (gateBytes w.gate).length := by
  simp [putWindow_eq, windowTail]
  omega

theorem length_gateBytes (g : AmbientGate) : (gateBytes g).length = if g.kind = 0 then 0 else 2 := by
  cases g <;> rfl

theorem maskOffset_putWindow :
    maskOffset (putWindow slot w) = 10 + (dateBytes w.dates).length := by
  rw [putWindow_eq]
  cases w.dates <;> rfl

theorem kind_putWindow : fieldNat (maskOffset (putWindow slot w) + 1) 1 (putWindow slot w) = w.gate.kind := by
  rw [maskOffset_putWindow]
  exact fieldNat_of_byte ((slice_windowTail slot w 1 1).trans rfl) (by have := w.gate.kind_le; omega)

theorem after_putWindow : maskOffset (putWindow slot w) + (if w.gate.kind = 0 then 2 else 4) =
    10 + (dateBytes w.dates).length + (2 + (gateBytes w.gate).length) := by
  rw [maskOffset_putWindow, length_gateBytes]
  split <;> omega

theorem plan_putWindow : fieldNat (maskOffset (putWindow slot w) + if w.gate.kind = 0 then 2 else 4) 1
    (putWindow slot w) = w.plan.val := by
  rw [after_putWindow]
  exact fieldNat_of_byte ((slice_windowTail slot w _ 1).trans (slice_windowTail_gate w 0 1)) (by omega)

theorem essential_putWindow :
    fieldNat ((maskOffset (putWindow slot w) + if w.gate.kind = 0 then 2 else 4) + 1) 1
      (putWindow slot w) = boolCode w.essential := by
  rw [after_putWindow]
  exact fieldNat_of_byte ((slice_windowTail slot w _ 1).trans (slice_windowTail_gate w 1 1))
    ((boolCode_lt _).trans (by omega))

theorem weekdays_putWindow :
    fieldNat (maskOffset (putWindow slot w)) 1 (putWindow slot w) = w.weekdays.toNat := by
  rw [maskOffset_putWindow]
  exact (congrArg beNat (slice_windowTail slot w 0 1)).trans ((beNat_singleton _).trans (by simp; omega))

end ReadWindow

theorem windowChecks_putWindow (slot : Fin 8) (w : Window) :
    firstFailed (windowChecks (putWindow slot w)) = none := by
  have present : fieldNat 10 1 (putWindow slot w) = if w.dates.isSome then 0 else 1 := by
    rw [putWindow_eq]
    cases w.dates <;> rfl
  have number : fieldNat 0 1 (putWindow slot w) = slot.val := fieldNat_of_byte rfl (by omega)
  have enabled : fieldNat 1 1 (putWindow slot w) = boolCode w.enabled :=
    fieldNat_of_byte rfl ((boolCode_lt _).trans (by omega))
  have dates : (dateBytes w.dates).length = if w.dates.isSome then 5 else 1 := by
    cases w.dates <;> rfl
  have weekdays : w.weekdays.toNat < 128 := w.weekdays.isLt
  refine firstFailed_eq_none.2 ?_
  simp only [windowChecks, List.forall_mem_cons, kind_putWindow, plan_putWindow, essential_putWindow,
    weekdays_putWindow, present, number, enabled, length_putWindow, length_gateBytes, dates,
    decide_eq_true_eq, beq_iff_eq, boolCode_lt]
  rw [maskOffset_putWindow, dates]
  refine ⟨?_, ?_, ?_, w.gate.kind_le, ?_, slot.isLt, trivial, weekdays, trivial, w.plan.isLt, by simp⟩ <;>
    cases w.dates <;> simp <;> split <;> omega

theorem checkWindow_putWindow {w : Window} (h : w.Lawful) (slot : Fin 8) :
    checkWindow (putWindow slot w) = .store slot w [] := by
  obtain ⟨start, stop, dates, gate⟩ := h
  rw [checkWindow_eq]
  refine Checked.under_eq_store.2 ⟨windowChecks_putWindow slot w, ?_⟩
  have number : fieldNat 0 1 (putWindow slot w) = slot.val := fieldNat_of_byte rfl (by omega)
  have enabled : fieldNat 1 1 (putWindow slot w) = boolCode w.enabled :=
    fieldNat_of_byte rfl ((boolCode_lt _).trans (by omega))
  have from_ : fieldNat 2 4 (putWindow slot w) = w.startSod := fieldNat_of_slice rfl (by omega)
  have until_ : fieldNat 6 4 (putWindow slot w) = w.endSod := fieldNat_of_slice rfl (by omega)
  have after : (if w.gate.kind = 0 then maskOffset (putWindow slot w) + 2
      else maskOffset (putWindow slot w) + 4) =
      maskOffset (putWindow slot w) + if w.gate.kind = 0 then 2 else 4 := by split <;> rfl
  have date (day : Nat) (low : day ≤ 36524) : clampNat 0 36524 day = day := clampNat_of_le low
  have ranged : (if fieldNat 10 1 (putWindow slot w) = 0 then
        some (clampNat 0 36524 (fieldNat 11 2 (putWindow slot w)),
          clampNat 0 36524 (fieldNat 13 2 (putWindow slot w)))
        else none) = w.dates ∧
      ∀ at_ ∈ [11, 13], (decide (fieldNat 10 1 (putWindow slot w) = 0) &&
        clampNat 0 36524 (fieldNat at_ 2 (putWindow slot w)) != fieldNat at_ 2 (putWindow slot w)) =
          false := by
    obtain none | ⟨⟨first, last⟩, some⟩ := w.dates.eq_none_or_eq_some
    · have absent : fieldNat 10 1 (putWindow slot w) = 1 := by rw [putWindow_eq, none]; rfl
      simp [absent, none]
    · have present : fieldNat 10 1 (putWindow slot w) = 0 := by rw [putWindow_eq, some]; rfl
      obtain ⟨early, late⟩ := dates _ some
      have f1 : fieldNat 11 2 (putWindow slot w) = first :=
        fieldNat_of_slice (by rw [putWindow_eq, some]; rfl) (by omega)
      have f2 : fieldNat 13 2 (putWindow slot w) = last :=
        fieldNat_of_slice (by rw [putWindow_eq, some]; rfl) (by omega)
      simp [present, some, f1, f2, date first early, date last late]
  have gated (x : Int) (range : -160 ≤ x ∧ x ≤ 160) (carried : gateBytes w.gate = putInt 2 x) :
      fieldInt (maskOffset (putWindow slot w) + 2) 2 (putWindow slot w) = x := by
    rw [maskOffset_putWindow]
    refine fieldInt_of_slice ((slice_windowTail slot w 2 2).trans ?_) (by omega) (by omega)
    rw [windowTail, carried]
    rfl
  have judged : (if w.gate.kind = 0 then .noGate else if w.gate.kind = 1 then
        .above (clampInt (-160) 160 (fieldInt (maskOffset (putWindow slot w) + 2) 2 (putWindow slot w)))
        else .below (clampInt (-160) 160
          (fieldInt (maskOffset (putWindow slot w) + 2) 2 (putWindow slot w)))) = w.gate ∧
      (w.gate.kind != 0 &&
        clampInt (-160) 160 (fieldInt (maskOffset (putWindow slot w) + 2) 2 (putWindow slot w)) !=
          fieldInt (maskOffset (putWindow slot w) + 2) 2 (putWindow slot w)) = false := by
    cases kind : w.gate with
    | noGate => simp [AmbientGate.kind]
    | above x | below x =>
      rw [kind] at gate
      rw [gated x gate (by rw [kind]; rfl), clampInt_of_mem gate]
      simp [AmbientGate.kind]
  have candidate : windowCandidate (putWindow slot w) = (w, []) := by
    simp only [windowCandidate, windowMaskAt_eq, kind_putWindow, after, plan_putWindow, essential_putWindow,
      weekdays_putWindow, enabled, from_, until_, boolCode_eq_one, clampNat_of_le start, clampNat_of_le stop,
      ranged.1, ranged.2 11 (by simp), ranged.2 13 (by simp), judged.1, judged.2, finOf_fin,
      BitVec.ofNat_toNat, BitVec.setWidth_eq, changedFields, bne_self_eq_false]
    rfl
  rw [candidate, number, finOf_fin]

/-- A DEFINED plan slot up to the offsets of its list. -/
def planHead (slot : Fin 16) (p : Plan) : List Byte :=
  [byte slot.val, 1, byte (exposureModeCode p.mode), byte p.profile.val] ++
  (putNat 4 p.intervalStart ++ (putNat 4 p.intervalEnd ++ (putNat 2 p.rampFrames ++
  (putNat 4 p.frameLimit ++ ([byte (startRuleCode p.startRule)] ++ (putInt 2 p.eInit ++
  (putInt 2 p.cAmb ++ [byte p.gainK, byte p.deadband, byte p.stepLimit,
    byte (bracketModeCode p.bracketMode), byte p.brackets.length])))))))

/-- What follows the offsets of a plan. -/
def planTail (p : Plan) : List Byte := byte (endActionCode p.endAction) :: putOptIndex p.chainTarget

theorem offsetBytes_eq (offsets : List Int) :
    offsets.flatMap (putInt 1) = offsets.map (BitVec.ofInt 8) := by
  rw [List.map_eq_flatMap, funext putInt_one]

theorem putPlan_eq (slot : Fin 16) (p : Plan) :
    putPlan slot (some p) = planHead slot p ++ (p.brackets.map (BitVec.ofInt 8) ++ planTail p) := by
  simp only [putPlan, planHead, planTail, ← offsetBytes_eq, List.append_assoc, List.cons_append,
    List.nil_append]

section ReadPlan

variable (slot : Fin 16) (p : Plan)

theorem length_planHead : (planHead slot p).length = 28 := rfl

theorem length_putPlan : (putPlan slot (some p)).length = 30 + p.brackets.length := by
  simp [putPlan_eq, length_planHead, planTail, putOptIndex]
  omega

/-- A field of a plan before the offsets of its list. -/
theorem slice_putPlan {at_ size : Nat} (h : at_ + size ≤ 28) :
    slice at_ size (putPlan slot (some p)) = slice at_ size (planHead slot p) := by
  rw [putPlan_eq, slice_append_left (by rw [length_planHead]; exact h)]

theorem slice_planTail (k size : Nat) :
    slice (28 + p.brackets.length + k) size (putPlan slot (some p)) = slice k size (planTail p) := by
  rw [putPlan_eq, slice_append_right (by rw [length_planHead]; omega),
    slice_append_right (by rw [length_planHead, List.length_map]; omega)]
  congr 1
  rw [length_planHead, List.length_map]
  omega

theorem offsets_putPlan (range : ∀ o ∈ p.brackets, -48 ≤ o ∧ o ≤ 48) :
    (slice 28 p.brackets.length (putPlan slot (some p))).map (fun b => beInt [b]) = p.brackets := by
  rw [putPlan_eq, slice_append_right (by rw [length_planHead]), slice_append_left (by simp [length_planHead]),
    length_planHead, slice_all (by simp), List.map_map]
  conv_rhs => rw [← List.map_id p.brackets]
  refine List.map_congr_left fun o ho => ?_
  have bounds := range o ho
  rw [Function.comp_apply, ← putInt_one, id]
  exact beInt_putInt (by omega) (by omega)

theorem action_putPlan :
    fieldNat (28 + p.brackets.length) 1 (putPlan slot (some p)) = endActionCode p.endAction :=
  fieldNat_of_byte ((slice_planTail slot p 0 1).trans rfl) (by cases p.endAction <;> decide)

theorem target_putPlan : fieldNat (29 + p.brackets.length) 1 (putPlan slot (some p)) =
    (p.chainTarget.map Fin.val).getD 255 := by
  rw [show 29 + p.brackets.length = 28 + p.brackets.length + 1 by omega]
  exact fieldNat_of_optIndex (by omega) ((slice_planTail slot p 1 1).trans rfl)

end ReadPlan

/-- The numbers of a DEFINED plan before its list, read back from its bytes. -/
structure PlanReadBack (slot : Fin 16) (p : Plan) (w : List Byte) : Prop where
  slot : fieldNat 0 1 w = slot.val
  state : fieldNat 1 1 w = 1
  mode : fieldNat 2 1 w = exposureModeCode p.mode
  profile : fieldNat 3 1 w = p.profile.val
  intervalStart : fieldNat 4 4 w = p.intervalStart
  intervalEnd : fieldNat 8 4 w = p.intervalEnd
  rampFrames : fieldNat 12 2 w = p.rampFrames
  frameLimit : fieldNat 14 4 w = p.frameLimit
  startRule : fieldNat 18 1 w = startRuleCode p.startRule
  eInit : fieldInt 19 2 w = p.eInit
  cAmb : fieldInt 21 2 w = p.cAmb
  gainK : fieldNat 23 1 w = p.gainK
  deadband : fieldNat 24 1 w = p.deadband
  stepLimit : fieldNat 25 1 w = p.stepLimit
  bracketMode : fieldNat 26 1 w = bracketModeCode p.bracketMode
  entries : fieldNat 27 1 w = p.brackets.length

theorem planReadBack {slot : Fin 16} {p : Plan} (h : p.Lawful slot) :
    PlanReadBack slot p (putPlan slot (some p)) := by
  obtain ⟨start, stop, ramp, limit, eInit, cAmb, gain, dead, step, -, single, several, -, -⟩ := h
  have few : p.brackets.length ≤ 7 := by
    by_cases none : p.bracketMode = .single
    · simp [single none]
    · exact (several none).2
  have head {at_ size : Nat} (within : at_ + size ≤ 28) := slice_putPlan slot p within
  constructor
  case slot => exact fieldNat_of_byte (head (by omega)) (by omega)
  case state => exact fieldNat_of_byte (head (by omega)) (by omega)
  case mode => exact fieldNat_of_byte (head (by omega)) (by cases p.mode <;> decide)
  case profile => exact fieldNat_of_byte (head (by omega)) (by omega)
  case intervalStart => exact fieldNat_of_slice (head (by omega)) (by omega)
  case intervalEnd => exact fieldNat_of_slice (head (by omega)) (by omega)
  case rampFrames => exact fieldNat_of_slice (head (by omega)) (by omega)
  case frameLimit => exact fieldNat_of_slice (head (by omega)) (by omega)
  case startRule => exact fieldNat_of_byte (head (by omega)) (by cases p.startRule <;> decide)
  case eInit => exact fieldInt_of_slice (head (by omega)) (by omega) (by omega)
  case cAmb => exact fieldInt_of_slice (head (by omega)) (by omega) (by omega)
  case gainK => exact fieldNat_of_byte (head (by omega)) (by omega)
  case deadband => exact fieldNat_of_byte (head (by omega)) (by omega)
  case stepLimit => exact fieldNat_of_byte (head (by omega)) (by omega)
  case bracketMode => exact fieldNat_of_byte (head (by omega)) (by cases p.bracketMode <;> decide)
  case entries => exact fieldNat_of_byte (head (by omega)) (by omega)

theorem exposureModeOf_code (m : ExposureMode) : exposureModeOf (exposureModeCode m) = m := by
  cases m <;> rfl

theorem startRuleOf_code (r : StartRule) : startRuleOf (startRuleCode r) = r := by cases r <;> rfl

theorem bracketModeOf_code (m : BracketMode) : bracketModeOf (bracketModeCode m) = m := by
  cases m <;> rfl

theorem endActionOf_code (a : EndAction) : endActionOf (endActionCode a) = a := by cases a <;> rfl

theorem planCandidate_putPlan {slot : Fin 16} {p : Plan} (h : p.Lawful slot) :
    planCandidate (putPlan slot (some p)) = (p, []) := by
  obtain ⟨-, -, mode, profile, start', stop', ramp, limit', rule, eInit', cAmb', gain', dead', step',
    bracketMode, entries⟩ := planReadBack h
  obtain ⟨start, stop, -, limit, eInit, cAmb, gain, dead, step, range, single, -, chains, -⟩ := h
  have stored : p.brackets.map (clampInt (-48) 48) = p.brackets := by
    conv_rhs => rw [← List.map_id p.brackets]
    exact List.map_congr_left fun o ho => clampInt_of_mem (range o ho)
  have list : (if p.bracketMode = .single then [] else p.brackets) = p.brackets := by
    split
    · next none => exact (single none).symm
    · rfl
  have target : (if p.endAction.chains then finOf? 16 ((p.chainTarget.map Fin.val).getD 255) else none) =
      p.chainTarget := by
    rw [← chains]
    cases p.chainTarget with
    | none => rfl
    | some t => exact finOf?_fin t
  have longest (n : Nat) (range : 8 ≤ n ∧ n ≤ 691200) : clampNat 8 Config.longestInterval n = n :=
    clampNat_of_mem range
  simp only [planCandidate, mode, profile, start', stop', ramp, limit', rule, eInit', cAmb', gain', dead',
    step', bracketMode, entries, action_putPlan, target_putPlan, offsets_putPlan slot p range,
    exposureModeOf_code, startRuleOf_code, bracketModeOf_code, endActionOf_code, finOf_fin,
    longest _ start, longest _ stop, clampNat_of_le limit, clampInt_of_mem eInit, clampInt_of_mem cAmb,
    clampNat_of_le gain, clampNat_of_le dead, clampNat_of_mem step, stored, list, target, changedFields,
    bne_self_eq_false]
  rfl

theorem planChecks_putPlan {slot : Fin 16} {p : Plan} (h : p.Lawful slot) :
    firstFailed (planChecks (putPlan slot (some p))) = none := by
  have read := planReadBack h
  obtain ⟨-, -, -, -, -, -, -, -, -, -, -, several, chains, other⟩ := h
  refine firstFailed_eq_none.2 ?_
  simp only [planChecks, read.slot, read.state, read.mode, read.profile, read.startRule, read.bracketMode,
    read.entries, action_putPlan, target_putPlan, length_putPlan, Nat.one_ne_zero, if_false,
    List.cons_append, List.nil_append, List.forall_mem_cons, decide_eq_true_eq, beq_iff_eq,
    Bool.or_eq_true]
  refine ⟨by omega, le_rfl, trivial, slot.isLt, by cases p.mode <;> decide,
    by cases p.startRule <;> decide, by cases p.bracketMode <;> decide, by cases p.endAction <;> decide,
    p.profile.isLt, ?_, ?_, by simp⟩
  · cases mode : p.bracketMode with
    | single => exact .inl rfl
    | rotate | burst => exact .inr (several (by simp [mode]))
  · cases target : p.chainTarget with
    | none =>
      rw [target] at chains
      refine .inl ?_
      cases action : p.endAction <;> simp [action, EndAction.chains, endActionCode] at chains ⊢
    | some t =>
      refine .inr ⟨t.isLt, fun same => other ?_⟩
      rw [target, Fin.ext same]

theorem checkPlan_putPlan {slot : Fin 16} {p : Plan} (h : p.Lawful slot) :
    checkPlan (putPlan slot (some p)) = .store slot (some p) [] := by
  rw [checkPlan_eq]
  refine Checked.under_eq_store.2 ⟨planChecks_putPlan h, ?_⟩
  rw [(planReadBack h).state, (planReadBack h).slot, if_neg (by omega), planCandidate_putPlan h, finOf_fin]

theorem checkPlan_putPlan_empty (slot : Fin 16) : checkPlan (putPlan slot none) = .store slot none [] := by
  have number : fieldNat 0 1 (putPlan slot none) = slot.val := fieldNat_of_byte rfl (by omega)
  simp only [checkPlan, number, finOf?_fin]
  rfl

/-! ### Byte order (R183) -/

section Order

variable (before after : List Byte) (a b c d : Byte)

theorem slice_between (size : Nat) (h : size ≤ 4) :
    slice before.length size (before ++ [a, b, c, d] ++ after) = [a, b, c, d].take size := by
  rw [List.append_assoc, slice_append_right le_rfl, Nat.sub_self, slice_append_left (by simpa using h)]
  rfl

theorem beInt_pair : beInt [a, b] = a.toInt * 256 + b.toNat := by
  have ha := a.isLt
  have hb := b.isLt
  simp only [beInt, beNat, BitVec.toInt, List.foldl, List.length_cons, List.length_nil]
  norm_num
  split_ifs <;> omega

end Order

/-- Settles O14: each field of a record's bytes reads back as its value, which clamping leaves as it
is. -/
theorem recordsReadBackAsWritten : Obligations.RecordsReadBackAsWritten := by
  refine ⟨fun i p => checkPlan_putPlan, checkPlan_putPlan_empty,
    fun i p h => ⟨length_putProfile i p, checkProfile_putProfile h i⟩,
    fun i w h => checkWindow_putWindow h i, fun g => checkGeneral_putGeneral,
    fun g => checkSupply_putSupply, fun before after a b c d => ?_⟩
  have cut := slice_between before after a b c d
  simp only [fieldNat, fieldInt, cut 1 (by omega), cut 2 (by omega), cut 4 (by omega)]
  exact ⟨by simp [beNat], by simp [beNat], by simp [beNat], beInt_byte a, beInt_pair a b⟩

end Sys2Proof.Machine


/-! PROOFS. The requests that report, and the notice set (O8, O9, O53, O54): each reply's bytes stand in
the fields of their table. -/

namespace Sys2Proof.Machine

/-! ### Flag bytes -/

theorem testBit_presence (bits : List Bool) (i : Nat) :
    (bits.foldr (fun b acc => boolCode b + 2 * acc) 0).testBit i = bits.getD i false := by
  induction bits generalizing i with
  | nil => simp
  | cons b bits ih =>
    rw [List.foldr_cons]
    cases i with
    | zero => cases b <;> simp [boolCode, Nat.testBit_zero]
    | succ i =>
      rw [Nat.testBit_succ, List.getD_cons_succ, ← ih]
      congr 1
      have := boolCode_lt b
      omega

/-- Flag `i` of a presence byte is the `i`-th of its list (R183). -/
theorem getLsbD_presence (bits : List Bool) (i : Nat) :
    (presence bits).getLsbD i = (decide (i < 8) && bits.getD i false) := by
  rw [presence, byte, BitVec.getLsbD_ofNat, testBit_presence]

theorem beyond_presence {bits : List Bool} {i : Nat} (h : bits.length ≤ i) :
    (decide (i < 8) && bits.getD i false) = false := by
  rw [List.getD_eq_default _ _ h, Bool.and_false]

theorem zeroBytes (size : Nat) : putNat size 0 = List.replicate size 0#8 := by
  induction size with
  | zero => rfl
  | succ size ih => simp [putNat, ih, List.replicate_succ, byte]

theorem length_putInstant (t : Nat) : (putInstant t).length = 6 := rfl

/-! ### GET_STATUS (R177) -/

/-- The reply data of GET_STATUS before the run. -/
def statusHead (s : Part) : List Byte :=
  [byte s.engine.code, byte s.time.clock.code, byte s.lending.port.code, byte s.health.code,
    byte s.failCount, byte s.battery.level.rank,
    byte (boolCode (s.monitor.state == .riding)), byte (boolCode s.monitor.cellLow),
    byte (boolCode s.rehearsal),
    presence [s.run.isSome, s.battery.latest.isSome, s.meter.latest.isSome,
      s.journal.newest.isSome, s.reportedTimer.isSome, s.reportedReclaim.isSome]]

/-- The reply data of GET_STATUS after the run. -/
def statusTail (s : Part) : List Byte :=
  putNat 2 ((s.battery.latest.map (·.volts)).getD 0) ++
  (putInt 1 ((s.battery.latest.map (·.celsius)).getD 0) ++
  (putInt 2 ((s.meter.latest.map (·.a)).getD 0) ++
  (putNat 4 (s.journal.newest.getD 4294967295) ++
  ([byte s.notices.length] ++
  (putElapsed (s.reportedTimer.getD 0) ++ putInstant (s.reportedReclaim.getD 0))))))

theorem statusData_eq (s : Part) :
    statusData s = statusHead s ++ (putRunSummary s.run ++ statusTail s) := by
  simp only [statusData, statusHead, statusTail, List.append_assoc]

theorem length_putRunSummary (r : Option Run) : (putRunSummary r).length = 17 := by
  cases r <;> rfl

section Status

variable (s : Part)

theorem slice_statusHead {at_ size : Nat} (h : at_ + size ≤ 10) :
    slice at_ size (statusData s) = slice at_ size (statusHead s) := by
  rw [statusData_eq, slice_append_left h]

theorem slice_statusRun {k size : Nat} (h : k + size ≤ 17) :
    slice (10 + k) size (statusData s) = slice k size (putRunSummary s.run) := by
  rw [statusData_eq, slice_append_right (by simp [statusHead]),
    slice_append_left (by simp [length_putRunSummary, statusHead]; omega)]
  congr 1
  simp [statusHead]

theorem slice_statusTail (k size : Nat) :
    slice (27 + k) size (statusData s) = slice k size (statusTail s) := by
  rw [statusData_eq, slice_append_right (by simp [statusHead]; omega),
    slice_append_right (by simp [length_putRunSummary, statusHead]; omega)]
  congr 1
  simp [statusHead, length_putRunSummary]
  omega

theorem reportedTimer_isSome : s.reportedTimer.isSome =
    (s.lending.timer.isSome && (s.lending.port == .lent || s.lending.port == .reclaiming)) := by
  unfold Part.reportedTimer
  cases s.lending.port <;> simp

theorem reportedTimer_hostSide (h : s.lending.port.hostSide = true) :
    s.reportedTimer = s.lending.timer := by
  unfold Part.reportedTimer
  cases port : s.lending.port <;> simp [port, PortState.hostSide] at h ⊢

theorem reportedTimer_partSide (h : s.lending.port.hostSide = false) : s.reportedTimer = none := by
  unfold Part.reportedTimer
  cases port : s.lending.port <;> simp [port, PortState.hostSide] at h ⊢

theorem reportedReclaim_isSome : s.reportedReclaim.isSome =
    (s.engine == .armed && s.run.any (·.state == .active)) := by
  unfold Part.reportedReclaim Part.serves
  cases s.run with
  | none => simp
  | some r => simp only [Option.any_some]; split <;> simp_all

theorem reportedReclaim_served {r : Run} (run : s.run = some r) (active : r.state = .active)
    (armed : s.engine = .armed) : s.reportedReclaim = some (s.reclaimMoment r) := by
  simp [Part.reportedReclaim, Part.serves, run, active, armed]

theorem reportedReclaim_none (h : s.engine ≠ .armed ∨ ∀ r ∈ s.run, r.state = .ending) :
    s.reportedReclaim = none := by
  have none : s.reportedReclaim.isSome = false := by
    rw [reportedReclaim_isSome]
    obtain idle | ending := h
    · simp [idle]
    · cases run : s.run with
      | none => simp
      | some r => simp [ending r run]
  exact Option.not_isSome_iff_eq_none.1 (by simp [none])

theorem reclaimMoment_eq (r : Run) : s.reclaimMoment r =
    r.nextDue - 4096 * (s.tables.general.reclaimLead + (s.profileOfPlan r.plan).wakeLead) := by
  rw [Part.reclaimMoment, Part.wakeLead, eighths_eq, eighths_eq, Nat.mul_add]

theorem statusData_fields : StatusFields s (statusData s) where
  length := by simp [statusData_eq, statusHead, statusTail, length_putRunSummary, putElapsed,
    length_putInstant]
  states := by
    rw [slice_statusHead s (by omega)]
    change [byte s.engine.code, byte s.time.clock.code, byte s.lending.port.code, byte s.health.code] = _
    simp only [List.cons.injEq, and_true]
    exact ⟨by cases s.engine <;> rfl, by cases s.time.clock <;> rfl, by cases s.lending.port <;> rfl,
      by cases s.health <;> rfl⟩
  count := slice_statusHead s (by omega)
  level := by
    rw [slice_statusHead s (by omega)]
    change [byte s.battery.level.rank] = _
    cases s.battery.level <;> rfl
  flags := by
    rw [slice_statusHead s (by omega)]
    change [byte (boolCode (s.monitor.state == .riding)), byte (boolCode s.monitor.cellLow),
      byte (boolCode s.rehearsal)] = _
    cases s.monitor.state <;> cases s.monitor.cellLow <;> cases s.rehearsal <;> rfl
  presence := by
    refine ⟨_, slice_statusHead s (by omega), ?_⟩
    have newest : s.journal.newest.isSome = !s.journal.records.isEmpty := by
      unfold Journal.newest
      cases s.journal.records using List.reverseRecOn <;> simp
    simp only [getLsbD_presence, newest, reportedTimer_isSome, reportedReclaim_isSome]
    simp
  run r run := by
    have state : byte (if r.state = .active then 0 else 1) = if r.state = .active then 0#8 else 1#8 := by
      split <;> rfl
    rw [← state]
    refine ⟨(slice_statusRun s (k := 0) (by omega)).trans ?_,
      (slice_statusRun s (k := 3) (by omega)).trans ?_,
      (slice_statusRun s (k := 9) (by omega)).trans ?_,
      (slice_statusRun s (k := 13) (by omega)).trans ?_⟩ <;> rw [run] <;> rfl
  noRun none := by
    refine (slice_statusRun s (k := 0) (by omega)).trans ?_
    rw [none]
    rfl
  supply b held := by
    refine ⟨(slice_statusTail s 0 2).trans ?_, (slice_statusTail s 2 1).trans ?_⟩
    · rw [statusTail, held]; rfl
    · rw [statusTail, held, ← putInt_one]; rfl
  noSupply none := by
    refine (slice_statusTail s 0 3).trans ?_
    rw [statusTail, none]
    rfl
  ambient m held := by
    refine (slice_statusTail s 3 2).trans ?_
    rw [statusTail, held]
    exact putInt_two m.a
  noAmbient none := by
    refine (slice_statusTail s 3 2).trans ?_
    rw [statusTail, none]
    rfl
  newest x held := by
    refine (slice_statusTail s 5 4).trans ?_
    rw [statusTail, Journal.newest, held]
    rfl
  noFrame none := by
    refine (slice_statusTail s 5 4).trans ?_
    rw [statusTail, Journal.newest, none]
    rfl
  notices := slice_statusTail s 9 1
  lend e held host := by
    refine (slice_statusTail s 10 6).trans ?_
    rw [statusTail, reportedTimer_hostSide s host, held]
    rfl
  noLend partSide := by
    refine (slice_statusTail s 10 6).trans ?_
    rw [statusTail, reportedTimer_partSide s partSide]
    rfl
  reclaim r run active armed := by
    refine (slice_statusTail s 16 6).trans ?_
    rw [statusTail, reportedReclaim_served s run active armed, Option.getD_some, reclaimMoment_eq]
    rfl
  noReclaim h := by
    refine (slice_statusTail s 16 6).trans ?_
    rw [statusTail, reportedReclaim_none s h]
    rfl

/-! ### GET_CLOCK and READ_METER (R10, R82) -/

theorem clockData_fields : ClockFields s (clockData s) where
  length := rfl
  state := by
    change [byte s.time.clock.code] = _
    cases s.time.clock <;> rfl
  clock := rfl
  day := rfl
  secondOfDay := rfl
  weekday := rfl
  trim := putInt_two _
  elapsed := rfl

end Status

/-- The gates in progress of a meter state. -/
def MeterState.gates : MeterState → Option Measuring
  | .measuring m => some m
  | .stopped | .idle => none

/-- The code of a meter state (R82). -/
def MeterState.code : MeterState → Nat
  | .stopped => 0
  | .idle => 1
  | .measuring _ => 2

/-- The reply data of READ_METER before its deadline. -/
def meterHead (s : Part) : List Byte :=
  [byte (boolCode s.tables.general.meterEnabled), byte s.meter.state.code, byte s.meter.startGate.val,
    presence [s.meter.state.gates.isSome, decide (s.meter.state ≠ .stopped), s.meter.latest.isSome],
    byte ((s.meter.state.gates.map (·.gate.val)).getD 0),
    byte ((s.meter.state.gates.map (·.used.toNat)).getD 0)]

section Meter

variable (s : Part)

theorem meterData_eq : meterData s = meterHead s ++
    (putElapsed (if s.meter.state ≠ .stopped then s.meter.deadline else 0) ++
      putMeterReading s.meter.latest) := by
  unfold meterData meterHead
  cases s.meter.state <;> simp [MeterState.code, MeterState.gates]

theorem slice_meterHead {at_ size : Nat} (h : at_ + size ≤ 6) :
    slice at_ size (meterData s) = slice at_ size (meterHead s) := by
  rw [meterData_eq, slice_append_left h]

theorem slice_meterDeadline : slice 6 6 (meterData s) =
    putElapsed (if s.meter.state ≠ .stopped then s.meter.deadline else 0) := by
  rw [meterData_eq]
  rfl

theorem slice_meterReading (k size : Nat) :
    slice (12 + k) size (meterData s) = slice k size (putMeterReading s.meter.latest) := by
  rw [meterData_eq, slice_append_right (by simp [meterHead]; omega),
    slice_append_right (by simp [meterHead, putElapsed]; omega)]
  congr 1
  simp [meterHead, putElapsed]
  omega

theorem length_putMeterReading (r : Option MeterReading) : (putMeterReading r).length = 13 := by
  cases r <;> rfl

theorem meterData_fields : MeterFields s (meterData s) where
  length := by simp [meterData_eq, meterHead, putElapsed, length_putMeterReading]
  head := by
    rw [slice_meterHead s (by omega)]
    change [byte (boolCode s.tables.general.meterEnabled), byte s.meter.state.code, _] = _
    simp only [List.cons.injEq, and_true]
    exact ⟨by cases s.tables.general.meterEnabled <;> rfl, by cases s.meter.state <;> rfl⟩
  presence := by
    refine ⟨_, slice_meterHead s (by omega), ?_⟩
    simp only [getLsbD_presence]
    refine ⟨?_, by simp, by simp, fun i far => ?_⟩
    · cases s.meter.state <;> simp [MeterState.gates]
    · exact beyond_presence (by simpa using far)
  reading m measuring := by
    rw [slice_meterHead s (by omega), meterHead, measuring]
    exact congrArg (fun b => [byte m.gate.val, b]) (BitVec.eq_of_toNat_eq (by simp [byte_toNat, MeterState.gates]))
  noReading none := by
    rw [slice_meterHead s (by omega), meterHead]
    cases state : s.meter.state with
    | stopped | idle => rfl
    | measuring m => exact absurd state (none m)
  deadline running := by
    rw [slice_meterDeadline, if_pos running]
    rfl
  noDeadline stopped := by
    rw [slice_meterDeadline, if_neg (not_not.2 stopped)]
    rfl
  latest r held := by
    have tail := slice_meterReading s
    rw [held] at tail
    refine ⟨(tail 0 2).trans (putInt_two r.a), tail 2 1, tail 3 3, tail 7 6,
      presence [r.dark, r.saturated], tail 6 1, ?_⟩
    simp only [getLsbD_presence]
    exact ⟨by simp, by simp, fun i far => beyond_presence (bits := [r.dark, r.saturated]) far⟩
  noLatest none := by
    refine (slice_meterReading s 0 13).trans ?_
    rw [none]
    rfl

end Meter

/-! ### READ_PROFILE (R20, R21) -/

theorem putProfile_effective (i : Fin 4) (p : Profile) : EffectiveFields p (putProfile i p) := by
  have cut : slice 42 8 (putProfile i p) = effectiveBytes p.effective := by
    rw [putProfile_eq, slice_append_right (by rw [length_profileBytes]), length_profileBytes,
      Nat.sub_self, slice_all (length_effectiveBytes _)]
  have laid (e : EffectiveLimits) : effectiveBytes e = signedPair e.sMin ++ signedPair e.sMax ++
      signedPair e.sKnee ++ [BitVec.ofInt 8 e.gMax, BitVec.ofInt 8 e.gKnee] := by
    simp only [effectiveBytes, putInt_two, putInt_one, List.append_assoc, List.cons_append,
      List.nil_append]
  refine ⟨length_putProfile i p, fun line => ?_, fun line => ?_⟩
  · rw [cut, laid]
    simp [Profile.effective, line, byte, BitVec.ofInt_natCast]
  · rw [cut, laid]
    simp [Profile.effective, line]

/-! ### Requests that report -/

section Reports

variable {c : Instr} {code : Byte} {s : State}

theorem exec_reportWhole {data : Part → List Byte}
    (acts : exec c s = advance (request code [] (reportWhole [] data)) s)
    (awake : s.part.awake = true) (empty : s.part.link.handled = none) :
    exec c s = .next (s.put (startReply ⟨code, []⟩ (.ok (data s.part)) s.part)) :=
  exec_answered acts awake empty (if_pos rfl)

theorem reportSlot_within {n : Nat} (i : Fin n) (small : n ≤ 256) (data : Fin n → List Byte) (s : Part) :
    reportSlot n [byte i.val] data s = only (.ok (data i)) s := by
  have number : fieldNat 0 1 [byte i.val] = i.val := fieldNat_of_byte rfl (by omega)
  rw [reportSlot, if_neg (by simp), number, finOf?_fin]

theorem reportSlot_beyond {n : Nat} {x : Byte} (h : n ≤ x.toNat) (data : Fin n → List Byte) (s : Part) :
    reportSlot n [x] data s = only (.badField 255) s := by
  have number : fieldNat 0 1 [x] = x.toNat := beNat_singleton x
  rw [reportSlot, if_neg (by simp), number, finOf?, dif_neg (by omega)]

end Reports

/-- Settles O8: the requests that report, and their data laid out field by field. -/
theorem reportsChangeOnlyTheReply : Obligations.ReportsChangeOnlyTheReply := by
  intro s awake empty
  refine ⟨exec_reportWhole rfl awake empty, exec_reportWhole rfl awake empty,
    exec_reportWhole (data := fun p => putSupply p.tables.supply) rfl awake empty,
    exec_reportWhole (data := fun p => putGeneral p.tables.general) rfl awake empty,
    exec_reportWhole rfl awake empty,
    fun i => exec_answered rfl awake empty (reportSlot_within i (by omega) _ _),
    fun i => exec_answered rfl awake empty (reportSlot_within i (by omega) _ _),
    fun i => exec_answered rfl awake empty (reportSlot_within i (by omega) _ _),
    fun x => ⟨fun h => exec_answered rfl awake empty (reportSlot_beyond h _ _),
      fun h => exec_answered rfl awake empty (reportSlot_beyond h _ _),
      fun h => exec_answered rfl awake empty (reportSlot_beyond h _ _)⟩,
    statusData_fields s.part, clockData_fields s.part, meterData_fields s.part, putProfile_effective⟩

/-! ### READ_FRAMES (R172) -/

/-- A frame record before its exposure fields. -/
def recordHead (r : FrameRecord) : List Byte :=
  putNat 4 r.number ++ ([byte r.outcome.code, byte r.source.code, byte r.plan.val] ++
    (putOptIndex r.window ++ (putInstant r.due ++ putInstant (r.startAt.getD 0))))

/-- A frame record after its exposure fields. -/
def recordTail (r : FrameRecord) : List Byte :=
  [r.flags.byte,
    presence [r.startAt.isSome, r.exposure.isSome, r.b.isSome, r.a.isSome, r.level.isSome,
      r.volts.isSome]] ++
  (putInt 1 (r.b.getD 0) ++ (putInt 2 (r.a.getD 0) ++
  ([byte ((r.level.map Level.rank).getD 0)] ++ (putNat 2 (r.volts.getD 0) ++
  ([byte (r.merged.getD 0), byte ((r.cause.map FailCause.code).getD 0),
    (r.cause.map FailCause.nakByte).getD 0, byte ((r.reason.map MissReason.code).getD 0)] ++
  (putNat 2 r.missCount ++ putInstant (r.lastDue.getD 0)))))))

theorem putRecord_eq (r : FrameRecord) :
    putRecord r = recordHead r ++ (putExposure r.exposure ++ recordTail r) := by
  simp only [putRecord, recordHead, recordTail, List.append_assoc]

theorem length_putExposure (e : Option ExposureFields) : (putExposure e).length = 8 := by
  cases e <;> rfl

theorem length_recordHead (r : FrameRecord) : (recordHead r).length = 20 := rfl

theorem length_recordTail (r : FrameRecord) : (recordTail r).length = 20 := rfl

theorem length_putRecord (r : FrameRecord) : (putRecord r).length = 48 := by
  simp [putRecord_eq, length_recordHead, length_recordTail, length_putExposure]

section Record

variable (r : FrameRecord)

theorem slice_recordHead {at_ size : Nat} (h : at_ + size ≤ 20) :
    slice at_ size (putRecord r) = slice at_ size (recordHead r) := by
  rw [putRecord_eq, slice_append_left h]

theorem slice_recordExposure {k size : Nat} (h : k + size ≤ 8) :
    slice (20 + k) size (putRecord r) = slice k size (putExposure r.exposure) := by
  rw [putRecord_eq, slice_append_right (by rw [length_recordHead]; omega),
    slice_append_left (by rw [length_putExposure, length_recordHead]; omega), length_recordHead,
    Nat.add_sub_cancel_left]

theorem slice_recordTail (k size : Nat) :
    slice (28 + k) size (putRecord r) = slice k size (recordTail r) := by
  rw [putRecord_eq, slice_append_right (by rw [length_recordHead]; omega),
    slice_append_right (by rw [length_recordHead, length_putExposure]; omega), length_recordHead,
    length_putExposure]
  congr 1
  omega

theorem putRecord_fields : RecordFields r (putRecord r) where
  length := length_putRecord r
  number := slice_recordHead r (by omega)
  kind := by
    rw [slice_recordHead r (by omega)]
    change [byte r.outcome.code, byte r.source.code] = _
    simp only [List.cons.injEq, and_true]
    exact ⟨by cases r.outcome <;> rfl, by cases r.source <;> rfl⟩
  plan := slice_recordHead r (by omega)
  window := by
    rw [slice_recordHead r (by omega)]
    change putOptIndex r.window = _
    cases r.window <;> rfl
  due := slice_recordHead r (by omega)
  startAt := slice_recordHead r (by omega)
  exposure e held := by
    have tail {k size : Nat} (h : k + size ≤ 8) := slice_recordExposure r h
    rw [held] at tail
    refine ⟨(tail (k := 0) (size := 3) (by omega)).trans ?_,
      (tail (k := 3) (size := 2) (by omega)).trans (putInt_two e.eBase),
      (tail (k := 5) (size := 3) (by omega)).trans rfl⟩
    rw [putExposure, putInt_one, putInt_one, putInt_one]
    rfl
  noExposure none := by
    refine (slice_recordExposure r (k := 0) (by omega)).trans ?_
    rw [none]
    rfl
  flags := by
    refine ⟨_, slice_recordTail r 0 1, ?_⟩
    simp only [RecordFlags.byte, getLsbD_presence]
    simp
  presence := by
    refine ⟨_, slice_recordTail r 1 1, ?_⟩
    simp only [getLsbD_presence]
    simp
  readings := by
    refine ⟨(slice_recordTail r 2 1).trans ?_, (slice_recordTail r 3 2).trans (putInt_two _)⟩
    rw [← putInt_one]
    rfl
  level := by
    refine (slice_recordTail r 5 1).trans ?_
    change [byte ((r.level.map Level.rank).getD 0)] = _
    cases r.level with
    | none => rfl
    | some l => cases l <;> rfl
  volts := slice_recordTail r 6 2
  merged := slice_recordTail r 8 1
  cause := by
    refine (slice_recordTail r 9 2).trans ?_
    change [byte ((r.cause.map FailCause.code).getD 0), (r.cause.map FailCause.nakByte).getD 0] = _
    cases r.cause with
    | none => rfl
    | some c => cases c <;> rfl
  reason := by
    refine (slice_recordTail r 11 1).trans ?_
    change [byte ((r.reason.map MissReason.code).getD 0)] = _
    cases r.reason with
    | none => rfl
    | some c => cases c <;> rfl
  misses := ⟨slice_recordTail r 12 2, slice_recordTail r 14 6⟩

end Record

/-- One of the records returned stands in its 48 bytes. -/
theorem slice_records {found : List FrameRecord} {i : Nat} {r : FrameRecord} (h : found[i]? = some r) :
    slice (48 * i) 48 (found.flatMap putRecord) = putRecord r := by
  induction found generalizing i with
  | nil => simp at h
  | cons x xs ih =>
    rw [List.flatMap_cons]
    cases i with
    | zero =>
      cases h
      rw [slice_append_left (by rw [length_putRecord]), slice_all (length_putRecord _)]
    | succ i =>
      rw [slice_append_right (by rw [length_putRecord]; omega), length_putRecord,
        show 48 * (i + 1) - 48 = 48 * i by omega]
      exact ih (by simpa using h)

theorem length_records (found : List FrameRecord) : (found.flatMap putRecord).length = 48 * found.length := by
  simp [List.length_flatMap, length_putRecord, mul_comm]

/-- The reply data of READ_FRAMES before the records. -/
def framesHead (j : Journal) (first n : Nat) : List Byte :=
  [presence [j.gap first, !j.records.isEmpty]] ++ (putNat 4 (j.oldest.getD 4294967295) ++
    (putNat 4 (j.newest.getD 4294967295) ++ [byte (j.readFrom first n).length]))

theorem framesData_eq (j : Journal) (first n : Nat) :
    framesData j first n = framesHead j first n ++ (j.readFrom first n).flatMap putRecord := by
  simp only [framesData, framesHead, List.append_assoc]

theorem framesData_fields (j : Journal) (first n : Nat) :
    FramesFields j (j.gap first) (j.readFrom first n) (framesData j first n) where
  length := by
    rw [framesData_eq, List.length_append, length_records]
    rfl
  flags := by
    refine ⟨presence [j.gap first, !j.records.isEmpty], by rw [framesData_eq]; rfl, ?_⟩
    simp only [getLsbD_presence]
    exact ⟨by simp, by simp, fun i far =>
      beyond_presence (bits := [j.gap first, !j.records.isEmpty]) far⟩
  oldest := by
    have cut : slice 1 4 (framesData j first n) = putNat 4 (j.oldest.getD 4294967295) := by
      rw [framesData_eq]; rfl
    rw [cut, Journal.oldest]
    cases j.records.head? <;> rfl
  newest := by
    have cut : slice 5 4 (framesData j first n) = putNat 4 (j.newest.getD 4294967295) := by
      rw [framesData_eq]; rfl
    rw [cut, Journal.newest]
    cases j.records.getLast? <;> rfl
  count := by rw [framesData_eq]; rfl
  records i r held := by
    have head : (framesHead j first n).length = 10 := rfl
    rw [framesData_eq, slice_append_right (by omega), head, Nat.add_sub_cancel_left, slice_records held]
    exact putRecord_fields r

/-- Records that follow one another bear the numbers of a range. -/
theorem numberedFrom_numbers {n : Nat} {rs : List FrameRecord} (h : numberedFrom n rs = true) :
    rs.map (·.number) = List.range' n rs.length := by
  induction rs generalizing n with
  | nil => rfl
  | cons r rs ih =>
    simp only [numberedFrom, Bool.and_eq_true, beq_iff_eq] at h
    rw [List.map_cons, ih h.2, List.length_cons, List.range'_succ, h.1]

theorem filter_range' (first a len : Nat) : (List.range' a len).filter (fun k => decide (first ≤ k)) =
    List.range' (max first a) (a + len - max first a) := by
  induction len generalizing a with
  | zero =>
    rw [show a + 0 - max first a = 0 by omega]
    rfl
  | succ len ih =>
    rw [List.range'_succ, List.filter_cons, ih]
    obtain before | from_ := Nat.lt_or_ge a first
    · rw [if_neg (by simpa using before), show max first (a + 1) = max first a by omega]
      congr 1
      omega
    · rw [if_pos (by simpa using from_), show max first (a + 1) = a + 1 by omega,
        show max first a = a by omega, show a + (len + 1) - a = len + 1 by omega, List.range'_succ]
      congr 2
      omega

theorem take_range' (n a len : Nat) : (List.range' a len).take n = List.range' a (min n len) :=
  List.ext_getElem (by simp) fun i _ _ => by simp

section ReadFrames

variable {j : Journal} (law : j.Lawful) (first n : Nat)
include law

theorem readFrom_numbers {oldest newest : Nat} (old : j.oldest = some oldest) (new : j.newest = some newest) :
    (j.readFrom first n).map (·.number) =
      List.range' (max first oldest) (min n (newest + 1 - max first oldest)) := by
  obtain ⟨-, below, -, numbered, -⟩ := law
  have numbers := numberedFrom_numbers numbered
  have some_ : j.records.length ≠ 0 := by
    intro none
    rw [Journal.oldest, List.length_eq_zero_iff.1 none] at old
    cases old
  have lowest : j.nextNumber - j.records.length = oldest := by
    rw [Journal.oldest, ← List.head?_map, numbers, List.head?_range', if_neg some_] at old
    exact Option.some.inj old
  have highest : j.nextNumber - j.records.length + j.records.length - 1 = newest := by
    rw [Journal.newest, ← List.getLast?_map, numbers, List.getLast?_range', if_neg some_] at new
    simpa using new
  calc (j.readFrom first n).map (·.number)
      = ((j.records.map (·.number)).filter (fun k => decide (first ≤ k))).take n := by
        rw [Journal.readFrom, List.map_take, List.filter_map]
        rfl
    _ = _ := by
        rw [numbers, filter_range', take_range', lowest]
        congr 1
        omega

end ReadFrames

theorem gap_iff {j : Journal} {oldest : Nat} (old : j.oldest = some oldest) (first : Nat) :
    j.gap first = true ↔ first < oldest := by
  rw [Journal.gap, old]
  exact decide_eq_true_iff

theorem readFrom_none {j : Journal} (old : j.oldest = none) (first n : Nat) :
    j.readFrom first n = [] ∧ j.gap first = false := by
  refine ⟨?_, by rw [Journal.gap, old]⟩
  have none : j.records = [] := by
    rw [Journal.oldest, Option.map_eq_none_iff, List.head?_eq_none_iff] at old
    exact old
  rw [Journal.readFrom, none]
  simp

theorem mem_readFrom {j : Journal} {first n : Nat} {r : FrameRecord} (h : r ∈ j.readFrom first n) :
    r ∈ j.records :=
  List.mem_of_mem_filter (List.mem_of_mem_take h)

/-- Settles O9: the records of a lawful ring bear consecutive numbers, so those from F on are again a
range. -/
theorem readFramesReturnsTheRecordsAsked : Obligations.ReadFramesReturnsTheRecordsAsked := by
  intro p s awake empty length
  refine ⟨fun one four => ⟨exec_answered rfl awake empty ?_, framesData_fields _ _ _, fun law =>
    ⟨fun r => mem_readFrom, fun oldest newest old new => ⟨readFrom_numbers law _ _ old new, gap_iff old _⟩,
      fun old => readFrom_none old _ _⟩⟩, fun wrong => exec_answered rfl awake empty ?_⟩
  · rw [handleReadFrames, if_neg (not_not.2 length), if_neg (by omega)]
  · rw [handleReadFrames, if_neg (not_not.2 length), if_pos wrong]

/-! ### The notice set (R178 to R181) -/

theorem putNotice_eq (n : Notice) : putNotice n =
    [byte n.kind.index, byte n.count] ++ instantBytes n.first ++ instantBytes n.last ++
      match n.detail with
      | some d => putNat 4 d
      | none => [0xFF#8, 0xFF#8, 0xFF#8, 0xFF#8] := by
  rw [putNotice]
  cases n.detail <;> rfl

theorem length_putNotice (n : Notice) : (putNotice n).length = 18 := by
  simp [putNotice, length_putInstant]

/-- Settles O53: the four oldest entries are returned and dropped, and a mask is one field of the general
settings. -/
theorem noticesAreCollectedAndMasked : Obligations.NoticesAreCollectedAndMasked := by
  intro p s awake empty
  refine ⟨exec_handled (f := handleGetNotices []) rfl awake empty, ?_, rfl, fun size n fits =>
    ⟨length_putNat size n, (beNat_putNat size n).trans (Nat.mod_eq_of_lt fits)⟩, ?_,
    fun length small => (exec_handled rfl awake empty).trans ?_,
    fun length large => exec_answered rfl awake empty ?_⟩
  · intro instant
    rw [noticesData, funext putNotice_eq, List.length_drop, List.length_take]
    rfl
  · simp [noticesData, List.length_flatMap, length_putNotice, mul_comm]
    omega
  · rw [handleMask, if_neg (not_not.2 length), if_neg (by omega)]
    rfl
  · rw [handleMask, if_neg (not_not.2 length), if_pos large]

theorem noticeLine_iff (s : Part) : s.noticeLine = true ↔ s.notices ≠ [] ∧ s.monitor.lost = false ∧
    (s.monitor.state = .supplied ∨ s.monitor.state = .riding) := by
  cases state : s.monitor.state <;> simp [Part.noticeLine, Part.awake, state]

/-- A raise of a kind with no entry adds one as the newest (R178). -/
theorem raiseIn_new {kind : NoticeKind} {ns : List Notice} (h : entryOf kind ns = none)
    (detail : Option Nat) (now : Nat) :
    raiseIn kind detail now ns = ns ++ [⟨kind, 1, now, now, detail⟩] := by
  induction ns with
  | nil => rfl
  | cons n ns ih =>
    obtain ⟨other, rest⟩ := by simpa [entryOf] using h
    rw [raiseIn, if_neg other, List.cons_append, ih (by simpa [entryOf] using rest)]

/-- A raise of a kind with an entry updates that entry (R178). -/
theorem raiseIn_present {kind : NoticeKind} {ns : List Notice} {n : Notice}
    (h : entryOf kind ns = some n) (detail : Option Nat) (now : Nat) :
    entryOf kind (raiseIn kind detail now ns) =
      some ⟨kind, min (n.count + 1) 255, n.first, now, detail⟩ := by
  induction ns with
  | nil => cases h
  | cons m ns ih =>
    rw [raiseIn]
    by_cases same : m.kind = kind
    · rw [if_pos same]
      simp only [entryOf, List.find?_cons, same, beq_self_eq_true, Option.some.injEq] at h ⊢
      rw [h]
    · rw [if_neg same]
      simp only [entryOf, List.find?_cons, beq_eq_false_iff_ne.2 same] at h ih ⊢
      exact ih h

/-- Settles O54: the one operation on the notice set adds an entry or updates the one of its kind. -/
theorem raisesAddOrUpdateOneEntry : Obligations.RaisesAddOrUpdateOneEntry := by
  intro k d s law
  refine ⟨noticeLine_iff s, raiseNotice_masked, fun unmasked => ?_⟩
  rw [raiseNotice_eq, if_pos unmasked]
  refine ⟨rfl, raiseIn_lawful law, fun other different => entryOf_raiseIn_other different _ _ _,
    fun none => raiseIn_new none _ _, fun n held => ⟨raiseIn_present held _ _, ?_⟩⟩
  have present : k ∈ s.notices.map (·.kind) := by
    have kind := List.find?_some held
    exact List.mem_map.2 ⟨n, List.mem_of_find?_eq_some held, eq_of_beq kind⟩
  exact (raiseIn_kinds _ _ _ _).trans (if_pos present)

end Sys2Proof.Machine


/-! PROOFS. The arithmetic of the schedule, the meter, the exposure computer and the power level
(O15, O17, O28, O29, O30, O46). -/

namespace Sys2Proof.Machine

/-! ### The interval of a run (R36, R45) -/

/-- The next multiple of an interval at or after a moment. -/
theorem firstDue_bounds {interval now occStart : Nat} (positive : 0 < interval) (later : occStart ≤ now) :
    now ≤ firstDue occStart interval now ∧ firstDue occStart interval now < now + interval := by
  have split_ := Nat.div_add_mod (now - occStart + (interval - 1)) interval
  have rest := Nat.mod_lt (now - occStart + (interval - 1)) positive
  rw [mul_comm] at split_
  unfold firstDue
  omega

/-- The truncated part of a way: none of it at the start, the whole at the end, and never beyond. -/
theorem tdiv_way_nonneg {d m n : Int} (way : 0 ≤ d) (before : 0 ≤ m) (within : m ≤ n) (positive : 0 < n) :
    0 ≤ (d * m).tdiv n ∧ (d * m).tdiv n ≤ d := by
  have product : 0 ≤ d * m := mul_nonneg way before
  rw [Int.tdiv_eq_ediv_of_nonneg product]
  exact ⟨Int.ediv_nonneg product positive.le,
    Int.ediv_le_of_le_mul positive (mul_le_mul_of_nonneg_left within way)⟩

theorem tdiv_way_nonpos {d m n : Int} (way : d ≤ 0) (before : 0 ≤ m) (within : m ≤ n) (positive : 0 < n) :
    d ≤ (d * m).tdiv n ∧ (d * m).tdiv n ≤ 0 := by
  have back := tdiv_way_nonneg (neg_nonneg.2 way) before within positive
  rw [neg_mul, Int.neg_tdiv] at back
  omega

/-- I_k as an integer: the truncated part of the way from interval_start to interval_end (R45). -/
theorem intervalAt_ramp {p : Plan} (ramp : 0 < p.rampFrames) (k : Nat) :
    (intervalAt p k : Int) = (p.intervalStart : Int) +
      (((p.intervalEnd : Int) - p.intervalStart) * (min k p.rampFrames : Nat)).tdiv p.rampFrames ∧
    min p.intervalStart p.intervalEnd ≤ intervalAt p k ∧
    intervalAt p k ≤ max p.intervalStart p.intervalEnd := by
  have within : ((min k p.rampFrames : Nat) : Int) ≤ p.rampFrames := by omega
  have positive : (0 : Int) < p.rampFrames := by omega
  rw [intervalAt, if_neg (by omega)]
  obtain up | down := le_total (0 : Int) ((p.intervalEnd : Int) - p.intervalStart)
  · have := tdiv_way_nonneg up (by omega : (0 : Int) ≤ (min k p.rampFrames : Nat)) within positive
    omega
  · have := tdiv_way_nonpos down (by omega : (0 : Int) ≤ (min k p.rampFrames : Nat)) within positive
    omega

theorem intervalAt_noRamp {p : Plan} (ramp : p.rampFrames = 0) (k : Nat) :
    intervalAt p k = p.intervalStart := if_pos ramp

theorem intervalAt_zero (p : Plan) : intervalAt p 0 = p.intervalStart := by
  obtain none | ramp := Nat.eq_zero_or_pos p.rampFrames
  · exact intervalAt_noRamp none 0
  · have := (intervalAt_ramp ramp 0).1
    simp only [Nat.zero_min, Nat.cast_zero, mul_zero, Int.zero_tdiv, add_zero] at this
    exact_mod_cast this

theorem intervalAt_end {p : Plan} (ramp : 0 < p.rampFrames) {k : Nat} (far : p.rampFrames ≤ k) :
    intervalAt p k = p.intervalEnd := by
  have := (intervalAt_ramp ramp k).1
  rw [min_eq_right far, Int.mul_tdiv_cancel _ (by omega : (p.rampFrames : Int) ≠ 0)] at this
  omega

theorem intervalAt_span (p : Plan) (k : Nat) : min p.intervalStart p.intervalEnd ≤ intervalAt p k ∧
    intervalAt p k ≤ max p.intervalStart p.intervalEnd := by
  obtain none | ramp := Nat.eq_zero_or_pos p.rampFrames
  · rw [intervalAt_noRamp none]
    omega
  · exact (intervalAt_ramp ramp k).2

theorem stretched_eq (interval factor : Nat) : stretched interval factor = min (interval * factor) 691200 :=
  rfl

theorem intervalFactor_pos {g : Supply} (h : g.Lawful) (l : Level) : 1 ≤ intervalFactor g l := by
  obtain ⟨-, -, -, -, -, -, thrift, scarce, -, -⟩ := h
  have positive {n : Nat} (lawful : lawfulFactor n) : 1 ≤ n := by
    obtain rfl | rfl | rfl | rfl := lawful <;> omega
  cases l
  · exact le_rfl
  · exact positive thrift
  · exact positive scarce
  · exact positive scarce

/-- Settles O15: the ramp is a truncated part of the way between its two ends. -/
theorem duesFollowTheInterval : Obligations.DuesFollowTheInterval := by
  refine ⟨fun occStart interval now positive later =>
      ⟨⟨_, rfl⟩, firstDue_bounds positive later⟩,
    fun slot p k law => ⟨intervalAt_zero p, fun none => intervalAt_noRamp none k,
      fun ramp => (intervalAt_ramp ramp k).1, fun ramp => intervalAt_end ramp, (intervalAt_span p k).1,
      (intervalAt_span p k).2, fun g l lawful => ⟨?_, min_le_right _ _⟩⟩,
    fun g => ⟨rfl, rfl, rfl, rfl⟩, stretched_eq, fun s p k => ?_⟩
  · obtain ⟨start, stop, -⟩ := law
    have span := (intervalAt_span p k).2
    refine le_min (Nat.le_mul_of_pos_right _ (intervalFactor_pos lawful l)) ?_
    change _ ≤ 691200
    omega
  · have factor : s.factor = match s.battery.level with
        | .normal => 1
        | .thrift => s.tables.supply.fThrift
        | .scarce | .critical => s.tables.supply.fScarce := by
      unfold Part.factor
      cases s.battery.level <;> rfl
    exact ⟨factor, congrArg (fun f => min (intervalAt p k * f) 691200) factor⟩

/-! ### The reading of a count and the gate states (R33, R77, R78) -/

/-- The eighth of a count is the largest of 0..n whose mantissa the count reaches. -/
theorem eighthOf_largest {count octave : Nat} (least : mantissa 0 * 2 ^ octave ≤ count * 32768) (n : Nat) :
    eighthOf count octave n ≤ n ∧
    mantissa (eighthOf count octave n) * 2 ^ octave ≤ count * 32768 ∧
    ∀ q ≤ n, mantissa q * 2 ^ octave ≤ count * 32768 → q ≤ eighthOf count octave n := by
  induction n with
  | zero => exact ⟨le_rfl, least, fun q h _ => h⟩
  | succ n ih =>
    rw [eighthOf]
    split
    · next reached => exact ⟨le_rfl, reached, fun q h _ => h⟩
    · next short =>
      obtain ⟨below, reaches, largest⟩ := ih
      refine ⟨by omega, reaches, fun q h reached => ?_⟩
      obtain rfl | lower : q = n + 1 ∨ q ≤ n := by omega
      · exact absurd reached short
      · exact largest q lower reached

theorem ambientOf_pos {n : Nat} (h : 1 ≤ n) (g : Fin 3) (cal : Int) :
    ambientOf n g cal = max (-160) (min 160
      (8 * (Nat.log2 n : Int) + eighthOf n (Nat.log2 n) 7 + (48 - 32 * (g.val : Int)) + cal)) := by
  have term : gateTerm g = 48 - 32 * (g.val : Int) := by
    unfold gateTerm
    ring
  rw [ambientOf, if_neg (by omega), clampInt_eq (by omega), term]

/-- Settles O17: the logarithm of a count by its highest bit and the largest mantissa reached. -/
theorem readingsAreLogarithmsThatSetTheGates : Obligations.ReadingsAreLogarithmsThatSetTheGates := by
  refine ⟨fun w state a x => ⟨fun gate => ?_, fun gate => ?_, fun gate => ?_⟩,
    fun n g cal => ⟨rfl, fun some_ => ?_⟩⟩
  · refine ⟨?_, by rw [gateSatisfied, gate]⟩
    rw [gateAfter, gate]
    dsimp only
    split_ifs <;> cases state <;> simp <;> omega
  · refine ⟨?_, by rw [gateSatisfied, gate]⟩
    rw [gateAfter, gate]
    dsimp only
    split_ifs <;> cases state <;> simp <;> omega
  · exact ⟨by rw [gateAfter, gate], by rw [gateSatisfied, gate]⟩
  · have highest : 2 ^ Nat.log2 n ≤ n ∧ n < 2 ^ (Nat.log2 n + 1) :=
      ⟨Nat.log2_self_le (by omega), Nat.lt_log2_self⟩
    have least : mantissa 0 * 2 ^ Nat.log2 n ≤ n * 32768 := by
      rw [mul_comm n]
      exact Nat.mul_le_mul_left _ highest.1
    obtain ⟨range, reached, largest⟩ := eighthOf_largest least 7
    exact ⟨Nat.log2 n, _, highest.1, highest.2, range, reached, largest, ambientOf_pos some_ g cal⟩

/-! ### The fit (R57, R58) -/

/-- The search for the cap finds the largest index whose duration is within the budget. -/
theorem largestFit_spec {budget low : Int} (fits : (duration low : Int) ≤ budget) (n : Nat) :
    low ≤ largestFit budget low n ∧ largestFit budget low n ≤ low + n ∧
    (duration (largestFit budget low n) : Int) ≤ budget ∧
    ∀ s, largestFit budget low n < s → s ≤ low + n → budget < (duration s : Int) := by
  induction n with
  | zero =>
    rw [largestFit]
    exact ⟨le_rfl, by omega, fits, fun s above below => by omega⟩
  | succ n ih =>
    rw [largestFit]
    split
    · next within => exact ⟨by omega, le_rfl, within, fun s above below => by omega⟩
    · next long =>
      obtain ⟨least, most, within, beyond⟩ := ih
      refine ⟨least, by omega, within, fun s above below => ?_⟩
      obtain rfl | lower : s = low + ((n + 1 : Nat) : Int) ∨ s ≤ low + n := by omega
      · exact not_le.1 long
      · exact beyond s above lower

theorem fitOf_tight {budget : Int} {e : EffectiveLimits}
    (h : budget < 0 ∨ budget < (duration e.sMin : Int)) : fitOf budget e = ⟨e.sMin, true⟩ := if_pos h

theorem fitOf_loose {budget : Int} {e : EffectiveLimits}
    (h : ¬(budget < 0 ∨ budget < (duration e.sMin : Int))) :
    fitOf budget e = ⟨largestFit budget e.sMin (e.sMax - e.sMin).toNat, false⟩ := if_neg h

theorem fitBudget_eq (interval reserve spacing n : Nat) : fitBudget interval reserve spacing n =
    (((interval : Int) - reserve - ((n : Int) - 1) * spacing) * 4096) / n := by
  rw [fitBudget]
  congr 1
  ring

/-- Settles O28: the budget is a floor, and the search for the cap goes down from the top. -/
theorem fitCapFollowsTheBudget : Obligations.FitCapFollowsTheBudget := by
  refine ⟨fun interval reserve spacing n some_ => ?_, fun budget e range => ?_⟩
  · have positive : (0 : Int) < n := by omega
    rw [fitBudget_eq]
    exact ⟨Int.mul_ediv_self_le positive.ne',
      (Int.lt_ediv_add_one_mul_self _ positive).trans_eq (mul_comm _ _)⟩
  · by_cases tight : budget < 0 ∨ budget < (duration e.sMin : Int)
    · simp [fitOf_tight tight, tight]
    · rw [fitOf_loose tight]
      obtain ⟨least, most, within, beyond⟩ :=
        largestFit_spec (low := e.sMin) (by omega : (duration e.sMin : Int) ≤ budget) (e.sMax - e.sMin).toNat
      have top : e.sMin + ((e.sMax - e.sMin).toNat : Int) = e.sMax := by omega
      rw [top] at most beyond
      exact ⟨by simpa using tight, by simp, fun _ => ⟨least, most, within, beyond⟩⟩

/-! ### The base update (R60 to R65) -/

theorem correction_within {p : Plan} {target b offset : Int}
    (h : (target - (b - offset)).natAbs ≤ p.deadband) : correction p target (some (b, offset)) = 0 := by
  simp [correction, h]

theorem correction_above {p : Plan} {target b offset : Int}
    (h : (p.deadband : Int) < target - (b - offset)) :
    correction p target (some (b, offset)) = (target - (b - offset) - p.deadband) * p.gainK / 16 ∧
    0 ≤ correction p target (some (b, offset)) := by
  have product : 0 ≤ (target - (b - offset) - p.deadband) * (p.gainK : Int) :=
    mul_nonneg (by omega) (by omega)
  have value : correction p target (some (b, offset)) =
      (target - (b - offset) - p.deadband) * p.gainK / 16 := by
    unfold correction
    dsimp only
    rw [if_neg (by omega), if_pos (by omega), Int.tdiv_eq_ediv_of_nonneg product]
  exact ⟨value, value ▸ Int.ediv_nonneg product (by omega)⟩

theorem correction_below {p : Plan} {target b offset : Int}
    (h : target - (b - offset) < -(p.deadband : Int)) :
    correction p target (some (b, offset)) = -((-(target - (b - offset)) - p.deadband) * p.gainK / 16) ∧
    correction p target (some (b, offset)) ≤ 0 := by
  have product : 0 ≤ (-(target - (b - offset)) - p.deadband) * (p.gainK : Int) :=
    mul_nonneg (by omega) (by omega)
  have value : correction p target (some (b, offset)) =
      -((-(target - (b - offset)) - p.deadband) * p.gainK / 16) := by
    unfold correction
    dsimp only
    rw [if_neg (by omega), if_neg (by omega), ← Int.tdiv_eq_ediv_of_nonneg product, ← Int.neg_tdiv]
    congr 1
    ring
  exact ⟨value, by have := Int.ediv_nonneg product (by omega : (0 : Int) ≤ 16); omega⟩

theorem holdWithin_eq {low high : Int} (h : low ≤ high) (v : Int) :
    holdWithin low high v = ⟨max low (min high v), decide (high < v), decide (v < low)⟩ := by
  rw [holdWithin, clampInt_eq h]

theorem desiredChange_eq (p : Plan) (target e : Int) (aNow aPrev : Option Int)
    (bLast : Option (Int × Int)) : desiredChange p target e aNow aPrev bLast =
      match p.mode with
      | .fixed => 0
      | .feedback => correction p target bLast
      | .ambient => aNow.elim 0 (fun a => (p.cAmb - a) - e)
      | .blend => aPrev.elim 0 (fun before => aNow.elim 0 (fun a => before - a)) +
          correction p target bLast := by
  unfold desiredChange
  cases p.mode <;> cases aNow <;> cases aPrev <;> rfl

theorem startValue_cases (p : Plan) (aNow : Option Int) (lastBase : Option (Fin 16 × Int)) :
    let ambient : Int := match aNow with
      | some a => p.cAmb - a
      | none => p.eInit
    (p.startRule = .fromPlan → startValue p aNow lastBase = p.eInit) ∧
    (p.startRule = .fromAmbient → startValue p aNow lastBase = ambient) ∧
    (p.startRule = .inherit → lastBase = none → startValue p aNow lastBase = ambient) ∧
    (∀ plan e, p.startRule = .inherit → lastBase = some (plan, e) →
      startValue p aNow lastBase = e) := by
  unfold startValue
  refine ⟨fun rule => ?_, fun rule => ?_, fun rule none => ?_, fun plan e rule held => ?_⟩
  · rw [rule]
  · cases aNow <;> simp [rule]
  · cases aNow <;> simp [rule, none]
  · rw [rule, held]

theorem usesFeedback_iff (m : ExposureMode) : m.usesFeedback = true ↔ m = .feedback ∨ m = .blend := by
  cases m <;> simp [ExposureMode.usesFeedback]

theorem baseUpdate_aPrev (p : Plan) (target low high : Int) (eBase aPrev aNow : Option Int)
    (bLast : Option (Int × Int)) (lastBase : Option (Fin 16 × Int)) :
    (baseUpdate p target low high eBase aPrev aNow bLast lastBase).aPrev = aNow.or aPrev := by
  cases eBase <;> cases aNow <;> rfl

/-- Settles O29: an update moves the base by a change held to step_limit, and holds the sum. -/
theorem baseMovesByALimitedCorrection : Obligations.BaseMovesByALimitedCorrection := by
  refine ⟨fun p target => ⟨by simp [correction], fun b offset =>
      ⟨correction_within, correction_above, correction_below⟩⟩,
    fun p aNow lastBase => startValue_cases p aNow lastBase,
    fun p target low high eBase aPrev aNow bLast lastBase range => ?_⟩
  intro u
  cases eBase with
  | none =>
    have value : u = ⟨max low (min high (startValue p aNow lastBase)), u.aPrev, false,
        decide (high < startValue p aNow lastBase), decide (startValue p aNow lastBase < low), false⟩ := by
      simp only [u, baseUpdate, holdWithin_eq range]
    refine ⟨?_, ?_, baseUpdate_aPrev _ _ _ _ _ _ _ _ _, fun _ => ?_, by simp⟩
    · rw [value]; dsimp only; omega
    · rw [value]; dsimp only; omega
    · rw [value]; simp
  | some e =>
    have step : clampInt (-(p.stepLimit : Int)) p.stepLimit (desiredChange p target e aNow aPrev bLast) =
        max (-(p.stepLimit : Int)) (min p.stepLimit (desiredChange p target e aNow aPrev bLast)) :=
      clampInt_eq (by omega) _
    have value : u = ⟨max low (min high (e + max (-(p.stepLimit : Int))
          (min p.stepLimit (desiredChange p target e aNow aPrev bLast)))), u.aPrev,
        max (-(p.stepLimit : Int)) (min p.stepLimit (desiredChange p target e aNow aPrev bLast)) !=
          desiredChange p target e aNow aPrev bLast,
        decide (high < e + max (-(p.stepLimit : Int))
          (min p.stepLimit (desiredChange p target e aNow aPrev bLast))),
        decide (e + max (-(p.stepLimit : Int))
          (min p.stepLimit (desiredChange p target e aNow aPrev bLast)) < low),
        p.mode.usesFeedback && bLast.isSome⟩ := by
      simp only [u, baseUpdate, holdWithin_eq range, step]
    refine ⟨?_, ?_, baseUpdate_aPrev _ _ _ _ _ _ _ _ _, by simp, fun e' same => ?_⟩
    · rw [value]; dsimp only; omega
    · rw [value]; dsimp only; omega
    · cases same
      intro want held
      have wanted : desiredChange p target e aNow aPrev bLast = want := desiredChange_eq _ _ _ _ _ _
      rw [wanted] at value
      rw [value]
      simp [usesFeedback_iff, held]

/-! ### Frame settings (R67 to R69) -/

/-- The effective limits of a lawful profile are in order (R20). -/
theorem effective_order {prof : Profile} (h : prof.Lawful) :
    prof.effective.sMin ≤ prof.effective.sKnee ∧ prof.effective.sKnee ≤ prof.effective.sMax ∧
    0 ≤ prof.effective.gKnee ∧ prof.effective.gKnee ≤ prof.effective.gMax := by
  obtain ⟨⟨-, knee, top, -⟩, -, ⟨gains, -⟩, -⟩ := h
  cases line : prof.lineMode <;> simp only [Profile.effective, line]
  · omega
  · refine ⟨by omega, ?_, le_rfl, le_rfl⟩
    split <;> omega

theorem effective_noSettings {prof : Profile} (line : prof.lineMode = .noSettings) :
    prof.effective.gMax = 0 := by
  simp only [Profile.effective, line]

theorem fitOf_cap_mem {budget : Int} {e : EffectiveLimits} (range : e.sMin ≤ e.sMax) :
    e.sMin ≤ (fitOf budget e).cap ∧ (fitOf budget e).cap ≤ e.sMax := by
  obtain ⟨-, tight, loose⟩ := fitCapFollowsTheBudget.2 budget e range
  cases h : (fitOf budget e).tight with
  | true => rw [tight h]; omega
  | false => exact ⟨(loose h).1, (loose h).2.1⟩

/-- The split of an exposure through its four phases (R68). -/
theorem splitExposure_eq {e : EffectiveLimits} {cap : Int} (knee : e.sMin ≤ min e.sKnee cap) (x : Int) :
    splitExposure e cap x =
      let s1 := max e.sMin (min (min e.sKnee cap) x)
      let g1 := min (x - s1) e.gKnee
      let s2 := min (x - s1 - g1) (cap - s1)
      (s1 + s2, g1 + min (x - s1 - g1 - s2) (e.gMax - g1)) := by
  rw [splitExposure, clampInt_eq knee]

/-- The four regions of the split (R68): up to the knee in the shutter, then g_knee in the gain, then up
to the cap in the shutter, then the rest in the gain. -/
theorem split_regions {low knee cap gKnee gMax x : Int} (above : low ≤ knee) (below : knee ≤ cap)
    (gains : 0 ≤ gKnee) (most : gKnee ≤ gMax) (least : low ≤ x) (top : x ≤ cap + gMax) :
    let s1 := max low (min knee x)
    let g1 := min (x - s1) gKnee
    let s2 := min (x - s1 - g1) (cap - s1)
    ∀ s g : Int, s = s1 + s2 → g = g1 + min (x - s1 - g1 - s2) (gMax - g1) →
    (x ≤ knee → s = x ∧ g = 0) ∧ (knee ≤ x → x ≤ knee + gKnee → s = knee ∧ g = x - knee) ∧
    (knee + gKnee ≤ x → x ≤ cap + gKnee → s = x - gKnee ∧ g = gKnee) ∧
    (cap + gKnee ≤ x → s = cap ∧ g = x - cap) ∧
    low ≤ s ∧ s ≤ cap ∧ 0 ≤ g ∧ g ≤ gMax ∧ s + g = x := by
  intro s1 g1 s2 s g hs hg
  obtain short | long := le_total x knee
  · have h1 : s1 = x := by omega
    omega
  · have h1 : s1 = knee := by omega
    omega

/-- Settles O30: the split follows E_frame through the four regions between the knee, the cap and their
sums with g_knee and g_max. -/
theorem frameSettingsKeepTheExposureLaw : Obligations.FrameSettingsKeepTheExposureLaw := by
  intro prof budget base offset law e f x knee s1 g1 s2
  obtain ⟨order, top, gains, gMax⟩ := effective_order law
  obtain ⟨least, most⟩ := fitOf_cap_mem (budget := budget) (order.trans top)
  change e.sMin ≤ e.sKnee at order
  change e.sKnee ≤ e.sMax at top
  change 0 ≤ e.gKnee at gains
  change e.gKnee ≤ e.gMax at gMax
  change e.sMin ≤ f.cap at least
  change f.cap ≤ e.sMax at most
  have range : exposureMin e ≤ exposureMax e f := by
    simp only [exposureMin, exposureMax]
    omega
  have low : e.sMin ≤ min e.sKnee f.cap := le_min order least
  have frame : x.eFrame = max e.sMin (min (f.cap + e.gMax) (base + offset)) := by
    exact congrArg Held.value (holdWithin_eq range _)
  have shutter : (x.s, x.g) = splitExposure e f.cap x.eFrame := rfl
  rw [splitExposure_eq low, Prod.mk.injEq] at shutter
  obtain ⟨s, g⟩ := shutter
  have bulb : x.bulb = decide (prof.sBulb ≤ x.s) := rfl
  have hold : x.hold = if prof.sBulb ≤ x.s then duration x.s else prof.shutterPulse := by
    change (if x.bulb = true then duration x.s else prof.shutterPulse) = _
    simp only [bulb, decide_eq_true_eq]
  have within : e.sMin ≤ x.eFrame ∧ x.eFrame ≤ f.cap + e.gMax := by omega
  refine ⟨s, g, ?_⟩
  have below : knee ≤ f.cap := min_le_right _ _
  have above : e.sMin ≤ knee := low
  have flat : prof.lineMode = .noSettings → e.gMax = 0 := effective_noSettings
  obtain ⟨first, second, third, fourth, least', most', none, gMax', sum⟩ :=
    split_regions above below gains gMax within.1 within.2 _ _ s g
  refine ⟨first, second, third, fourth, least', most', most, none, gMax', sum, frame, ?_, ?_, rfl, ?_,
    hold, fun line => ?_⟩
  · exact decide_eq_true_iff
  · exact decide_eq_true_iff
  · rw [bulb, decide_eq_true_iff]
  · have := flat line
    omega

/-! ### The power level (R143 to R146) -/

theorem indicatedLevel_cases {g : Supply} (h : g.Lawful) (v : Nat) :
    (indicatedLevel g v = .critical ↔ v < g.thrCritical) ∧
    (indicatedLevel g v = .scarce ↔ g.thrCritical ≤ v ∧ v < g.thrScarce) ∧
    (indicatedLevel g v = .thrift ↔ g.thrScarce ≤ v ∧ v < g.thrThrift) ∧
    (indicatedLevel g v = .normal ↔ g.thrThrift ≤ v) := by
  obtain ⟨⟨-, scarce, thrift, -⟩, -⟩ := h
  unfold indicatedLevel
  split_ifs <;> simp <;> omega

theorem clearsRecovery_iff (g : Supply) (l : Level) (v : Nat) : clearsRecovery g l v = true ↔
    (l = .thrift ∧ g.thrThrift + g.hysteresis ≤ v) ∨ (l = .scarce ∧ g.thrScarce + g.hysteresis ≤ v) ∨
      (l = .critical ∧ g.thrCritical + g.hysteresis ≤ v) := by
  cases l <;> simp [clearsRecovery]

theorem effectiveMv_eq (g : Supply) (kind : ReadingKind) (v : Nat) (t : Int) :
    (effectiveMv g kind v t : Int) =
      v + (if kind = .loaded then (g.sagAllowance : Int) else 0) + g.coldSlope * max 0 (-t) := by
  have cold : ((-t).toNat : Int) = max 0 (-t) := by omega
  rw [effectiveMv, Nat.cast_add, Nat.cast_add, Nat.cast_mul, cold]
  split <;> rfl

theorem effectiveMv_le {g : Supply} (h : g.Lawful) (kind : ReadingKind) {v : Nat} {t : Int}
    (volts : v ≤ 20000) (celsius : -40 ≤ t) : effectiveMv g kind v t ≤ 21800 := by
  obtain ⟨-, -, -, slope, sag, -⟩ := h
  have cold : g.coldSlope * (-t).toNat ≤ 20 * 40 := Nat.mul_le_mul slope (by omega)
  rw [effectiveMv]
  split <;> omega

/-- A level worse than the indicated one is not cleared: the thresholds descend, and a recovery threshold
is no lower than the threshold itself. -/
theorem worse_not_cleared {g : Supply} (h : g.Lawful) {l : Level} {v : Nat}
    (worse : l.rank < (indicatedLevel g v).rank) : clearsRecovery g l v = false := by
  obtain ⟨⟨-, scarce, thrift, -⟩, -⟩ := h
  rw [Bool.eq_false_iff, ne_eq, clearsRecovery_iff]
  unfold indicatedLevel at worse
  cases l <;> split_ifs at worse <;> simp [Level.rank] at worse ⊢ <;> omega

/-- Settles O46: a reading is worse, cleared or neither, and never both of the first two. -/
theorem powerLevelFollowsTheReadings : Obligations.PowerLevelFollowsTheReadings := by
  refine ⟨fun g kind v t law => ⟨effectiveMv_eq g kind v t, effectiveMv_le law kind,
    indicatedLevel_cases law v⟩, rfl, fun g l worse better r law indicated => ?_⟩
  intro j clears
  have cleared : clearsRecovery g l r.effective = true ↔ clears := clearsRecovery_iff g l r.effective
  have exclusive : l.rank < r.indicated.rank → ¬clears := by
    intro lower
    rw [← cleared, Bool.not_eq_true]
    exact worse_not_cleared law (indicated ▸ lower)
  refine ⟨fun ⟨lower, clear⟩ => exclusive lower clear, fun lower => ?_, fun clear => ?_,
    fun notLower notClear => ?_⟩
  · constructor <;> intro count <;> simp only [j, judge, if_pos lower]
    · exact if_neg (by omega)
    · exact if_pos count
  · have notLower : ¬ l.rank < r.indicated.rank := fun lower => exclusive lower clear
    constructor <;> intro count <;> simp only [j, judge, if_neg notLower, if_pos (cleared.2 clear)]
    · exact if_neg (by omega)
    · rw [if_pos count]
      exact ⟨fun level => level ▸ rfl, fun level => level ▸ rfl, fun level => level ▸ rfl⟩
  · simp only [j, judge, if_neg notLower, if_neg (mt cleared.1 notClear)]

end Sys2Proof.Machine


/-! PROOFS. The run, its dues and its end (O19, O20, O21, O22): what each operation on the run makes of a
run that exists. -/

namespace Sys2Proof.Machine

/-! ### One consumption (R44, R48, R50) -/

/-- The run after the consumption of its next due, up to the end of its countdown (R44). -/
def Part.consumed (s : Part) (r : Run) (p : Plan) (feedback : Option (Int × Int)) : Run :=
  { r with
    bLast := feedback
    nextDue := r.nextDue + eighths (s.effectiveInterval p r.k)
    ring := ringAfter p r, ringReset := false
    k := if r.k < lastK then r.k + 1 else lastK
    remaining := if p.frameLimit = 0 then r.remaining else r.remaining - 1
    lateLimit := s.tables.general.lateLimit, wakeReached := false, dueReached := false }

/-- The journal, the request and KEEP_WARM as a miss of the run's next due leaves them (R48, R104). -/
def Part.afterMiss (s : Part) (r : Run) (reason : MissReason) : Part :=
  { s with
    journal := s.journal.miss r r.nextDue reason
    arbiter := { s.arbiter with schedule := none }
    holders := { s.holders with keepWarm := false } }

section Consumption

variable {s : Part} {r : Run} {p : Plan}

theorem stepDue_goesOn (run : s.run = some r) (plan : s.planAt r.plan = some p)
    (count : p.frameLimit = 0 ∨ 2 ≤ r.remaining) (feedback : Option (Int × Int)) :
    stepDue feedback s = { s with run := some (s.consumed r p feedback) } := by
  simp only [stepDue, run, plan]
  rw [if_neg]
  · rfl
  · rintro ⟨limited, none⟩
    rw [if_neg limited] at none
    omega

theorem stepDue_ends (run : s.run = some r) (plan : s.planAt r.plan = some p)
    (limited : 0 < p.frameLimit) (last : r.remaining ≤ 1) (feedback : Option (Int × Int)) :
    stepDue feedback s = endAction p r.nextDue (s.consumed r p feedback) s := by
  simp only [stepDue, run, plan]
  rw [if_pos]
  · rfl
  · rw [if_neg (by omega)]
    omega

theorem consumeDue_byOperation (feedback : Option (Int × Int)) (s : Part) :
    consumeDue (.byOperation feedback) s = stepDue feedback s := by
  unfold consumeDue stepDue
  cases s.run <;> rfl

theorem consumeDue_missed (run : s.run = some r) (reason : MissReason) :
    consumeDue (.missed reason) s = stepDue none (s.afterMiss r reason) := by
  unfold consumeDue
  split
  · next none => cases run.symm.trans none
  · next q held =>
    cases run.symm.trans held
    rfl

theorem ringAfter_eq (p : Plan) (r : Run) : ringAfter p r =
    if r.ringReset = true ∨ p.bracketMode ≠ .rotate ∨ p.brackets.length ≤ r.ring + 1 then 0
    else r.ring + 1 := by
  unfold ringAfter
  cases p.bracketMode <;> cases r.ringReset <;> simp
  split_ifs <;> omega

end Consumption

/-! ### The newest record extended or a new one (R48, R171) -/

theorem extendNewest_concat (due : Nat) (before : List FrameRecord) (x : FrameRecord) :
    extendNewest due (before ++ [x]) =
      before ++ [{ x with missCount := x.missCount + 1, lastDue := some due }] := by
  induction before with
  | nil => rfl
  | cons y before ih =>
    rw [List.cons_append, extendNewest, ih]
    · rfl
    · simp

theorem extends?_iff (r : Run) (reason : MissReason) (openRun : Nat) (x : FrameRecord) :
    extends? r reason openRun x = true ↔ x.flags.isOpen = true ∧ x.outcome = .missed ∧
      x.source = .schedule ∧ openRun = r.number ∧ x.plan = r.plan ∧ x.reason = some reason ∧
      x.missCount < 65535 := by
  simp [extends?, and_assoc]

/-- Settles O20: a consumption that goes on, and the newest record that a miss extends. -/
theorem consumptionMovesTheRunByOneInterval : Obligations.ConsumptionMovesTheRunByOneInterval := by
  refine ⟨fun s r p f reason run plan count => ?_, fun j r due reason => ?_⟩
  · intro moved
    have consumed (b : Option (Int × Int)) : s.consumed r p b = moved b := by
      simp only [Part.consumed, moved, ringAfter_eq, eighths_eq]
      rfl
    refine ⟨?_, ?_⟩
    · rw [consumeDue_byOperation, stepDue_goesOn run plan count, consumed]
    · rw [consumeDue_missed run, stepDue_goesOn (s := s.afterMiss r reason) run plan count, ← consumed]
      rfl
  · intro opened
    have fresh (newest : ∀ x, j.records.getLast? = some x → extends? r reason j.openRun x = false) :
        j.miss r due reason = opened := by
      obtain ⟨x, last, same, -⟩ | ⟨-, appended⟩ := j.miss_cases r due reason
      · simp [newest x last] at same
      · exact appended
    refine ⟨fun none => fresh (by simp [none]), fun before x records => ?_⟩
    intro same
    refine ⟨fun matches_ => ?_, fun differs => fresh fun y last => ?_⟩
    · obtain ⟨y, last, -, extended⟩ | ⟨newest, -⟩ := j.miss_cases r due reason
      · rw [extended, records, extendNewest_concat]
      · have := newest x (by simp [records])
        rw [(extends?_iff _ _ _ _).2 matches_] at this
        cases this
    · rw [records, List.getLast?_concat] at last
      cases last
      exact Bool.eq_false_iff.2 (mt (extends?_iff _ _ _ _).1 differs)

/-! ### Notices raised (R178) -/

/-- The raise of an unmasked kind shows in the set, with its detail and time. -/
theorem raiseNotice_shows {k : NoticeKind} {s : Part} (unmasked : s.tables.general.mask.getLsbD k.index = true)
    (d : Option Nat) : ∃ n, entryOf k (raiseNotice k d s).notices = some n ∧ n.detail = d ∧
      n.last = s.now := by
  obtain ⟨n, held, -, detail, last⟩ := entryOf_raiseIn_self k d s.now s.notices
  rw [raiseNotice_eq, if_pos unmasked]
  exact ⟨n, held, detail, last⟩

/-- A raise leaves the entries of the other kinds. -/
theorem raiseNotice_silent {k kind : NoticeKind} (other : k ≠ kind) (d : Option Nat) (s : Part) :
    entryOf k (raiseNotice kind d s).notices = entryOf k s.notices := by
  rw [raiseNotice_eq]
  dsimp only
  split
  · exact entryOf_raiseIn_other other d s.now s.notices
  · rfl

/-! ### The end of a run (R37, R39) -/

/-- The done mark that the end of a run leaves. -/
def Part.endMark (s : Part) (r : Run) : Option DoneMark :=
  match r.byEndAction, s.occurrenceNow r.window with
  | true, some o => some ⟨r.window, o.stop⟩
  | _, _ => s.doneMark

/-- What the end of a run leaves before RUN_ENDED is raised (R37, R39). -/
def Part.withoutRun (s : Part) (r : Run) : Part :=
  { s with
    run := none
    lastBase := (r.eBase.map (fun e => (r.plan, e))).or s.lastBase
    doneMark := s.endMark r
    arbiter := { s.arbiter with schedule := none }
    holders := { s.holders with keepWarm := false } }

/-- What the entry to ENDING leaves (R37). -/
def Part.inEnding (s : Part) (r : Run) : Part :=
  { s with
    run := some { r with state := .ending }
    arbiter := { s.arbiter with schedule := none }
    holders := { s.holders with keepWarm := false } }

section RunEnds

variable {s : Part} {r : Run}

theorem finishRun_eq (run : s.run = some r) :
    finishRun s = raiseNotice .runEnded (some r.plan.val) (s.withoutRun r) := by
  unfold finishRun
  split
  · next none => cases run.symm.trans none
  · next q held =>
    cases run.symm.trans held
    have base : (match r.eBase with
        | some e => some (r.plan, e)
        | none => s.lastBase) = (r.eBase.map (fun e => (r.plan, e))).or s.lastBase := by
      cases r.eBase <;> rfl
    exact congrArg (fun b => raiseNotice .runEnded (some r.plan.val) { s.withoutRun r with lastBase := b })
      base

theorem finishRun_noRun (run : s.run = none) : finishRun s = s := by
  unfold finishRun
  split
  · rfl
  · next held => cases run.symm.trans held

theorem enterEnding_eq (run : s.run = some r) : enterEnding s = s.inEnding r := by
  unfold enterEnding
  split
  · next none => cases run.symm.trans none
  · next held =>
    cases run.symm.trans held
    rfl

theorem endRun_inFlight (op : s.op.isSome = true) (run : s.run = some r) : endRun s = s.inEnding r :=
  (if_pos op).trans (enterEnding_eq run)

theorem endRun_still (op : s.op = none) (run : s.run = some r) :
    endRun s = raiseNotice .runEnded (some r.plan.val) (s.withoutRun r) :=
  (if_neg (by simp [op])).trans (finishRun_eq run)

theorem endMark_noAction (action : r.byEndAction = false) : s.endMark r = s.doneMark := by
  rw [Part.endMark, action]

theorem endMark_action (action : r.byEndAction = true) {o : Occurrence}
    (within : s.occurrenceNow r.window = some o) : s.endMark r = some ⟨r.window, o.stop⟩ := by
  rw [Part.endMark, action, within]

end RunEnds

/-! ### The start of a run (R36) -/

theorem noteNextDue_run (s : Part) :
    ∃ b, (noteNextDue s).run = s.run.map (fun r : Run => { r with wakeReached := b }) := by
  unfold noteNextDue
  split
  · next none => exact ⟨false, by simp [none]⟩
  · next r held =>
    have same : s.run = s.run.map (fun x : Run => { x with wakeReached := r.wakeReached }) := by
      simp [held]
    split_ifs
    · exact ⟨false, by simp [held]⟩
    · exact ⟨_, same⟩
    · refine ⟨true, ?_⟩
      unfold takeWakeTime readIfIdle beginReading
      split <;> simp [held]
    · exact ⟨_, same⟩

theorem noteNextDue_notices (s : Part) : (noteNextDue s).notices = s.notices := by
  unfold noteNextDue takeWakeTime readIfIdle beginReading
  repeat' split
  all_goals rfl

/-- The number of the run after `count` runs (R36). -/
def nextRunNumber (count : Nat) : Nat := if count < 4294967295 then count + 1 else 1

/-- The record of a run that starts in occurrence `o` of window `w` under plan `p` (R36). -/
def Part.freshRun (s : Part) (w : Fin 8) (o : Occurrence) (p : Plan) : Run :=
  { number := nextRunNumber s.runCount, window := w, originPlan := (s.tables.windows.get w).plan
    plan := (s.tables.windows.get w).plan, state := .active
    occStart := o.start, k := 0, remaining := p.frameLimit, ring := 0
    nextDue := firstDue o.start (eighths p.intervalStart) s.now
    eBase := none, aPrev := none, bLast := none
    lateLimit := s.tables.general.lateLimit, wakeReached := false, dueReached := false
    ringReset := false, stepCatchUp := false, byEndAction := false }

/-- The part with a fresh run and its number counted (R36). -/
def Part.withFreshRun (s : Part) (w : Fin 8) (o : Occurrence) (p : Plan) : Part :=
  { s with
    run := some (s.freshRun w o p), runCount := nextRunNumber s.runCount
    journal := if s.runCount < 4294967295 then s.journal else s.journal.close }

theorem startRun_eq {s : Part} {w : Fin 8} {p : Plan}
    (plan : s.planAt (s.tables.windows.get w).plan = some p) (o : Occurrence) :
    startRun w o s = noteNextDue (raiseNotice .runStarted (some (s.tables.windows.get w).plan.val)
      (s.withFreshRun w o p)) := by
  unfold startRun
  simp only [plan, Part.withFreshRun, Part.freshRun, nextRunNumber]
  by_cases room : s.runCount < 4294967295
  · have wraps : decide (lastRunNumber ≤ s.runCount) = false :=
      decide_eq_false (by unfold lastRunNumber; omega)
    simp only [wraps, room, if_true, Bool.false_eq_true, if_false]
  · have wraps : decide (lastRunNumber ≤ s.runCount) = true :=
      decide_eq_true (by unfold lastRunNumber; omega)
    simp only [wraps, room, if_true, if_false]

theorem startRun_empty {s : Part} {w : Fin 8} (plan : s.planAt (s.tables.windows.get w).plan = none)
    (o : Occurrence) : startRun w o s = s := by
  unfold startRun
  simp only [plan]

/-- The run that a start leaves: R36's record, with its wake time looked at. -/
theorem startRun_run {s : Part} {w : Fin 8} {p : Plan}
    (plan : s.planAt (s.tables.windows.get w).plan = some p) (o : Occurrence) :
    ∃ b, (startRun w o s).run = some { s.freshRun w o p with wakeReached := b } := by
  rw [startRun_eq plan]
  obtain ⟨b, run⟩ := noteNextDue_run (raiseNotice .runStarted (some (s.tables.windows.get w).plan.val)
    (s.withFreshRun w o p))
  refine ⟨b, run.trans ?_⟩
  rw [raiseNotice_eq]
  rfl

theorem startRun_silent {k : NoticeKind} (other : k ≠ .runStarted) (w : Fin 8) (o : Occurrence) (s : Part) :
    entryOf k (startRun w o s).notices = entryOf k s.notices := by
  cases plan : s.planAt (s.tables.windows.get w).plan with
  | none => rw [startRun_empty plan]
  | some p => rw [startRun_eq plan, noteNextDue_notices, raiseNotice_silent other, Part.withFreshRun]

theorem startSelected_silent {k : NoticeKind} (other : k ≠ .runStarted) (sel : Option (Fin 8)) (s : Part) :
    entryOf k (startSelected sel s).notices = entryOf k s.notices := by
  unfold startSelected
  repeat' split
  · rfl
  · rfl
  · exact startRun_silent other _ _ _
  · rfl

/-! ### Re-evaluation (R35) -/

/-- The part with its done mark as a re-evaluation leaves it. -/
def Part.remarked (s : Part) : Part :=
  { s with doneMark := markAfter s.selectedWindow s.now s.doneMark }

section ReEvaluation

variable {s : Part} {r : Run} (engine : s.engine ≠ .disarmed)
include engine

theorem reEvaluate_noRun (run : s.run = none) :
    reEvaluate s = startSelected s.selectedWindow s.remarked := by
  unfold reEvaluate
  refine (if_neg engine).trans ?_
  split
  · rfl
  · next held => cases run.symm.trans held

theorem reEvaluate_running (run : s.run = some r) : reEvaluate s =
    if r.state = .ending then s.remarked
    else if s.selectedWindow = some r.window ∧ (s.tables.windows.get r.window).plan = r.originPlan then
      s.remarked
    else if (endRun s.remarked).run.isNone then
      startSelected s.selectedWindow (endRun s.remarked) else endRun s.remarked := by
  unfold reEvaluate
  refine (if_neg engine).trans ?_
  split
  · next none => cases run.symm.trans none
  · next held =>
    cases run.symm.trans held
    rfl

theorem reEvaluate_keeps (run : s.run = some r) (keeps : r.state = .ending ∨
    s.selectedWindow = some r.window ∧ (s.tables.windows.get r.window).plan = r.originPlan) :
    reEvaluate s = s.remarked := by
  rw [reEvaluate_running engine run]
  obtain ending | selected := keeps
  · rw [if_pos ending]
  · rw [if_pos selected, ite_self]

theorem reEvaluate_ends (run : s.run = some r) (active : r.state = .active)
    (lost : s.selectedWindow ≠ some r.window ∨ (s.tables.windows.get r.window).plan ≠ r.originPlan) :
    reEvaluate s = if (endRun s.remarked).run.isNone then
      startSelected s.selectedWindow (endRun s.remarked) else endRun s.remarked := by
  have gone : ¬(s.selectedWindow = some r.window ∧
      (s.tables.windows.get r.window).plan = r.originPlan) := by tauto
  rw [reEvaluate_running engine run, if_neg (by simp [active]), if_neg gone]

end ReEvaluation

theorem raiseNotice_run (k : NoticeKind) (d : Option Nat) (s : Part) : (raiseNotice k d s).run = s.run := by
  rw [raiseNotice_eq]

theorem raiseNotice_selectedWindow (k : NoticeKind) (d : Option Nat) (s : Part) :
    (raiseNotice k d s).selectedWindow = s.selectedWindow := by
  rw [raiseNotice_eq]
  rfl

theorem raiseNotice_remarked (k : NoticeKind) (d : Option Nat) (s : Part) :
    (raiseNotice k d s).remarked = raiseNotice k d s.remarked := by
  rw [raiseNotice_eq, raiseNotice_eq]
  rfl

/-- Where its end action does not end it, a run leaves the done mark as it is. -/
theorem withoutRun_remarked {s : Part} {r : Run} (action : r.byEndAction = false) :
    s.remarked.withoutRun r = Part.remarked
      { s with
        run := none
        lastBase := (r.eBase.map (fun e => (r.plan, e))).or s.lastBase
        arbiter := { s.arbiter with schedule := none }
        holders := { s.holders with keepWarm := false } } := by
  rw [Part.withoutRun, endMark_noAction action]
  rfl

/-- With no operation in flight a run that is no longer selected ends at once, and the selection goes on
(R35, R37). -/
theorem reEvaluate_ends_still {s : Part} {r : Run} (engine : s.engine ≠ .disarmed)
    (run : s.run = some r) (active : r.state = .active)
    (lost : s.selectedWindow ≠ some r.window ∨ (s.tables.windows.get r.window).plan ≠ r.originPlan)
    (op : s.op = none) : reEvaluate s = startSelected s.selectedWindow
      (raiseNotice .runEnded (some r.plan.val) (s.remarked.withoutRun r)) := by
  rw [reEvaluate_ends engine run active lost, endRun_still (s := s.remarked) op run, if_pos]
  rw [raiseNotice_run]
  rfl

theorem reEvaluate_ends_inFlight {s : Part} {r : Run} (engine : s.engine ≠ .disarmed)
    (run : s.run = some r) (active : r.state = .active)
    (lost : s.selectedWindow ≠ some r.window ∨ (s.tables.windows.get r.window).plan ≠ r.originPlan)
    (op : s.op.isSome = true) : reEvaluate s = s.remarked.inEnding r := by
  rw [reEvaluate_ends engine run active lost, endRun_inFlight (s := s.remarked) op run, if_neg]
  simp [Part.inEnding]

theorem startSelected_none (s : Part) : startSelected none s = s := rfl

/-- A mark whose end the clock has reached is no bar to the start of a run (R39). -/
theorem startSelected_unmarked {s : Part} {w : Fin 8} {o : Occurrence} (now : s.selectedWindow = some w)
    (marks : ∀ m ∈ s.doneMark, m.window = w → m.stop ≤ s.now) (within : s.occurrenceNow w = some o) :
    startSelected (some w) s.remarked = startRun w o s.remarked := by
  have clear : s.remarked.doneMark.any (fun m => m.window == w) = false := by
    change (markAfter s.selectedWindow s.now s.doneMark).any _ = false
    cases mark : s.doneMark with
    | none => rfl
    | some m =>
      rw [markAfter, now]
      split
      · next stands =>
        have same : m.window = w := (Option.some.inj stands.1).symm
        have := marks m mark same
        omega
      · rfl
  have here : s.remarked.occurrenceNow w = some o := within
  unfold startSelected
  simp only [clear, here, Bool.false_eq_true, if_false]

/-- Settles O19: the cases of a re-evaluation, and the notices that the end and the start of a run
raise. -/
theorem reEvaluationKeepsEndsAndStartsRuns : Obligations.ReEvaluationKeepsEndsAndStartsRuns := by
  intro s u shows
  refine ⟨fun engine => ?_, fun r engine run => ⟨fun ending => ?_, fun active sel plan => ?_,
    fun active lost => ⟨fun op => ?_, fun op => ⟨fun unmasked => ?_, fun action => ?_, fun none => ?_⟩⟩⟩,
    fun w p o engine run sel marks plan within => ⟨fun unmasked => ?_, ?_⟩⟩
  · have kept : u = s.remarked := reEvaluate_disarmed engine
    exact kept ▸ ⟨rfl, rfl⟩
  · have kept : u = s.remarked := reEvaluate_keeps engine run (.inl ending)
    exact kept ▸ ⟨run, rfl⟩
  · have kept : u = s.remarked := reEvaluate_keeps engine run (.inr ⟨sel, plan⟩)
    exact kept ▸ ⟨run, rfl⟩
  · have ending : u = s.remarked.inEnding r := reEvaluate_ends_inFlight engine run active lost op
    exact ending ▸ ⟨rfl, rfl, rfl⟩
  · have ended : u = _ := reEvaluate_ends_still engine run active lost op
    rw [ended, startSelected_silent (by decide)]
    exact raiseNotice_shows (s := s.remarked.withoutRun r) unmasked _
  · have ended : u = _ := reEvaluate_ends_still engine run active lost op
    rw [ended, reEvaluate_noRun (by rw [raiseNotice_eq]; exact engine) (by rw [raiseNotice_eq]),
      raiseNotice_remarked, raiseNotice_selectedWindow, withoutRun_remarked action]
    rfl
  · have ended : u = _ := reEvaluate_ends_still engine run active lost op
    rw [none, startSelected_none] at ended
    rw [ended, raiseNotice_eq]
    exact ⟨rfl, rfl, fun e base => by simp [Part.withoutRun, base], fun base => by
      simp [Part.withoutRun, base, Part.remarked]⟩
  · have started : u = startRun w o s.remarked := by
      change reEvaluate s = _
      rw [reEvaluate_noRun engine run, sel, startSelected_unmarked sel marks within]
    rw [started, startRun_eq (s := s.remarked) plan, noteNextDue_notices]
    exact raiseNotice_shows (s := s.remarked.withFreshRun w o p) unmasked _
  · have started : u = startRun w o s.remarked := by
      change reEvaluate s = _
      rw [reEvaluate_noRun engine run, sel, startSelected_unmarked sel marks within]
    obtain ⟨b, fresh⟩ := startRun_run (s := s.remarked) plan o
    rw [started]
    exact ⟨_, fresh, rfl, rfl, rfl, rfl, rfl, rfl, rfl, rfl, rfl, rfl, rfl, rfl, rfl⟩

end Sys2Proof.Machine


/-! PROOFS. The end action of a countdown and the end of an ENDING run (O21), and the catch-up (O22). -/

namespace Sys2Proof.Machine

/-! ### The end action (R44 step 6, R46) -/

section EndAction

variable {s : Part} {r : Run} {p : Plan}

/-- The part with the run marked as ended by its end action. -/
def Part.ended (s : Part) (r : Run) : Part := { s with run := some { r with byEndAction := true } }

theorem finishByAction_own (run : s.run = some r) (own : ∀ o ∈ s.op, o.source = .schedule) :
    finishByAction s = raiseNotice .runEnded (some r.plan.val)
      ((s.ended r).withoutRun { r with byEndAction := true }) := by
  have marked : { s with run := s.run.map (fun r : Run => { r with byEndAction := true }) } = s.ended r := by
    rw [run]
    rfl
  have ends := finishRun_eq (s := s.ended r) (r := { r with byEndAction := true }) rfl
  unfold finishByAction
  dsimp only
  rw [marked]
  split
  · next o op => rw [if_pos (own o op), ends]
  · exact ends

theorem finishByAction_other (run : s.run = some r) {o : Operation} (op : s.op = some o)
    (other : o.source ≠ .schedule) :
    finishByAction s = (s.ended r).inEnding { r with byEndAction := true } := by
  have marked : { s with run := s.run.map (fun r : Run => { r with byEndAction := true }) } = s.ended r := by
    rw [run]
    rfl
  have ends := enterEnding_eq (s := s.ended r) (r := { r with byEndAction := true }) rfl
  unfold finishByAction
  dsimp only
  rw [marked]
  split
  · next q held =>
    cases op.symm.trans held
    rw [if_neg other, ends]
  · next none => cases op.symm.trans none

/-- PLAN_DONE as a stop raises it: not under STOP_SILENT (R46). -/
def announceStop (p : Plan) (plan : Fin 16) (s : Part) : Part :=
  if p.endAction = .stopSilent then s else raiseNotice .planDone (some plan.val) s

/-- A stop, or a chain to an EMPTY plan, ends the run (R46). -/
theorem endAction_stops (active : r.state = .active)
    (stops : p.endAction.chains = false ∨ p.chainTarget.bind s.planAt = none) (due : Nat) :
    endAction p due r s = announceStop p r.plan (finishByAction { s with run := some r }) := by
  unfold endAction announceStop
  simp only [active]
  cases action : p.endAction <;> cases target : p.chainTarget <;>
    simp [action, target, EndAction.chains] at stops ⊢ <;> simp [stops]

/-- A chain to a DEFINED plan goes on from the consumed due (R46). -/
theorem endAction_chains (active : r.state = .active) (chains : p.endAction.chains = true) {t : Fin 16}
    {q : Plan} (target : p.chainTarget = some t) (defined : s.planAt t = some q) (due : Nat) :
    endAction p due r s =
      if p.endAction = .chainNotify then
        raiseNotice .planDone (some r.plan.val) { s with run := some (chainRun t q due r s.factor) }
      else { s with run := some (chainRun t q due r s.factor) } := by
  unfold endAction
  simp only [active]
  cases action : p.endAction <;> simp [action, EndAction.chains] at chains ⊢ <;>
    simp [target, defined]

end EndAction

/-! ### The countdown that reaches 0 (O21) -/

/-- The feedback that a consumption brings into the run (R44). -/
def Consumption.feedback : Consumption → Option (Int × Int)
  | .byOperation f => f
  | .missed _ => none

/-- The part as a consumption finds it: after its record where it is a miss (R44, R48). -/
def Part.atConsumption (s : Part) (r : Run) : Consumption → Part
  | .byOperation _ => s
  | .missed reason => s.afterMiss r reason

section Countdown

variable {s : Part} {r : Run} {p : Plan}

theorem atConsumption_fields (s : Part) (r : Run) (c : Consumption) :
    (s.atConsumption r c).notices = s.notices ∧ (s.atConsumption r c).op = s.op ∧
    (s.atConsumption r c).tables = s.tables ∧ (s.atConsumption r c).time = s.time ∧
    (s.atConsumption r c).doneMark = s.doneMark ∧ (s.atConsumption r c).lastBase = s.lastBase ∧
    (s.atConsumption r c).battery = s.battery ∧ (s.atConsumption r c).run = s.run := by
  cases c <;> exact ⟨rfl, rfl, rfl, rfl, rfl, rfl, rfl, rfl⟩

theorem consumeDue_last (run : s.run = some r) (plan : s.planAt r.plan = some p)
    (limited : 0 < p.frameLimit) (last : r.remaining ≤ 1) (c : Consumption) :
    consumeDue c s =
      endAction p r.nextDue (s.consumed r p c.feedback) (s.atConsumption r c) := by
  cases c with
  | byOperation f => exact (consumeDue_byOperation f s).trans (stepDue_ends run plan limited last f)
  | missed reason =>
    exact (consumeDue_missed run reason).trans
      (stepDue_ends (s := s.afterMiss r reason) run plan limited last none)

theorem announceStop_run (p : Plan) (i : Fin 16) (s : Part) : (announceStop p i s).run = s.run ∧
    (announceStop p i s).arbiter = s.arbiter ∧ (announceStop p i s).holders = s.holders ∧
    (announceStop p i s).op = s.op ∧
    (announceStop p i s).doneMark = s.doneMark ∧ (announceStop p i s).lastBase = s.lastBase := by
  unfold announceStop
  split
  · exact ⟨rfl, rfl, rfl, rfl, rfl, rfl⟩
  · rw [raiseNotice_eq]
    exact ⟨rfl, rfl, rfl, rfl, rfl, rfl⟩

theorem announceStop_silent {k : NoticeKind} (other : k ≠ .planDone ∨ p.endAction = .stopSilent)
    (i : Fin 16) (s : Part) :
    entryOf k (announceStop p i s).notices = entryOf k s.notices := by
  unfold announceStop
  split
  · rfl
  · next loud => exact raiseNotice_silent (other.resolve_right loud) _ _

theorem announceStop_shows {i : Fin 16} {s : Part} (loud : p.endAction ≠ .stopSilent)
    (unmasked : s.tables.general.mask.getLsbD NoticeKind.planDone.index = true) :
    ∃ n, entryOf .planDone (announceStop p i s).notices = some n ∧ n.detail = some i.val ∧
      n.last = s.now := by
  unfold announceStop
  rw [if_neg loud]
  exact raiseNotice_shows unmasked _

end Countdown

section CountdownEnds

variable {s : Part} {r : Run} {p : Plan} {c : Consumption}

/-- A countdown that reaches 0 and stops the run that its own operation, or none, is in flight for. -/
theorem consumeDue_last_own (run : s.run = some r) (active : r.state = .active)
    (plan : s.planAt r.plan = some p) (limited : 0 < p.frameLimit) (last : r.remaining ≤ 1)
    (stops : p.endAction.chains = false ∨ p.chainTarget.bind s.planAt = none)
    (own : ∀ o ∈ s.op, o.source = .schedule) :
    ∃ v q : _, consumeDue c s = announceStop p r.plan (raiseNotice .runEnded (some r.plan.val)
        (Part.withoutRun v q)) ∧
      v.notices = s.notices ∧ v.op = s.op ∧ v.tables = s.tables ∧ v.time = s.time ∧
      v.lastBase = s.lastBase ∧
      q.byEndAction = true ∧ q.window = r.window ∧ q.plan = r.plan ∧ q.eBase = r.eBase := by
  obtain ⟨notices, op, tables, time, mark, base, battery, -⟩ := atConsumption_fields s r c
  have stops' : p.endAction.chains = false ∨ p.chainTarget.bind (s.atConsumption r c).planAt = none := by
    have same : (s.atConsumption r c).planAt = s.planAt := funext fun i => by
      rw [Part.planAt, tables, Part.planAt]
    rwa [same]
  rw [consumeDue_last run plan limited last, endAction_stops (r := s.consumed r p c.feedback) active stops',
    finishByAction_own rfl (op ▸ own)]
  exact ⟨_, _, rfl, notices, op, tables, time, base, rfl, rfl, rfl, rfl⟩

/-- A countdown that reaches 0 while an operation of another source is in flight brings the run to
ENDING. -/
theorem consumeDue_last_other (run : s.run = some r) (active : r.state = .active)
    (plan : s.planAt r.plan = some p) (limited : 0 < p.frameLimit) (last : r.remaining ≤ 1)
    (stops : p.endAction.chains = false ∨ p.chainTarget.bind s.planAt = none)
    {o : Operation} (flying : s.op = some o) (other : o.source ≠ .schedule) :
    ∃ v q : _, consumeDue c s = announceStop p r.plan (Part.inEnding v q) ∧
      v.notices = s.notices ∧ v.op = s.op ∧ v.tables = s.tables ∧ v.time = s.time ∧
      v.doneMark = s.doneMark ∧ v.lastBase = s.lastBase ∧
      q.byEndAction = true ∧ q.number = r.number ∧ q.window = r.window ∧ q.plan = r.plan ∧
      q.eBase = r.eBase := by
  obtain ⟨notices, op, tables, time, mark, base, battery, -⟩ := atConsumption_fields s r c
  have stops' : p.endAction.chains = false ∨ p.chainTarget.bind (s.atConsumption r c).planAt = none := by
    have same : (s.atConsumption r c).planAt = s.planAt := funext fun i => by
      rw [Part.planAt, tables, Part.planAt]
    rwa [same]
  rw [consumeDue_last run plan limited last, endAction_stops (r := s.consumed r p c.feedback) active stops',
    finishByAction_other (s := { s.atConsumption r c with run := some (s.consumed r p c.feedback) }) rfl
      (op.trans flying) other]
  exact ⟨_, _, rfl, notices, op, tables, time, mark, base, rfl, rfl, rfl, rfl, rfl⟩

/-- A countdown that reaches 0 and chains to a DEFINED plan. -/
theorem consumeDue_last_chains (run : s.run = some r) (active : r.state = .active)
    (plan : s.planAt r.plan = some p) (limited : 0 < p.frameLimit) (last : r.remaining ≤ 1)
    (chains : p.endAction.chains = true) {t : Fin 16} {q : Plan} (target : p.chainTarget = some t)
    (defined : s.planAt t = some q) :
    ∃ v : Part, consumeDue c s = (if p.endAction = .chainNotify then
        raiseNotice .planDone (some r.plan.val) v else v) ∧
      v.notices = s.notices ∧ v.op = s.op ∧ v.tables = s.tables ∧ v.time = s.time ∧
      v.doneMark = s.doneMark ∧
      v.run = some (chainRun t q r.nextDue (s.consumed r p c.feedback) s.factor) := by
  obtain ⟨notices, op, tables, time, mark, base, battery, -⟩ := atConsumption_fields s r c
  have defined' : (s.atConsumption r c).planAt t = some q := by
    rw [Part.planAt, tables]
    exact defined
  have factor : (s.atConsumption r c).factor = s.factor := by
    rw [Part.factor, tables, battery, Part.factor]
  rw [consumeDue_last run plan limited last,
    endAction_chains (r := s.consumed r p c.feedback) active chains target defined', factor]
  exact ⟨_, rfl, notices, op, tables, time, mark, rfl⟩

end CountdownEnds

/-! ### The end of an ENDING run with its operation (R37, R101) -/

theorem noteNextDue_lastBase (s : Part) : (noteNextDue s).lastBase = s.lastBase := by
  unfold noteNextDue takeWakeTime readIfIdle beginReading
  repeat' split
  all_goals rfl

theorem startRun_lastBase (w : Fin 8) (o : Occurrence) (s : Part) :
    (startRun w o s).lastBase = s.lastBase := by
  cases plan : s.planAt (s.tables.windows.get w).plan with
  | none => rw [startRun_empty plan]
  | some p => rw [startRun_eq plan, noteNextDue_lastBase, raiseNotice_eq, Part.withFreshRun]

theorem startSelected_lastBase (sel : Option (Fin 8)) (s : Part) :
    (startSelected sel s).lastBase = s.lastBase := by
  unfold startSelected
  repeat' split
  · rfl
  · rfl
  · exact startRun_lastBase _ _ _
  · rfl

/-- A run that a selection starts is a fresh one (R36). -/
theorem startSelected_fresh {s : Part} (run : s.run = none) (sel : Option (Fin 8)) {n : Run}
    (started : (startSelected sel s).run = some n) :
    n.state = .active ∧ n.k = 0 ∧ n.eBase = none ∧ n.number = nextRunNumber s.runCount := by
  unfold startSelected at started
  repeat' split at started
  · cases run.symm.trans started
  · cases run.symm.trans started
  · next w _ _ o _ =>
    cases plan : s.planAt (s.tables.windows.get w).plan with
    | none =>
      rw [startRun_empty plan] at started
      cases run.symm.trans started
    | some p =>
      obtain ⟨b, fresh⟩ := startRun_run plan o
      cases fresh.symm.trans started
      exact ⟨rfl, rfl, rfl, rfl⟩
  · cases run.symm.trans started

/-- A re-evaluation with no run leaves last_base and every notice but RUN_STARTED. -/
theorem reEvaluate_noRun_frame {s : Part} (run : s.run = none) :
    (reEvaluate s).lastBase = s.lastBase ∧
    (∀ k, k ≠ .runStarted → entryOf k (reEvaluate s).notices = entryOf k s.notices) ∧
    (s.engine = .disarmed → (reEvaluate s).run = none) ∧
    ∀ n, (reEvaluate s).run = some n →
      n.state = .active ∧ n.k = 0 ∧ n.eBase = none ∧ n.number = nextRunNumber s.runCount := by
  by_cases engine : s.engine = .disarmed
  · rw [reEvaluate_disarmed engine]
    exact ⟨rfl, fun _ _ => rfl, fun _ => run, fun n held => by cases run.symm.trans held⟩
  · rw [reEvaluate_noRun engine run]
    exact ⟨startSelected_lastBase _ _, fun k other => startSelected_silent other _ _,
      fun disarmed => absurd disarmed engine, fun n => startSelected_fresh (s := s.remarked) run _⟩

/-- The part with its operation gone (R101 step 5). -/
def Part.released (s : Part) : Part :=
  { s with op := none, lending := { s.lending with allowed := true } }

theorem releaseOperation_ending {s : Part} {r : Run} (run : s.run = some r) (ending : r.state = .ending) :
    releaseOperation s =
      if s.awake && !s.hold then
        reEvaluate (raiseNotice .runEnded (some r.plan.val) (s.released.withoutRun r))
      else raiseNotice .runEnded (some r.plan.val) (s.released.withoutRun r) := by
  have ends := finishRun_eq (s := s.released) run
  unfold releaseOperation
  dsimp only
  split
  · next q held =>
    cases run.symm.trans held
    rw [if_pos ending]
    change (if (finishRun s.released).awake && !(finishRun s.released).hold then
      reEvaluate (finishRun s.released) else finishRun s.released) = _
    rw [ends]
    have awake : (raiseNotice .runEnded (some r.plan.val) (s.released.withoutRun r)).awake = s.awake ∧
        (raiseNotice .runEnded (some r.plan.val) (s.released.withoutRun r)).hold = s.hold := by
      rw [raiseNotice_eq]
      exact ⟨rfl, rfl⟩
    rw [awake.1, awake.2]
  · next none => cases run.symm.trans none

theorem releaseOperation_endsRun {s : Part} {r : Run} (run : s.run = some r) (ending : r.state = .ending) :
    let u := releaseOperation s
    (s.tables.general.mask.getLsbD NoticeKind.runEnded.index = true →
      ∃ n, entryOf .runEnded u.notices = some n ∧ n.detail = some r.plan.val ∧ n.last = s.now) ∧
    (∀ e, r.eBase = some e → u.lastBase = some (r.plan, e)) ∧ u.op = none ∧
    (s.engine = .disarmed → u.run = none) ∧
    (s.awake = false ∨ s.hold = true → u.run = none ∧
      (∀ o, r.byEndAction = true → s.occurrenceNow r.window = some o →
        u.doneMark = some ⟨r.window, o.stop⟩)) ∧
    ∀ n ∈ u.run, n.state = .active ∧ n.k = 0 ∧ n.eBase = none ∧
      n.number = (if s.runCount < 4294967295 then s.runCount + 1 else 1) := by
  intro u
  have ended := releaseOperation_ending run ending
  change u = _ at ended
  generalize finished : raiseNotice .runEnded (some r.plan.val) (s.released.withoutRun r) = v at ended
  have fields : v.run = none ∧ v.op = none ∧ v.engine = s.engine ∧ v.runCount = s.runCount ∧
      v.doneMark = s.released.endMark r ∧ v.lastBase = (r.eBase.map (fun e => (r.plan, e))).or s.lastBase := by
    rw [← finished, raiseNotice_eq]
    exact ⟨rfl, rfl, rfl, rfl, rfl, rfl⟩
  obtain ⟨noRun, noOp, engine, count, mark, base⟩ := fields
  have shows (unmasked : s.tables.general.mask.getLsbD NoticeKind.runEnded.index = true) :
      ∃ n, entryOf .runEnded v.notices = some n ∧ n.detail = some r.plan.val ∧ n.last = s.now :=
    finished ▸ raiseNotice_shows (s := s.released.withoutRun r) unmasked _
  obtain ⟨lastBase, silent, disarmed, fresh⟩ := reEvaluate_noRun_frame noRun
  have op : (reEvaluate v).op = v.op := (reEvaluate_frame (fed := none) v).op
  by_cases goesOn : (s.awake && !s.hold) = true
  · rw [if_pos goesOn] at ended
    have awake := Bool.and_eq_true_iff.1 goesOn
    rw [ended]
    refine ⟨fun unmasked => by rw [silent _ (by decide)]; exact shows unmasked,
      fun e held => by rw [lastBase, base, held]; rfl, op.trans noOp,
      fun off => disarmed (engine.trans off), fun asleep => ?_, fun n held => count ▸ fresh n held⟩
    simp [awake.1] at asleep
    simp [asleep] at awake
  · rw [if_neg goesOn] at ended
    rw [ended]
    exact ⟨shows, fun e held => by rw [base, held]; rfl, noOp, fun _ => noRun,
      fun _ => ⟨noRun, fun o action within => mark.trans (endMark_action action within)⟩,
      fun n held => by cases noRun.symm.trans held⟩

/-- Settles O21: the end action by its target, and the run that an operation ends with. -/
theorem countdownTakesTheEndAction : Obligations.CountdownTakesTheEndAction := by
  refine ⟨fun s r p c run active plan limited last => ?_, fun s r => releaseOperation_endsRun⟩
  intro feedback u shows silent
  have op : u.op = s.op := by
    cases c with
    | byOperation f => exact (consumeDue_frame s).op
    | missed reason => exact (consumeMissed_frame (fed := none) reason s).op
  refine ⟨op, fun stops => ?_, fun t q chains target defined => ?_⟩
  · by_cases own : ∀ o ∈ s.op, o.source = .schedule
    · obtain ⟨v, q, ended, notices, -, tables, time, base, action, window, plan', eBase⟩ :=
        consumeDue_last_own (c := c) run active plan limited last.le stops own
      change u = _ at ended
      have now : v.now = s.now := by rw [Part.now, time, Part.now]
      have before : (raiseNotice .runEnded (some r.plan.val) (v.withoutRun q)).tables = s.tables ∧
          (raiseNotice .runEnded (some r.plan.val) (v.withoutRun q)).now = s.now := by
        rw [raiseNotice_eq]
        exact ⟨tables, now⟩
      obtain ⟨run', arbiter, holders, -, mark, lastBase⟩ :=
        announceStop_run p r.plan (raiseNotice .runEnded (some r.plan.val) (v.withoutRun q))
      rw [← ended, raiseNotice_eq] at run' arbiter holders mark lastBase
      have noticed (unmasked : s.tables.general.mask.getLsbD NoticeKind.runEnded.index = true) :
          ∃ n, entryOf .runEnded u.notices = some n ∧ n.detail = some r.plan.val ∧ n.last = s.now := by
        rw [ended, announceStop_silent (.inl (by decide)), ← now]
        exact raiseNotice_shows (s := v.withoutRun q)
          (by change v.tables.general.mask.getLsbD _ = _; rw [tables]; exact unmasked) _
      refine ⟨fun loud unmasked => ?_, fun quiet => ?_, fun _ => ⟨run', ?_, ?_, noticed,
        fun o within => ?_, fun e held => ?_⟩, fun o flying other => absurd (own o flying) other⟩
      · rw [ended, ← before.2]
        exact announceStop_shows loud (by rw [before.1]; exact unmasked)
      · change entryOf _ u.notices = _
        rw [ended, announceStop_silent (.inr quiet), raiseNotice_silent (by decide)]
        exact congrArg _ notices
      · exact congrArg Arbiter.schedule arbiter
      · exact congrArg Holders.keepWarm holders
      · refine mark.trans ((endMark_action action (o := o) ?_).trans (by rw [window]))
        rw [window, Part.occurrenceNow, tables, now]
        exact within
      · rw [lastBase, Part.withoutRun, eBase, held, plan']
        rfl
    · obtain ⟨o, flying, other⟩ : ∃ o, s.op = some o ∧ o.source ≠ .schedule := by
        simpa using own
      obtain ⟨v, q, ended, notices, -, tables, time, mark, base, action, number, window, plan', eBase⟩ :=
        consumeDue_last_other (c := c) run active plan limited last.le stops flying other
      change u = _ at ended
      have now : v.now = s.now := by rw [Part.now, time, Part.now]
      obtain ⟨run', arbiter, holders, -, mark', lastBase⟩ := announceStop_run p r.plan (v.inEnding q)
      rw [← ended] at run' arbiter holders mark' lastBase
      refine ⟨fun loud unmasked => ?_, fun quiet => ?_, fun all => absurd all own, fun _ _ _ =>
        ⟨?_, mark'.trans mark, lastBase.trans base, congrArg Arbiter.schedule arbiter,
          congrArg Holders.keepWarm holders, _, run', rfl, action, number, window, plan', eBase⟩⟩
      · rw [ended, ← now]
        exact announceStop_shows (s := v.inEnding q) loud
          (by change v.tables.general.mask.getLsbD _ = _; rw [tables]; exact unmasked)
      · change entryOf _ u.notices = _
        rw [ended, announceStop_silent (.inr quiet)]
        exact congrArg _ notices
      · change entryOf _ u.notices = _
        rw [ended, announceStop_silent (.inl (by decide))]
        exact congrArg _ notices
  · obtain ⟨v, ended, notices, -, tables, time, mark, run'⟩ :=
      consumeDue_last_chains (c := c) run active plan limited last.le chains target defined
    change u = _ at ended
    have now : v.now = s.now := by rw [Part.now, time, Part.now]
    have quiet (k : NoticeKind) (other : k ≠ .planDone) : silent k := by
      change entryOf _ u.notices = _
      rw [ended, ← notices]
      split
      · exact raiseNotice_silent other _ _
      · rfl
    have kept : u.run = v.run ∧ u.doneMark = v.doneMark := by
      rw [ended, raiseNotice_eq]
      split <;> exact ⟨rfl, rfl⟩
    refine ⟨quiet _ (by decide), quiet _ (by decide), fun loud unmasked => ?_, fun chain => ?_,
      kept.2.trans mark, _, kept.1.trans run', rfl, active, rfl, rfl, rfl, rfl, ?_, rfl, rfl, ?_⟩
    · rw [ended, if_pos loud, ← now]
      exact raiseNotice_shows (by rw [tables]; exact unmasked) _
    · change entryOf _ u.notices = _
      rw [ended, if_neg (by simp [chain]), notices]
    · change r.nextDue + eighths (stretched q.intervalStart s.factor) = _
      rw [eighths_eq, stretched_eq]
    · change c.feedback = feedback
      cases c <;> rfl

/-! ### What a consumption leaves alone, and the catch-up (R49) -/

/-- What an operation on a run does beside the run: it counts no run, begins no reading, writes no
record, and only withdraws the request and KEEP_WARM. -/
structure Lapses (s t : Part) : Prop where
  runCount : t.runCount = s.runCount
  meter : t.meter = s.meter
  journal : t.journal = s.journal
  schedule : s.arbiter.schedule = none → t.arbiter.schedule = none
  keepWarm : s.holders.keepWarm = false → t.holders.keepWarm = false

namespace Lapses

variable {s t u : Part}

theorem refl (s : Part) : Lapses s s := ⟨rfl, rfl, rfl, id, id⟩

theorem trans (h : Lapses s t) (h' : Lapses t u) : Lapses s u :=
  ⟨h'.runCount.trans h.runCount, h'.meter.trans h.meter, h'.journal.trans h.journal,
    h'.schedule ∘ h.schedule,
    h'.keepWarm ∘ h.keepWarm⟩

theorem run (s : Part) (r : Option Run) : Lapses s { s with run := r } := ⟨rfl, rfl, rfl, id, id⟩

theorem notice (k : NoticeKind) (d : Option Nat) (s : Part) : Lapses s (raiseNotice k d s) := by
  rw [raiseNotice_eq]
  exact ⟨rfl, rfl, rfl, id, id⟩

theorem withoutRun (s : Part) (r : Run) : Lapses s (s.withoutRun r) :=
  ⟨rfl, rfl, rfl, fun _ => rfl, fun _ => rfl⟩

theorem inEnding (s : Part) (r : Run) : Lapses s (s.inEnding r) :=
  ⟨rfl, rfl, rfl, fun _ => rfl, fun _ => rfl⟩

theorem finishByAction {r : Run} (run : s.run = some r) : Lapses s (Machine.finishByAction s) := by
  by_cases own : ∀ o ∈ s.op, o.source = .schedule
  · rw [finishByAction_own run own]
    exact (Lapses.run s _).trans ((Lapses.withoutRun _ _).trans (.notice _ _ _))
  · obtain ⟨o, flying, other⟩ : ∃ o, s.op = some o ∧ o.source ≠ .schedule := by simpa using own
    rw [finishByAction_other run flying other]
    exact (Lapses.run s _).trans (.inEnding _ _)

theorem endAction (p : Plan) (due : Nat) (r : Run) (s : Part) : Lapses s (endAction p due r s) := by
  have here := Lapses.run s (some r)
  have ends : Lapses s (Machine.finishByAction { s with run := some r }) := here.trans (.finishByAction rfl)
  unfold Machine.endAction
  extract_lets target t
  repeat' split
  all_goals first
    | exact here
    | exact ends
    | exact .run s _
    | exact here.trans (.notice _ _ _)
    | exact ends.trans (.notice _ _ _)
    | exact (Lapses.run s _).trans (.notice _ _ _)

theorem stepDue (f : Option (Int × Int)) (s : Part) : Lapses s (stepDue f s) := by
  unfold Machine.stepDue
  split
  · exact .refl s
  · split
    · exact .run s _
    · extract_lets left r'
      split
      · exact .endAction _ _ _ _
      · exact .run s _

end Lapses

/-- A missed due: nothing but the run, the journal, the request, KEEP_WARM and what the end of a run
leaves is changed. -/
theorem consumeMissed_lapses {s : Part} {r : Run} (run : s.run = some r) (reason : MissReason) :
    (consumeDue (.missed reason) s).runCount = s.runCount ∧
    (consumeDue (.missed reason) s).meter = s.meter ∧
    (consumeDue (.missed reason) s).journal = s.journal.miss r r.nextDue reason ∧
    (consumeDue (.missed reason) s).arbiter.schedule = none ∧
    (consumeDue (.missed reason) s).holders.keepWarm = false := by
  rw [consumeDue_missed run]
  have h := Lapses.stepDue none (s.afterMiss r reason)
  exact ⟨h.runCount, h.meter, h.journal, h.schedule rfl, h.keepWarm rfl⟩

/-- Every effective interval of a lawful plan is one second at least (R17, R45). -/
theorem second_le_interval {slot : Fin 16} {p : Plan} (plan : p.Lawful slot) {g : Supply} (supply : g.Lawful)
    (l : Level) (k : Nat) :
    Config.ticksPerSecond ≤ eighths (stretched (intervalAt p k) (intervalFactor g l)) := by
  obtain ⟨start, stop, -⟩ := plan
  have span := intervalAt_span p k
  have longer : intervalAt p k * 1 ≤ intervalAt p k * intervalFactor g l :=
    Nat.mul_le_mul_left _ (intervalFactor_pos supply l)
  rw [eighths_eq, stretched_eq]
  change 32768 ≤ _
  omega

section Missed

variable {s : Part} {r : Run} {p : Plan} (law : s.tables.Lawful) (run : s.run = some r)
  (active : r.state = .active) (plan : s.planAt r.plan = some p) (reason : MissReason)
include law run active plan

/-- A missed due moves a run that stays ACTIVE by a second at least, under a DEFINED plan (R44). -/
theorem consumeMissed_later : ∀ n, (consumeDue (.missed reason) s).run = some n → n.state = .active →
    r.nextDue + Config.ticksPerSecond ≤ n.nextDue ∧ (s.planAt n.plan).isSome = true := by
  obtain ⟨plans, -, -, -, supply⟩ := law
  intro n held goesOn
  by_cases count : p.frameLimit = 0 ∨ 2 ≤ r.remaining
  · rw [consumeDue_missed run, stepDue_goesOn (s := s.afterMiss r reason) run plan count] at held
    cases held
    have second := second_le_interval (plans _ _ plan) supply s.battery.level r.k
    exact ⟨Nat.add_le_add_left second _, by rw [Part.consumed, plan]; rfl⟩
  · have limited : 0 < p.frameLimit := by omega
    have last : r.remaining ≤ 1 := by omega
    by_cases stops : p.endAction.chains = false ∨ p.chainTarget.bind s.planAt = none
    · by_cases own : ∀ o ∈ s.op, o.source = .schedule
      · obtain ⟨v, q, ended, -⟩ :=
          consumeDue_last_own (c := .missed reason) run active plan limited last stops own
        rw [ended, (announceStop_run _ _ _).1, raiseNotice_run] at held
        cases held
      · obtain ⟨o, flying, other⟩ : ∃ o, s.op = some o ∧ o.source ≠ .schedule := by simpa using own
        obtain ⟨v, q, ended, -⟩ :=
          consumeDue_last_other (c := .missed reason) run active plan limited last stops flying other
        rw [ended, (announceStop_run _ _ _).1] at held
        cases held
        cases goesOn
    · obtain ⟨chains, some_⟩ := not_or.1 stops
      obtain ⟨q, defined⟩ := Option.ne_none_iff_exists'.1 some_
      obtain ⟨t, target, defined⟩ := Option.bind_eq_some_iff.1 defined
      obtain ⟨v, ended, -, -, -, -, -, run'⟩ := consumeDue_last_chains (c := .missed reason) run active plan
        limited last (by simpa using chains) target defined
      have kept : (consumeDue (.missed reason) s).run = v.run := by
        rw [ended, raiseNotice_eq]
        split <;> rfl
      cases held.symm.trans (kept.trans run')
      have second := second_le_interval (plans _ _ defined) supply s.battery.level 0
      rw [intervalAt_zero] at second
      exact ⟨Nat.add_le_add_left second _, by rw [chainRun, defined]; rfl⟩

end Missed

/-- Whether the run's due has passed with no operation granted for it (R49). -/
theorem duePassed_iff {s : Part} (free : s.dueGranted = false) :
    s.duePassed = true ↔ ∃ r, s.run = some r ∧ r.state = .active ∧ r.nextDue ≤ s.now := by
  unfold Part.duePassed
  split
  · next r run => simp [run, free]
  · next none => simp [none]

/-- With fuel for the seconds that the clock is ahead of the due, the passed dues are all consumed. -/
theorem consumePassed_later (reason : MissReason) (n : Nat) {s : Part} (law : s.tables.Lawful)
    (free : s.dueGranted = false)
    (plans : ∀ r ∈ s.run, r.state = .active → (s.planAt r.plan).isSome = true)
    (fuel : ∀ r ∈ s.run, r.state = .active → r.nextDue ≤ s.now →
      (s.now - r.nextDue) / Config.ticksPerSecond < n) :
    ∀ r, (consumePassed reason n s).run = some r → r.state = .active → s.now < r.nextDue := by
  induction n generalizing s with
  | zero =>
    intro r run active
    exact Nat.lt_of_not_le fun passed => absurd (fuel r run active passed) (Nat.not_lt_zero _)
  | succ n ih =>
    unfold consumePassed
    split
    · next passed =>
      obtain ⟨r, run, active, due⟩ := (duePassed_iff free).1 passed
      obtain ⟨p, plan⟩ := Option.isSome_iff_exists.1 (plans r run active)
      have kept : Kept false s (consumeDue (.missed reason) s) := consumeDue_kept _ s
      have later := consumeMissed_later law run active plan reason
      have op : (consumeDue (.missed reason) s).op = s.op := (consumeMissed_frame (fed := none) reason s).op
      have same : (consumeDue (.missed reason) s).planAt = s.planAt := funext fun i => by
        rw [Part.planAt, kept.tables, Part.planAt]
      rw [← kept.now]
      refine ih (by rwa [kept.tables]) (by rwa [Part.dueGranted, op]) (fun q held goesOn => ?_)
        (fun q held goesOn behind => ?_)
      · rw [same]
        exact (later q held goesOn).2
      · have bound := fuel r run active due
        have step := (later q held goesOn).1
        rw [kept.now] at behind ⊢
        simp only [Config.ticksPerSecond] at bound step ⊢
        omega
    · next ahead =>
      intro r run active
      exact Nat.lt_of_not_le fun due => ahead ((duePassed_iff free).2 ⟨r, run, active, due⟩)

/-- What the passed dues leave alone, with the request withdrawn already. -/
theorem consumePassed_lapses (reason : MissReason) (n : Nat) {s : Part} (free : s.arbiter.schedule = none) :
    (consumePassed reason n s).runCount = s.runCount ∧ (consumePassed reason n s).meter = s.meter ∧
    (consumePassed reason n s).arbiter.schedule = none ∧
    (s.holders.keepWarm = false → (consumePassed reason n s).holders.keepWarm = false) := by
  induction n generalizing s with
  | zero => exact ⟨rfl, rfl, free, id⟩
  | succ n ih =>
    unfold consumePassed
    split
    · next passed =>
      obtain ⟨r, run⟩ : ∃ r, s.run = some r := by
        unfold Part.duePassed at passed
        split at passed
        · next r run => exact ⟨r, run⟩
        · cases passed
      obtain ⟨count, meter, -, schedule, warm⟩ := consumeMissed_lapses run reason
      obtain ⟨count', meter', schedule', warm'⟩ := ih schedule
      exact ⟨count'.trans count, meter'.trans meter, schedule', fun _ => warm' warm⟩
    · exact ⟨rfl, rfl, free, id⟩

/-- A catch-up with a passed due misses it first. -/
theorem catchUp_passed {s : Part} (free : s.dueGranted = false) {r : Run} (run : s.run = some r)
    (active : r.state = .active) (due : r.nextDue ≤ s.now) (reason : MissReason) :
    ∃ n, catchUp reason s = consumePassed reason n (consumeDue (.missed reason) (withdrawSchedule s)) := by
  refine ⟨(s.now - r.nextDue) / Config.ticksPerSecond + 1, ?_⟩
  have fuel : s.dueFuel = (s.now - r.nextDue) / Config.ticksPerSecond + 1 + 1 := by
    rw [Part.dueFuel, run]
  have passed : (withdrawSchedule s).duePassed = true :=
    (duePassed_iff (s := withdrawSchedule s) free).2 ⟨r, run, active, due⟩
  rw [catchUp, fuel, consumePassed, if_pos passed]

theorem catchUp_ahead {s : Part} (ahead : s.duePassed = false) (reason : MissReason) :
    catchUp reason s = withdrawSchedule s := by
  have ahead' : (withdrawSchedule s).duePassed = false := ahead
  rw [catchUp]
  cases s.dueFuel with
  | zero => rfl
  | succ n => rw [consumePassed, if_neg (by rw [ahead']; decide)]

/-- A catch-up passes every due (R49). -/
theorem catchUp_later {s : Part} (law : s.tables.Lawful) (free : s.dueGranted = false)
    (plans : ∀ r ∈ s.run, (s.planAt r.plan).isSome = true) (reason : MissReason) :
    ∀ r, (catchUp reason s).run = some r → r.state = .active → s.now < r.nextDue :=
  consumePassed_later reason s.dueFuel (s := withdrawSchedule s) law free
    (fun r run _ => plans r run) fun r run _ _ => by
      have held : s.run = some r := run
      rw [Part.dueFuel, held]
      exact Nat.lt_add_of_pos_right (by omega)

/-- Settles O22: each miss carries the due on by a second at least, which the fuel of a catch-up
counts. -/
theorem catchUpPassesEveryDue : Obligations.CatchUpPassesEveryDue := by
  intro s reason law free plans
  have frame : RunFrame none s (catchUp reason s) := catchUp_frame reason s
  obtain ⟨count, meter, schedule, -⟩ :=
    consumePassed_lapses reason s.dueFuel (s := withdrawSchedule s) rfl
  refine ⟨catchUp_kept reason s, schedule, fun r run active due => ?_, frame.op, frame.camera, frame.lending,
    meter, frame.battery, ?_, frame.holders, count, fun passed => ?_, fun ahead => catchUp_ahead ahead reason,
    catchUp_later law free plans reason⟩
  · obtain ⟨n, first⟩ := catchUp_passed free run active due reason
    obtain ⟨-, -, journal, -⟩ := consumeMissed_lapses (s := withdrawSchedule s) run reason
    have grows := (consumePassed_kept (b := false) reason n (consumeDue (.missed reason) (withdrawSchedule s))).journal
    rw [← first, journal] at grows
    exact grows
  · have arbiter := frame.arbiter
    rwa [show (catchUp reason s).arbiter.schedule = none from schedule] at arbiter
  · obtain ⟨r, run, active, due⟩ := (duePassed_iff free).1 passed
    obtain ⟨n, first⟩ := catchUp_passed free run active due reason
    obtain ⟨-, -, -, gone, warm⟩ := consumeMissed_lapses (s := withdrawSchedule s) run reason
    rw [first]
    exact (consumePassed_lapses reason n gone).2.2.2 warm

end Sys2Proof.Machine


/-! PROOFS. The moments of the calendar at which the windows are re-evaluated, and the requests that move
the engine: what an event whose moment has come and a request that is carried out do to the part, the next
window boundary as the least one ahead, and ARM, DISARM and RESUME. -/

namespace Sys2Proof.Machine

/-! ### Steps that are taken at their moment -/

/-- A calendar event whose moment has come, with no tick to count. -/
theorem exec_arrival {c : Instr} {s : State} {moment : Part → Option Nat} {f : Part → Part} {t : Nat}
    (acts : exec c s = advance (arriveAt moment f) s) (awake : s.part.awake = true)
    (stands : moment s.part = some t) (past : t ≤ s.part.now)
    (range : s.part.now < Config.calendarSpan) :
    exec c s = .next (s.put (settle (f s.part))) := by
  rw [acts, advance_eq_put, arriveAt_reached awake stands past range]

/-- A timer that has run out, with no tick to count. -/
theorem exec_expiry {c : Instr} {s : State} {due : Part → Option Elapsed} {f : Elapsed → Part → Part}
    {d : Elapsed} (acts : exec c s = advance (expireAt due f) s) (awake : s.part.awake = true)
    (runs : due s.part = some d) (out : s.part.reached d = true) :
    exec c s = .next (s.put (settle (f d s.part))) := by
  rw [acts, advance_eq_put, expireAt_reached awake runs out]

/-- A request that is carried out with the tail of its step. -/
theorem exec_done {c : Instr} {s : State} {code : Byte} {payload : List Byte} {f : Part → Handled}
    {r : Reply} {p : Part} (acts : exec c s = advance (request code payload f) s)
    (awake : s.part.awake = true) (empty : s.part.link.handled = none) (h : f s.part = done r p) :
    exec c s = .next (s.put (startReply ⟨code, payload⟩ r (settle p))) := by
  rw [exec_handled acts awake empty, h, done]

/-- Outside ARMED, with nothing going on, the tail of a step does nothing. -/
theorem settle_notArmed {s : Part} (still : s.Still) (schedule : s.arbiter.schedule = none)
    (engine : s.engine ≠ .armed) : settle s = s :=
  settle_still still schedule (raiseSchedule_notArmed engine)

/-! ### The next window boundary (R35) -/

theorem instantOf_second {day sod : Nat} (h : sod ≤ 86399) :
    instantOf day sod % 32768 = 0 ∧ instantOf day sod / 32768 = day * 86400 + sod ∧
      instantOf day sod / 32768 % 86400 = sod := by
  have second : instantOf day sod / 32768 = day * 86400 + sod := Nat.mul_div_cancel _ (by decide)
  exact ⟨Nat.mul_mod_left _ _, second, by omega⟩

theorem nextSecondOfDay_least {t sod : Nat} (h : sod ≤ 86399) :
    (t < nextSecondOfDay t sod ∧ nextSecondOfDay t sod % 32768 = 0 ∧
      nextSecondOfDay t sod / 32768 % 86400 = sod) ∧
    ∀ u, t < u → u % 32768 = 0 → u / 32768 % 86400 = sod → nextSecondOfDay t sod ≤ u := by
  have day : dayOf t = t / 32768 / 86400 := rfl
  have here := instantOf_second (day := dayOf t) h
  have next := instantOf_second (day := dayOf t + 1) h
  unfold nextSecondOfDay
  by_cases ahead : t < instantOf (dayOf t) sod
  · simp only [if_pos ahead]
    exact ⟨⟨ahead, here.1, here.2.2⟩, fun u _ _ _ => by omega⟩
  · simp only [if_neg ahead]
    exact ⟨⟨by omega, next.1, next.2.2⟩, fun u _ _ _ => by omega⟩

theorem mem_boundarySods {ws : List Window} {sod : Nat} :
    sod ∈ boundarySods ws ↔ ∃ w ∈ ws, w.enabled = true ∧ (sod = w.startSod ∨ sod = w.endSod) := by
  simp [boundarySods, and_assoc]

/-- A second of day at which a boundary of an enabled window lies. -/
def Part.boundarySod (s : Part) (sod : Nat) : Prop :=
  ∃ i : Fin 8, (s.tables.windows.get i).enabled = true ∧
    (sod = (s.tables.windows.get i).startSod ∨ sod = (s.tables.windows.get i).endSod)

theorem boundarySod_iff (s : Part) (sod : Nat) :
    s.boundarySod sod ↔ sod ∈ boundarySods s.tables.windows.toList := by
  rw [mem_boundarySods]
  constructor
  · rintro ⟨i, enabled, h⟩
    exact ⟨_, by rw [Vector.mem_toList_iff]; exact Vector.getElem_mem i.isLt, enabled, h⟩
  · rintro ⟨w, mem, enabled, h⟩
    obtain ⟨i, lt, rfl⟩ := Vector.mem_iff_getElem.mp (Vector.mem_toList_iff.mp mem)
    exact ⟨⟨i, lt⟩, enabled, h⟩

theorem boundarySod_lt {s : Part} (lawful : s.tables.Lawful) {sod : Nat} (h : s.boundarySod sod) :
    sod ≤ 86399 := by
  obtain ⟨-, -, windows, -, -⟩ := lawful
  obtain ⟨i, -, rfl | rfl⟩ := h
  · exact (windows i).1
  · exact (windows i).2.1

/-- The next boundary is the least of the instants ahead at which a boundary lies (R35). -/
theorem boundaryMoment_eq_some {s : Part} (lawful : s.tables.Lawful) (m : Nat) :
    let ahead (t : Nat) : Prop :=
      s.time.boundarySeen < t ∧ t % 32768 = 0 ∧ s.boundarySod (t / 32768 % 86400)
    s.boundaryMoment = some m ↔ ahead m ∧ ∀ t, ahead t → m ≤ t := by
  intro ahead
  have ofSod (sod : Nat) (h : s.boundarySod sod) :
      ahead (nextSecondOfDay s.time.boundarySeen sod) := by
    obtain ⟨⟨later, whole, at_⟩, -⟩ := nextSecondOfDay_least (t := s.time.boundarySeen)
      (boundarySod_lt lawful h)
    exact ⟨later, whole, at_.symm ▸ h⟩
  have toSod (t : Nat) (h : ahead t) :
      nextSecondOfDay s.time.boundarySeen (t / 32768 % 86400) ≤ t :=
    (nextSecondOfDay_least (by omega)).2 t h.1 h.2.1 rfl
  rw [Part.boundaryMoment, nextBoundary, List.min?_eq_some_iff]
  simp only [List.mem_map, ← boundarySod_iff]
  constructor
  · rintro ⟨⟨sod, boundary, rfl⟩, least⟩
    exact ⟨ofSod sod boundary, fun t h => (least _ ⟨_, h.2.2, rfl⟩).trans (toSod t h)⟩
  · rintro ⟨here, least⟩
    refine ⟨⟨_, here.2.2, le_antisymm (toSod m here) (least _ (ofSod _ here.2.2))⟩, ?_⟩
    rintro _ ⟨sod, boundary, rfl⟩
    exact least _ (ofSod sod boundary)

theorem midnightMoment_eq (s : Part) :
    s.midnightMoment = some ((s.time.midnightSeen / 2831155200 + 1) * 2831155200) := by
  have day : dayOf s.time.midnightSeen = s.time.midnightSeen / 2831155200 := Nat.div_div_eq_div_mul _ _ _
  have start (d : Nat) : instantOf d 0 = d * 2831155200 := by
    simp only [instantOf, Config.ticksPerSecond, Config.secondsPerDay]
    omega
  simp only [Part.midnightMoment, nextSecondOfDay, day, start]
  rw [if_neg (by omega)]

/-- A re-evaluation in DISARMED, with nothing going on, settles only the done mark. -/
theorem settle_reEvaluate_disarmed {s : Part} (still : s.Still) (engine : s.engine = .disarmed)
    (schedule : s.arbiter.schedule = none) :
    settle (reEvaluate s) = { s with doneMark := markAfter s.selectedWindow s.now s.doneMark } := by
  rw [reEvaluate_disarmed engine]
  exact settle_notArmed still schedule (by simp [engine])

theorem settle_reEvaluate_kept {b : Bool} (s : Part) : Kept b s (settle (reEvaluate s)) :=
  (reEvaluate_kept s).trans (settle_kept _)

/-- Settles O23: each of the three moments is taken, counts as seen, and re-evaluates. -/
theorem windowMomentsReEvaluate : Obligations.WindowMomentsReEvaluate := by
  refine ⟨fun s lawful => ⟨fun m => ?_, midnightMoment_eq s⟩, fun s awake range => ⟨?_, ?_, ?_⟩⟩
  · simpa only [Part.boundarySod] using boundaryMoment_eq_some lawful m
  · exact fun m stands past =>
      ⟨by exact exec_arrival (moment := Part.boundaryMoment) (f := takeBoundary) rfl awake stands past range,
      settle_reEvaluate_kept _, fun still engine schedule => settle_reEvaluate_disarmed still engine schedule⟩
  · exact fun m stands past =>
      ⟨by exact exec_arrival (moment := Part.midnightMoment) (f := takeMidnight) rfl awake stands past range,
      settle_reEvaluate_kept _, fun still engine schedule => settle_reEvaluate_disarmed still engine schedule⟩
  · refine fun m mark past => ⟨?_, (kept_edit s.part).trans (settle_reEvaluate_kept _), ?_⟩
    · exact exec_arrival (f := endMark) rfl awake (t := m.stop) (by rw [Part.markMoment, mark]; rfl) past range
    · exact fun still engine schedule =>
        settle_reEvaluate_disarmed (s := { s.part with doneMark := none }) still engine schedule

/-! ### ARM, DISARM and RESUME (R38, R41, R42) -/

/-- A change of the engine, with what leaving ARMED withdraws. -/
theorem setEngine_kept {b : Bool} (e : EngineState) (s : Part) :
    Kept b { s with engine := e } (setEngine e s) := by
  unfold setEngine
  split
  · exact .refl _
  · exact kept_edit _

theorem armedOrSuspended_eq (s : Part) :
    s.armedOrSuspended = if s.health = .faulted then .suspended else .armed := by
  unfold Part.armedOrSuspended
  cases s.health <;> simp

theorem disarm_kept {b : Bool} (s : Part) : Kept b { s with engine := .disarmed } (disarm s) :=
  (setEngine_kept .disarmed s).trans (endRun_kept _)

/-- What becomes of a run in a part that a change of the engine has left. -/
theorem setEngine_disarmed_fields (s : Part) :
    (setEngine .disarmed s).run = s.run.map (fun r : Run => { r with wakeReached := false }) ∧
    (setEngine .disarmed s).op = s.op ∧ (setEngine .disarmed s).arbiter.schedule = none ∧
    (setEngine .disarmed s).arbiter.external = s.arbiter.external ∧
    (setEngine .disarmed s).arbiter.manual = s.arbiter.manual ∧
    (setEngine .disarmed s).lending = s.lending ∧ (setEngine .disarmed s).journal = s.journal := by
  simp [setEngine, forgetWake]

/-- With no operation a DISARM ends the run at once and withdraws its request (R38). -/
theorem disarm_still {s : Part} (still : s.Still) :
    (disarm s).run = none ∧ (disarm s).arbiter.schedule = none ∧ (disarm s).Still ∧
      (disarm s).journal = s.journal := by
  obtain ⟨op, external, manual, port⟩ := still
  obtain ⟨run, ops, schedule, externals, manuals, lending, journal⟩ := setEngine_disarmed_fields s
  cases held : (setEngine .disarmed s).run with
  | none =>
    have ends : disarm s = setEngine .disarmed s :=
      (if_neg (by simp [ops, op])).trans (finishRun_noRun held)
    rw [ends]
    exact ⟨held, schedule, ⟨ops.trans op, externals.trans external, manuals.trans manual,
      by rw [lending, port]⟩, journal⟩
  | some r =>
    have ends : disarm s = _ := endRun_still (ops.trans op) held
    rw [ends, raiseNotice_eq]
    exact ⟨rfl, rfl, ⟨ops.trans op, externals.trans external, manuals.trans manual,
      (congrArg Lending.port lending).trans port⟩, journal⟩

/-- Settles O24: by the clock, the engine and the camera, and by what is in flight. -/
theorem armDisarmAndResume : Obligations.ArmDisarmAndResume := by
  intro s awake empty target
  have toTarget : s.part.armedOrSuspended = target := armedOrSuspended_eq s.part
  refine ⟨fun clock => ?_, fun clock engine => ?_, fun clock engine => ?_, fun engine => ?_,
    fun engine => ?_, fun engine => ?_, fun engine => ?_⟩
  · exact exec_answered rfl awake empty (by simp [whenEmpty, handleArm, refuse, clock])
  · refine exec_answered rfl awake empty ?_
    rcases engine with engine | engine <;> simp [whenEmpty, handleArm, refuse, clock, engine]
  · rcases engine with engine | engine
    · refine ⟨_, exec_done rfl awake empty (r := .ok []) (p := reEvaluate (setEngine target s.part))
        (by simp [whenEmpty, handleArm, clock, engine, toTarget]), rfl, ?_⟩
      rw [if_pos engine]
      exact ((setEngine_kept target s.part).trans (settle_reEvaluate_kept _)).startReply _ _
    · refine ⟨_, exec_done rfl awake empty (r := .ok []) (p := reEvaluate s.part)
        (by simp [whenEmpty, handleArm, clock, engine]), rfl, ?_⟩
      rw [if_neg (by simp [engine]), ← engine]
      exact (settle_reEvaluate_kept s.part).startReply _ _
  · refine exec_answered rfl awake empty ?_
    cases at_ : s.part.engine <;> simp_all [whenEmpty, handleResume, refuse]
  · refine ⟨_, exec_done rfl awake empty (r := .ok []) (p := noteNextDue (reEvaluate (setEngine target s.part)))
      (by simp [whenEmpty, handleResume, engine, toTarget]), rfl, ?_⟩
    exact (((setEngine_kept target s.part).trans (reEvaluate_kept _)).trans
      ((noteNextDue_kept _).trans (settle_kept _))).startReply _ _
  · exact exec_answered rfl awake empty (by simp [whenEmpty, handleDisarm, engine])
  · refine ⟨_, exec_done rfl awake empty (r := .ok []) (p := disarm s.part)
      (by cases at_ : s.part.engine <;> simp_all [whenEmpty, handleDisarm]), rfl,
      ((disarm_kept s.part).trans (settle_kept _)).startReply _ _, fun still => ?_⟩
    obtain ⟨run, schedule, still', journal⟩ := disarm_still still
    have tail : settle (disarm s.part) = disarm s.part :=
      settle_still still' schedule (raiseSchedule_noRun run)
    rw [tail]
    exact ⟨run, schedule, journal⟩

end Sys2Proof.Machine


/-! PROOFS. What the grants and the tests of a step's tail leave alone: the battery supervisor, the meter,
the journal, the done mark and most notices, a run but for what a computation and a raised request write in
it, and an operation but for its computation and its phase. -/

namespace Sys2Proof.Machine

/-- A run without what a computation and a raised request write in it (R65, R84). -/
def Run.fixed (r : Run) : Run := { r with eBase := none, aPrev := none, lateLimit := 0 }

/-- An operation without its computation and without where its frame stands. -/
def Operation.fixed (o : Operation) : Operation :=
  { o with
    comp := none, reduced := false, phase := .waiting, startAt := none, tag := none, acked := false
    heldB := none, camActSeen := false }

/-- What the raising rule, the arbiter, the end of WAKING and port lending leave alone beside what `Kept`
names. -/
structure Granting (s t : Part) : Prop where
  battery : t.battery = s.battery
  meter : t.meter = s.meter
  run : t.run.map Run.fixed = s.run.map Run.fixed
  lastBase : t.lastBase = s.lastBase
  runCount : t.runCount = s.runCount
  doneMark : t.doneMark = s.doneMark
  journal : t.journal = s.journal
  notices : ∀ k, k ≠ .cameraWanted → k ≠ .cameraLent → entryOf k t.notices = entryOf k s.notices
  allowed : t.lending.allowed = s.lending.allowed
  owned : s.lending.port = .owned → s.lending.wake = none → t.lending = s.lending
  op : ∀ o, s.op = some o → ∃ q, t.op = some q ∧ q.fixed = o.fixed
  warm : s.holders.keepWarm = false → t.holders.keepWarm = false
  schedule : s.dueGranted = true → s.arbiter.schedule = none → t.arbiter.schedule = none

/-- An operation that is granted for the due stays so where only its frame moves on. -/
theorem dueGranted_of_op {s t : Part}
    (op : ∀ o, s.op = some o → ∃ q, t.op = some q ∧ q.fixed = o.fixed) (granted : s.dueGranted = true) :
    t.dueGranted = true := by
  unfold Part.dueGranted at granted ⊢
  split at granted
  · next o held =>
    obtain ⟨q, kept, fixed⟩ := op o held
    have source : q.source = o.source := (congrArg Operation.source fixed :)
    have settled : q.settled = o.settled := (congrArg Operation.settled fixed :)
    rw [kept]
    simpa only [source, settled] using granted
  · cases granted

theorem dueGranted_noOp {s : Part} (op : s.op = none) : s.dueGranted = false := by
  simp [Part.dueGranted, op]

namespace Granting

variable {s t u : Part}

theorem refl (s : Part) : Granting s s :=
  ⟨rfl, rfl, rfl, rfl, rfl, rfl, rfl, fun _ _ _ => rfl, rfl, fun _ _ => rfl, fun o h => ⟨o, h, rfl⟩,
    id, fun _ none => none⟩

theorem trans (h : Granting s t) (h' : Granting t u) : Granting s u where
  battery := h'.battery.trans h.battery
  meter := h'.meter.trans h.meter
  run := h'.run.trans h.run
  lastBase := h'.lastBase.trans h.lastBase
  runCount := h'.runCount.trans h.runCount
  doneMark := h'.doneMark.trans h.doneMark
  journal := h'.journal.trans h.journal
  notices k wanted lent := (h'.notices k wanted lent).trans (h.notices k wanted lent)
  allowed := h'.allowed.trans h.allowed
  owned port wake := by
    have same := h.owned port wake
    exact (h'.owned (by rw [same, port]) (by rw [same, wake])).trans same
  op o held := by
    obtain ⟨q, hq, same⟩ := h.op o held
    obtain ⟨x, hx, same'⟩ := h'.op q hq
    exact ⟨x, hx, same'.trans same⟩
  warm := h'.warm ∘ h.warm
  schedule granted none := h'.schedule (dueGranted_of_op h.op granted) (h.schedule granted none)

theorem via (h' : Granting t u) (h : Granting s t) : Granting s u := h.trans h'

/-- An operation in flight stays in flight. -/
theorem inFlight (h : Granting s t) (held : s.op.isSome = true) : t.op.isSome = true := by
  obtain ⟨o, ho⟩ := Option.isSome_iff_exists.mp held
  obtain ⟨q, hq, -⟩ := h.op o ho
  exact hq ▸ rfl

/-- No run comes and none goes. -/
theorem noRun (h : Granting s t) : t.run = none ↔ s.run = none := by
  rw [← Option.map_eq_none_iff (f := Run.fixed), h.run, Option.map_eq_none_iff]

theorem someRun (h : Granting s t) {r : Run} (run : s.run = some r) :
    ∃ n, t.run = some n ∧ n.fixed = r.fixed := by
  have same := h.run
  rw [run, Option.map_some, Option.map_eq_some_iff] at same
  exact same

end Granting

section

variable {s : Part} {o : Operation}

theorem granting_holders {holders : Holders}
    (warm : s.holders.keepWarm = false → holders.keepWarm = false) :
    Granting s { s with holders := holders } :=
  ⟨rfl, rfl, rfl, rfl, rfl, rfl, rfl, fun _ _ _ => rfl, rfl, fun _ _ => rfl, fun o h => ⟨o, h, rfl⟩,
    warm, fun _ none => none⟩

theorem granting_op (h : s.op = some o) {q : Operation} {camera : CameraPort}
    (same : q.fixed = o.fixed) : Granting s { s with op := some q, camera := camera } :=
  ⟨rfl, rfl, rfl, rfl, rfl, rfl, rfl, fun _ _ _ => rfl, rfl, fun _ _ => rfl,
    fun x held => ⟨q, rfl, by rw [same, Option.some.inj (h.symm.trans held)]⟩, id, fun _ none => none⟩

theorem ungranted_of_raisable {r : Run} (may : s.raisable r = true) : s.dueGranted = false := by
  simp only [Part.raisable, Bool.and_eq_true, Bool.not_eq_true'] at may
  exact may.1.2

theorem fillSchedule_granting {r : Run} (run : s.run = some r) (may : s.raisable r = true) :
    Granting s (fillSchedule r s) :=
  ⟨rfl, rfl, by rw [run]; rfl, rfl, rfl, rfl, rfl, fun _ _ _ => rfl, rfl, fun _ _ => rfl,
    fun o h => ⟨o, h, rfl⟩, id,
    fun granted => absurd granted (by simp [ungranted_of_raisable may])⟩

theorem raiseSchedule_granting (s : Part) : Granting s (raiseSchedule s) := by
  unfold raiseSchedule
  split
  · exact .refl s
  · next r run =>
    split
    · next calls =>
      simp only [Bool.and_eq_true] at calls
      exact fillSchedule_granting run calls.1.1
    · exact .refl s

theorem enterExposing_granting (h : s.op = some o) {q : Operation} (same : q.fixed = o.fixed) :
    Granting s (enterExposing q s) := granting_op h same

theorem enterFocusing_granting (h : s.op = some o) {q : Operation} (same : q.fixed = o.fixed) :
    Granting s (enterFocusing q s) := by
  unfold enterFocusing
  split
  · exact enterExposing_granting h same
  · exact granting_op h same

theorem enterSetting_granting (h : s.op = some o) {q : Operation} (same : q.fixed = o.fixed) :
    Granting s (enterSetting q s) := granting_op h same

theorem beginFrame_granting (s : Part) : Granting s (beginFrame s) := by
  unfold beginFrame
  split
  · exact .refl s
  · next o held =>
    dsimp only
    split
    · exact enterSetting_granting held rfl
    · exact enterFocusing_granting held rfl

theorem computeDue_granting (h : s.op = some o) {r : Run} (run : s.run = some r) (p : Plan) :
    Granting s (computeDue o r p s) :=
  ⟨rfl, rfl, by rw [run]; rfl, rfl, rfl, rfl, rfl, fun _ _ _ => rfl, rfl, fun _ _ => rfl,
    fun x held => ⟨_, rfl, by rw [← Option.some.inj (h.symm.trans held)]; rfl⟩, id, fun _ none => none⟩

theorem computeOperation_granting (h : s.op = some o) (p : Plan) :
    Granting s (computeOperation o p s) := granting_op h rfl

theorem endWaiting_granting (s : Part) : Granting s (endWaiting s) := by
  unfold endWaiting
  split
  · next o r held run =>
    split
    · exact (computeDue_granting held run _).trans (beginFrame_granting _)
    · exact .refl s
  · exact .refl s

theorem enterWaiting_granting (h : s.op = some o) : Granting s (enterWaiting o s) := by
  have entered : Granting s { s with op := some { o with phase := .waiting } } := granting_op h rfl
  unfold enterWaiting
  dsimp only
  split
  · split
    · exact entered.trans (endWaiting_granting _)
    · exact entered
  · exact entered

theorem leaveWaking_granting (h : s.op = some o) : Granting s (leaveWaking o s) := by
  unfold leaveWaking
  split
  · exact enterWaiting_granting h
  · exact (computeOperation_granting h _).trans (beginFrame_granting _)
  · exact (computeOperation_granting h _).trans (beginFrame_granting _)
  · exact .refl s
  · exact .refl s

theorem endZeroWake_granting (s : Part) : Granting s (endZeroWake s) := by
  unfold endZeroWake
  split
  · next o held =>
    split
    · split
      · exact leaveWaking_granting held
      · exact .refl s
    · exact .refl s
  · exact .refl s

/-- A grant, which finds no operation. -/
theorem granting_grant (h : s.op = none) {arbiter : Arbiter} {holders : Holders}
    (warm : holders.keepWarm = false) (o : Operation) :
    Granting s { s with
      op := some o, arbiter := arbiter, holders := holders
      lending := { s.lending with wake := none } } :=
  ⟨rfl, rfl, rfl, rfl, rfl, rfl, rfl, fun _ _ _ => rfl, rfl, fun _ wake => by simp only [← wake],
    fun x held => by simp [h] at held, fun _ => warm,
    fun granted => absurd granted (by simp [dueGranted_noOp h])⟩

theorem grant_granting (h : s.op = none) (src : Source) : Granting s (grant src s) := by
  unfold grant
  dsimp only
  split
  · exact .refl s
  · split
    · exact (granting_grant h rfl _).trans (leaveWaking_granting rfl)
    · exact granting_grant h rfl _

theorem op_of_mayGrant (may : s.mayGrant = true) : s.op = none := by
  simp only [Part.mayGrant, Bool.and_eq_true, Option.isNone_iff_eq_none] at may
  exact may.1.1.1.1

theorem arbiterTest_granting (s : Part) : Granting s (arbiterTest s) := by
  unfold arbiterTest
  split
  · next may =>
    split
    · exact grant_granting (op_of_mayGrant may) _
    · exact .refl s
  · exact .refl s

theorem raiseAndGrant_granting (s : Part) : Granting s (raiseAndGrant s) :=
  (raiseSchedule_granting s).trans (arbiterTest_granting _)

theorem raiseWanted_granting (d : Option Nat) (s : Part) :
    Granting s (raiseNotice .cameraWanted d s) := by
  refine ⟨?_, ?_, ?_, ?_, ?_, ?_, ?_, fun k wanted _ => raiseNotice_silent wanted d s, ?_, ?_, ?_, ?_, ?_⟩
  all_goals rw [raiseNotice_eq]
  exacts [fun _ _ => rfl, fun o h => ⟨o, h, rfl⟩, id, fun _ none => none]

theorem raiseLent_granting (d : Option Nat) (s : Part) :
    Granting s (raiseNotice .cameraLent d s) := by
  refine ⟨?_, ?_, ?_, ?_, ?_, ?_, ?_, fun k _ lent => raiseNotice_silent lent d s, ?_, ?_, ?_, ?_, ?_⟩
  all_goals rw [raiseNotice_eq]
  exacts [fun _ _ => rfl, fun o h => ⟨o, h, rfl⟩, id, fun _ none => none]

/-- An edit of a lend that is in progress, lend_allowed kept. -/
theorem granting_lending (lent : s.lending.port ≠ .owned) {lending : Lending} {holders : Holders}
    (allowed : lending.allowed = s.lending.allowed) (warm : holders.keepWarm = s.holders.keepWarm) :
    Granting s { s with lending := lending, holders := holders } :=
  ⟨rfl, rfl, rfl, rfl, rfl, rfl, rfl, fun _ _ _ => rfl, allowed, fun e => absurd e lent,
    fun o h => ⟨o, h, rfl⟩, fun off => warm.trans off, fun _ none => none⟩

theorem reclaim_granting (lent : s.lending.port ≠ .owned) : Granting s (reclaim s) :=
  (raiseWanted_granting _ _).via (granting_lending (holders := s.holders) lent rfl rfl)

theorem reclaimTest_granting (s : Part) : Granting s (reclaimTest s) := by
  unfold reclaimTest
  split
  · next test =>
    refine reclaim_granting fun owned => ?_
    unfold Part.reclaimable at test
    split at test
    · simp [owned] at test
    · exact absurd test (by simp)
  · exact .refl s

theorem becomeLent_granting (lent : s.lending.port ≠ .owned) : Granting s (becomeLent s) := by
  have raised := (granting_lending lent
    (lending := { s.lending with port := .lent, busHost := true, wake := none }) (holders := s.holders)
    rfl rfl).trans (raiseLent_granting (s.run.map (·.plan.val)) _)
  unfold becomeLent
  refine (reclaimTest_granting _).via (raised.trans ?_)
  refine granting_lending (fun owned => ?_) rfl rfl
  rw [raiseNotice_eq] at owned
  cases owned

theorem lendTest_granting (s : Part) : Granting s (lendTest s) := by
  unfold lendTest
  split
  · next test =>
    have lent : s.lending.port ≠ .owned := fun owned => by simp [Part.lendable, owned] at test
    unfold lendGrant
    dsimp only
    have held : Granting s { s with holders := { s.holders with lend := true } } :=
      granting_lending lent rfl rfl
    split
    · exact held.trans (becomeLent_granting lent)
    · exact granting_lending lent rfl rfl
  · exact .refl s

theorem dropLend_granting (s : Part) : Granting s (dropLend s) := granting_holders id

theorem dropKeepWarm_granting (s : Part) : Granting s (dropKeepWarm s) :=
  granting_holders fun _ => rfl

theorem raiseAtHandover_granting (s : Part) : Granting s (raiseAtHandover s) := by
  unfold raiseAtHandover
  split
  · next r run =>
    split
    · next calls =>
      simp only [Bool.and_eq_true] at calls
      exact fillSchedule_granting run calls.1
    · exact .refl s
  · exact .refl s

theorem handover_granting (s : Part) : Granting s (handover s) :=
  (raiseAtHandover_granting s).trans ((arbiterTest_granting _).trans (dropLend_granting _))

/-- The rest of a step's tail, after the loaded reading of a grant. -/
theorem restOfTail_granting (s : Part) :
    Granting s (reclaimTest (lendTest (raiseAndGrant (endZeroWake s)))) :=
  (endZeroWake_granting s).trans ((raiseAndGrant_granting _).trans
    ((lendTest_granting _).trans (reclaimTest_granting _)))

end

end Sys2Proof.Machine


/-! PROOFS. What a battery reading makes of the supervisor and leaves of the rest, the tail of a step that
takes no loaded reading and of one that does, and what a pack voltage that changes does to the supply
monitor. -/

namespace Sys2Proof.Machine

/-! ### The done mark after a re-evaluation (R39) -/

theorem markAfter_cases (sel : Option (Fin 8)) (now : Nat) (mark : Option DoneMark) :
    markAfter sel now mark = mark ∨ markAfter sel now mark = none := by
  unfold markAfter
  repeat' split
  exacts [.inl rfl, .inl rfl, .inr rfl]

theorem markAfter_eq_some {sel : Option (Fin 8)} {now : Nat} {mark : Option DoneMark} {m : DoneMark}
    (h : markAfter sel now mark = some m) : mark = some m ∧ now < m.stop := by
  unfold markAfter at h
  repeat' split at h
  · cases h
  · next lasts =>
    cases h
    exact ⟨rfl, lasts.2⟩
  · cases h

theorem noteNextDue_doneMark (s : Part) : (noteNextDue s).doneMark = s.doneMark := by
  unfold noteNextDue takeWakeTime readIfIdle beginReading
  repeat' split
  all_goals rfl

theorem startSelected_doneMark (sel : Option (Fin 8)) (s : Part) :
    (startSelected sel s).doneMark = s.doneMark := by
  unfold startSelected startRun
  dsimp only
  repeat' split
  all_goals first
    | rfl
    | rw [noteNextDue_doneMark, raiseNotice_eq]

/-- With no run that ends at once, a re-evaluation only removes the mark where it has ended. -/
theorem reEvaluate_doneMark {s : Part} (h : s.op.isSome = true ∨ s.run = none) :
    (reEvaluate s).doneMark = markAfter s.selectedWindow s.now s.doneMark := by
  by_cases engine : s.engine = .disarmed
  · rw [reEvaluate_disarmed engine]
  cases run : s.run with
  | none =>
    rw [reEvaluate_noRun engine run]
    exact startSelected_doneMark _ _
  | some r =>
    have op : s.remarked.op.isSome = true := h.resolve_right (by simp [run])
    rw [reEvaluate_running engine run, endRun_inFlight (s := s.remarked) op run]
    split_ifs with ending kept gone
    · rfl
    · rfl
    · cases gone
    · rfl

/-! ### A change of level (R147) -/

/-- What a change of level leaves alone, where an operation is in flight or there is no run. -/
structure Regrading (s t : Part) : Prop where
  mark : s.op.isSome = true → t.doneMark = s.doneMark ∨ t.doneMark = none
  op : ∀ o, s.op = some o → ∃ q, t.op = some q ∧ q.fixed = o.fixed
  warm : s.holders.keepWarm = false → t.holders.keepWarm = false
  schedule : s.dueGranted = true → s.arbiter.schedule = none → t.arbiter.schedule = none

namespace Regrading

variable {s t u : Part}

theorem trans (h : Regrading s t) (h' : Regrading t u) : Regrading s u where
  mark inFlight := by
    obtain ⟨o, held⟩ := Option.isSome_iff_exists.mp inFlight
    obtain ⟨q, kept, -⟩ := h.op o held
    rcases h'.mark (by rw [kept]; rfl) with same | gone
    · rw [same]
      exact h.mark inFlight
    · exact .inr gone
  op o held := by
    obtain ⟨q, hq, same⟩ := h.op o held
    obtain ⟨x, hx, same'⟩ := h'.op q hq
    exact ⟨x, hx, same'.trans same⟩
  warm := h'.warm ∘ h.warm
  schedule granted none := h'.schedule (dueGranted_of_op h.op granted) (h.schedule granted none)

theorem via (h' : Regrading t u) (h : Regrading s t) : Regrading s u := h.trans h'

theorem ofGranting (h : Granting s t) : Regrading s t :=
  ⟨fun _ => .inl h.doneMark, h.op, h.warm, h.schedule⟩

/-- An edit beside the operation, the mark, KEEP_WARM and the requests. -/
theorem edit (mark : t.doneMark = s.doneMark) (op : t.op = s.op)
    (warm : t.holders.keepWarm = s.holders.keepWarm)
    (schedule : t.arbiter.schedule = s.arbiter.schedule) : Regrading s t :=
  ⟨fun _ => .inl mark, fun o held => ⟨o, op.trans held, rfl⟩, warm.trans,
    fun _ => schedule.trans⟩

end Regrading

theorem startSelected_slots (sel : Option (Fin 8)) (s : Part) :
    (startSelected sel s).arbiter = s.arbiter ∧ (startSelected sel s).holders = s.holders := by
  have noted (t : Part) : (noteNextDue t).arbiter = t.arbiter ∧ (noteNextDue t).holders = t.holders := by
    unfold noteNextDue takeWakeTime readIfIdle beginReading
    repeat' split
    all_goals exact ⟨rfl, rfl⟩
  unfold startSelected startRun
  dsimp only
  repeat' split
  all_goals first
    | exact ⟨rfl, rfl⟩
    | (rw [(noted _).1, (noted _).2, raiseNotice_eq]; exact ⟨rfl, rfl⟩)

theorem finishRun_slots {s : Part} {r : Run} (run : s.run = some r) :
    (finishRun s).arbiter.schedule = none ∧ (finishRun s).holders = { s.holders with keepWarm := false } := by
  rw [finishRun_eq run, raiseNotice_eq]
  exact ⟨rfl, rfl⟩

/-- The end of a run withdraws its request and lets the camera cool (R37, R104). -/
theorem endRun_slots {s : Part} {r : Run} (run : s.run = some r) :
    (endRun s).arbiter.schedule = none ∧ (endRun s).holders = { s.holders with keepWarm := false } := by
  unfold endRun
  split
  · rw [enterEnding_eq run]
    exact ⟨rfl, rfl⟩
  · exact finishRun_slots run

/-- A re-evaluation leaves the SCHEDULE slot and KEEP_WARM, or empties both. -/
theorem reEvaluate_slots (s : Part) :
    ((reEvaluate s).arbiter.schedule = s.arbiter.schedule ∧
      (reEvaluate s).holders.keepWarm = s.holders.keepWarm) ∨
    ((reEvaluate s).arbiter.schedule = none ∧ (reEvaluate s).holders.keepWarm = false) := by
  by_cases engine : s.engine = .disarmed
  · rw [reEvaluate_disarmed engine]
    exact .inl ⟨rfl, rfl⟩
  cases run : s.run with
  | none =>
    rw [reEvaluate_noRun engine run]
    obtain ⟨arbiter, holders⟩ := startSelected_slots s.selectedWindow s.remarked
    exact .inl ⟨congrArg Arbiter.schedule arbiter, congrArg Holders.keepWarm holders⟩
  | some r =>
    obtain ⟨schedule, cooled⟩ := endRun_slots (s := s.remarked) run
    obtain ⟨arbiter, holders⟩ := startSelected_slots s.selectedWindow (endRun s.remarked)
    rw [reEvaluate_running engine run]
    split_ifs
    · exact .inl ⟨rfl, rfl⟩
    · exact .inl ⟨rfl, rfl⟩
    · exact .inr ⟨by rw [arbiter, schedule], by rw [holders, cooled]⟩
    · exact .inr ⟨schedule, by rw [cooled]⟩

theorem reEvaluate_regrading (s : Part) : Regrading s (reEvaluate s) where
  mark inFlight := by
    rw [reEvaluate_doneMark (.inl inFlight)]
    exact markAfter_cases _ _ _
  op o held := ⟨o, (reEvaluate_frame (fed := none) s).op.trans held, rfl⟩
  warm off := by
    rcases reEvaluate_slots s with ⟨-, warm⟩ | ⟨-, cooled⟩
    exacts [warm.trans off, cooled]
  schedule _ none := by
    rcases reEvaluate_slots s with ⟨same, -⟩ | ⟨gone, -⟩
    exacts [same.trans none, gone]

theorem takeBack_regrading (reason : TakenReason) (s : Part) : Regrading s (takeBack reason s) := by
  refine Regrading.trans (.edit (t := raiseTaken reason (ownPort false s)) ?_ ?_ ?_ ?_)
    (.ofGranting (handover_granting _))
  all_goals rw [raiseTaken, raiseNotice_eq]; rfl

theorem takeBack_battery (reason : TakenReason) (s : Part) :
    (takeBack reason s).battery = s.battery := by
  refine (handover_granting _).battery.trans ?_
  rw [raiseTaken, raiseNotice_eq]
  rfl

theorem criticalEntry_regrading (s : Part) :
    Regrading s (criticalEntry s) ∧ (criticalEntry s).battery = s.battery := by
  have dropped : Regrading s (dropLend (dropKeepWarm s)) :=
    .ofGranting ((dropKeepWarm_granting s).trans (dropLend_granting _))
  unfold criticalEntry
  dsimp only
  split
  · exact ⟨dropped, rfl⟩
  · refine ⟨dropped.trans (.edit ?_ ?_ ?_ ?_), ?_⟩
    all_goals rw [raiseTaken, raiseNotice_eq]; rfl
  · exact ⟨dropped.trans (takeBack_regrading _ _), takeBack_battery _ _⟩
  · exact ⟨dropped.trans (takeBack_regrading _ _), takeBack_battery _ _⟩

theorem excludeHolders_regrading (old new : Level) (s : Part) :
    Regrading s (excludeHolders old new s) ∧ (excludeHolders old new s).battery = s.battery := by
  unfold excludeHolders
  extract_lets t u
  have dropped : Regrading s t ∧ t.battery = s.battery := by
    unfold t
    split
    · exact ⟨.ofGranting (dropKeepWarm_granting s), rfl⟩
    · exact ⟨.edit rfl rfl rfl rfl, rfl⟩
  have entered : Regrading s u ∧ u.battery = s.battery := by
    unfold u
    split
    · obtain ⟨regrading, battery⟩ := criticalEntry_regrading t
      exact ⟨dropped.1.trans regrading, battery.trans dropped.2⟩
    · exact dropped
  split
  · exact entered
  · have granting := raiseAndGrant_granting u
    exact ⟨entered.1.trans (.ofGranting granting), granting.battery.trans entered.2⟩

theorem changeLevel_regrading (new : Level) (s : Part) :
    Regrading s (changeLevel new s) ∧
      (changeLevel new s).battery = { s.battery with level := new, worse := 0, better := 0 } := by
  unfold changeLevel
  extract_lets old battery graded t
  have raised : Regrading s (raiseNotice .levelChanged (some new.rank) graded) ∧
      (raiseNotice .levelChanged (some new.rank) graded).battery = graded.battery := by
    refine ⟨.edit ?_ ?_ ?_ ?_, ?_⟩
    all_goals rw [raiseNotice_eq]
  obtain ⟨excluded, same⟩ :=
    excludeHolders_regrading old new (raiseNotice .levelChanged (some new.rank) graded)
  have evaluated : Regrading s t ∧ t.battery = graded.battery :=
    ⟨raised.1.trans (excluded.trans (reEvaluate_regrading _)),
      (reEvaluate_frame (fed := none) _).battery.trans (same.trans raised.2)⟩
  split
  · have granting := (raiseAndGrant_granting t).trans (lendTest_granting _)
    exact ⟨evaluated.1.trans (.ofGranting granting), granting.battery.trans evaluated.2⟩
  · exact evaluated

/-! ### A reading (R140, R146) -/

/-- A confirmed level begins both streaks anew (R144, R145). -/
theorem judge_confirmed {g : Supply} {l m : Level} {worse better : Nat} {r : BatteryReading}
    (h : (judge g l worse better r).confirmed = some m) : judge g l worse better r = ⟨0, 0, some m⟩ := by
  unfold judge at h ⊢
  split_ifs at h ⊢
  all_goals cases h
  all_goals rfl

theorem judgeReading_regrading (r : BatteryReading) (s : Part) : Regrading s (judgeReading r s) := by
  unfold judgeReading
  dsimp only
  split
  · refine (changeLevel_regrading _ _).1.via (.edit ?_ ?_ ?_ ?_) <;> rfl
  · exact .edit rfl rfl rfl rfl

/-- A reading is held as the latest, and its judgement stands (R140, R144 to R146). -/
theorem judgeReading_battery {r : BatteryReading} {s : Part} {j : Judgement}
    (judged : judge s.tables.supply s.battery.level s.battery.worse s.battery.better r = j) :
    (judgeReading r s).battery =
      { s.battery with
        latest := some r, worse := j.worse, better := j.better
        level := j.confirmed.getD s.battery.level } := by
  unfold judgeReading
  simp only [judged]
  cases confirmed : j.confirmed with
  | none => rfl
  | some l =>
    have anew : j = ⟨0, 0, some l⟩ := judged.symm.trans (judge_confirmed (judged ▸ confirmed))
    refine (changeLevel_regrading l _).2.trans ?_
    subst anew
    rfl

/-- A reading in a part in which nothing goes on; one that confirms a level calls for DISARMED. -/
theorem judgeReading_alone {r : BatteryReading} {s : Part} (alone : s.Alone) (op : s.op = none)
    (quiet : (judge s.tables.supply s.battery.level s.battery.worse s.battery.better r).confirmed = none ∨
      s.engine = .disarmed) :
    (judgeReading r s).Alone ∧ (judgeReading r s).op = none := by
  unfold judgeReading
  dsimp only
  split
  · next l confirmed =>
    have engine : s.engine = .disarmed := quiet.resolve_left (by simp [confirmed])
    have idle := (changeLevel_idle (Part.Idle.setBattery ⟨alone, op, engine⟩
      { s.battery with
        latest := some r
        worse := (judge s.tables.supply s.battery.level s.battery.worse s.battery.better r).worse
        better :=
          (judge s.tables.supply s.battery.level s.battery.worse s.battery.better r).better }) l).1
    exact ⟨idle.alone, idle.op⟩
  · exact ⟨alone, op⟩

/-! ### The tail of a step, with and without a loaded reading (R142) -/

theorem settle_eq (s : Part) : settle s =
    reclaimTest (lendTest (raiseAndGrant (endZeroWake (takeLoaded (raiseAndGrant s))))) := rfl

theorem takeLoaded_unasked {s : Part} (h : ∀ o ∈ s.op, o.askReading = false) : takeLoaded s = s := by
  unfold takeLoaded
  split
  · next o held => simp [h o held]
  · rfl

theorem takeLoaded_asked {s : Part} {o : Operation} (h : s.op = some o) (asks : o.askReading = true) :
    takeLoaded s = judgeReading (s.sample .loaded)
      { s with op := some { o with askReading := false, volts := some (s.sample .loaded).volts } } := by
  unfold takeLoaded
  split
  · next q held =>
    cases h.symm.trans held
    exact if_pos asks
  · next none => cases h.symm.trans none

theorem settle_granting {s : Part} (h : ∀ o ∈ (raiseAndGrant s).op, o.askReading = false) :
    Granting s (settle s) := by
  rw [settle_eq, takeLoaded_unasked h]
  exact (raiseAndGrant_granting s).trans (restOfTail_granting _)

/-- The tail of a step at most removes the done mark. -/
theorem settle_doneMark (s : Part) :
    (settle s).doneMark = s.doneMark ∨ (settle s).doneMark = none := by
  have granted := raiseAndGrant_granting s
  have rest := restOfTail_granting (takeLoaded (raiseAndGrant s))
  have loaded : (takeLoaded (raiseAndGrant s)).doneMark = (raiseAndGrant s).doneMark ∨
      (takeLoaded (raiseAndGrant s)).doneMark = none := by
    unfold takeLoaded
    dsimp only
    split
    · split
      · exact (judgeReading_regrading _ _).mark rfl
      · exact .inl rfl
    · exact .inl rfl
  rw [settle_eq, rest.doneMark, ← granted.doneMark]
  exact loaded

/-! ### The supply monitor and the pack (R141, R155) -/

/-- The part's own monitor and battery record put in the edit that it keeps. -/
theorem Kept.ownSupply {b : Bool} {s t : Part} {monitor : Monitor} {battery : Battery}
    (h : Kept b { s with monitor := monitor, battery := battery } t) :
    Kept b { s with monitor := t.monitor, battery := t.battery } t :=
  { h with monitor := rfl, cadence := ⟨rfl, rfl, rfl⟩ }

theorem timeMonitor_eq (state : SupplyState) (s : Part) : timeMonitor state s =
    { s with monitor := { s.monitor with
        state := state, deadline := s.after (4096 * s.tables.supply.rideThrough) } } := by
  rw [← eighths_eq]
  rfl

theorem takeDeferred_kept {b : Bool} (s : Part) :
    Kept b { s with battery := (takeDeferred s).battery } (takeDeferred s) := by
  unfold takeDeferred
  split
  · exact ((takePeriodic_kept (dropDeferred s)).ownBattery (s := s))
  · exact .refl s

theorem takeDeferred_cadence (s : Part) :
    (takeDeferred s).battery.deadline = s.battery.deadline ∧
      (takeDeferred s).battery.lastDue = s.battery.lastDue ∧
      (takeDeferred s).battery.deferred = false := by
  unfold takeDeferred
  split
  · exact (takePeriodic_kept (b := true) (dropDeferred s)).cadence
  · next none => exact ⟨rfl, rfl, by simpa using none⟩

/-- The return to SUPPLIED in a part that nothing else goes on in (R141, R146). -/
theorem settle_takeDeferred_alone {s : Part} (alone : s.Alone) (op : s.op = none) :
    (s.battery.deferred = false → (settle (takeDeferred s)).battery = s.battery) ∧
    (s.battery.deferred = true → s.periodicJudgement.confirmed = none ∨ s.engine = .disarmed →
      (settle (takeDeferred s)).battery =
        { s.battery with
          deferred := false, latest := some (s.sample .periodic)
          worse := s.periodicJudgement.worse, better := s.periodicJudgement.better
          level := s.periodicJudgement.confirmed.getD s.battery.level }) := by
  refine ⟨fun undeferred => ?_, fun deferred quiet => ?_⟩
  · rw [takeDeferred, if_neg (by simp [undeferred]), settle_alone alone op]
  · obtain ⟨alone', op'⟩ := judgeReading_alone (s := dropDeferred s) (r := s.sample .periodic) alone op
      quiet
    have taken : takeDeferred s = judgeReading (s.sample .periodic) (dropDeferred s) := if_pos deferred
    rw [taken, settle_alone alone' op']
    exact judgeReading_battery (s := dropDeferred s) (j := s.periodicJudgement) rfl

section Pack

variable {mv : Nat} {s : Part} (alive : s.monitor.lost = false)

include alive

theorem packFalls_eq : packFalls mv s =
    match s.monitor.state with
    | .supplied => if mv < 4000 then timeMonitor .riding (putPack mv s) else putPack mv s
    | .restoring => if mv ≤ 4500 then putMonitor .outage (putPack mv s) else putPack mv s
    | .riding | .outage => putPack mv s := by
  unfold packFalls
  refine (if_neg (by simp [alive])).trans ?_
  simp only [putPack_fields]
  cases s.monitor.state <;> rfl

theorem packRises_eq : packRises mv s =
    match s.monitor.state with
    | .riding =>
      if 4500 < mv then settle (takeDeferred (putMonitor .supplied (putPack mv s))) else putPack mv s
    | .outage => if 4500 < mv then timeMonitor .restoring (putPack mv s) else putPack mv s
    | .supplied | .restoring => putPack mv s := by
  unfold packRises
  refine (if_neg (by simp [alive])).trans ?_
  simp only [putPack_fields]
  cases s.monitor.state <;> rfl

end Pack

/-- Settles O48: the monitor moves by its table, and the return takes the deferred reading. -/
theorem supplyMonitorFollowsThePack : Obligations.SupplyMonitorFollowsThePack := by
  intro mv s alive p timed
  have falls : exec (.packFall mv) s = .next (s.put (packFalls mv s.part)) := rfl
  have rises : exec (.packRise mv) s = .next (s.put (packRises mv s.part)) := rfl
  have timedEq (state : SupplyState) : timeMonitor state (putPack mv s.part) = timed state :=
    timeMonitor_eq state _
  refine ⟨fun at_ => ?_, fun at_ => ?_, fun at_ => ?_, fun at_ => ?_, fun at_ => ?_,
    fun at_ low => ?_, fun at_ high => ?_⟩
  · rw [falls, packFalls_eq alive, at_]
    simp only [timedEq]
    rfl
  · rw [falls, packFalls_eq alive, at_]
    rfl
  · rw [falls, packFalls_eq alive]
    rcases at_ with at_ | at_ <;> rw [at_] <;> rfl
  · rw [rises, packRises_eq alive, at_]
    simp only [timedEq]
    rfl
  · rw [rises, packRises_eq alive]
    rcases at_ with at_ | at_ <;> rw [at_] <;> rfl
  · rw [rises, packRises_eq alive, at_]
    simp only [if_neg (Nat.not_lt.mpr low)]
    rfl
  · rw [rises, packRises_eq alive, at_]
    simp only [if_pos high]
    have taken := takeDeferred_kept (b := false) (putMonitor .supplied (putPack mv s.part))
    have tail := settle_kept (b := false) (takeDeferred (putMonitor .supplied (putPack mv s.part)))
    obtain ⟨deadline, lastDue, deferred⟩ :=
      takeDeferred_cadence (putMonitor .supplied (putPack mv s.part))
    refine ⟨_, rfl, rfl, (taken.trans tail).monitor, tail.cadence.2.2.trans deferred,
      tail.cadence.1.trans deadline, tail.cadence.2.1.trans lastDue, ?_, fun alone op => ?_⟩
    · exact (taken.trans tail).ownSupply (s := p)
    · have alone' : (putMonitor .supplied (putPack mv s.part)).Alone := alone
      obtain ⟨undeferred, reading⟩ := settle_takeDeferred_alone alone' op
      refine ⟨undeferred, fun held quiet => ?_, fun l held confirmed engine => ?_⟩
      · refine (reading held (.inl quiet)).trans ?_
        have none : (putMonitor .supplied (putPack mv s.part)).periodicJudgement.confirmed = none := quiet
        rw [none]
        rfl
      · refine (reading held (.inr engine)).trans ?_
        have anew : (putMonitor .supplied (putPack mv s.part)).periodicJudgement = ⟨0, 0, some l⟩ :=
          judge_confirmed confirmed
        rw [anew]
        rfl

end Sys2Proof.Machine


/-! PROOFS. A grant with CAM_PWR off and with it on, and the tail of a step that takes the loaded reading
of one; the periodic reading that is due. -/

namespace Sys2Proof.Machine

/-! ### The grant (R89, R90) -/

/-- What a grant to a source leaves beside its operation (R90, R129). -/
def Part.granted (s : Part) (src : Source) : Part :=
  { s with
    arbiter :=
      if src = .external then { s.arbiter.clear src with lastExternal := some s.time.elapsed }
      else s.arbiter.clear src
    holders := s.holdersAtGrant
    lending := { s.lending with wake := none } }

section Grant

variable {s : Part} {src : Source} {q : Request}

theorem arbiterTest_grants (may : s.mayGrant = true) (takes : s.candidate = some src) :
    arbiterTest s = grant src s := by
  unfold arbiterTest
  rw [if_pos may]
  split
  · next other held => rw [Option.some.inj (takes.symm.trans held)]
  · next none => cases takes.symm.trans none

/-- With CAM_PWR off the operation enters WAKING, and may ask for a loaded reading (R92, R142). -/
theorem grant_off (slot : s.arbiter.slot src = some q) (off : s.camPwr = false) :
    grant src s = { s.granted src with
      op := some { s.formOperation src q with
        askReading := !s.rehearsal && s.monitor.state == .supplied } } := by
  unfold grant
  split
  · next none => cases slot.symm.trans none
  · next held =>
    cases slot.symm.trans held
    exact if_neg (by simp [off])

/-- With CAM_PWR on the operation passes on at once (R92). -/
theorem grant_on (slot : s.arbiter.slot src = some q) (on : s.camPwr = true) :
    grant src s = leaveWaking (s.formOperation src q)
      { s.granted src with op := some (s.formOperation src q) } := by
  unfold grant
  split
  · next none => cases slot.symm.trans none
  · next held =>
    cases slot.symm.trans held
    exact if_pos on

theorem slot_of_candidate (takes : s.candidate = some src) : ∃ q, s.arbiter.slot src = some q := by
  have picked (best : Option Source) (other : Source)
      (h : ∀ src, best = some src → (s.arbiter.slot src).isSome = true) :
      ∀ src, s.pick best other = some src → (s.arbiter.slot src).isSome = true := by
    intro src taken
    unfold Part.pick at taken
    split at taken
    · next pending =>
      have here : (s.arbiter.slot other).isSome = true := (Bool.and_eq_true_iff.mp pending).1
      split at taken
      · cases taken
        exact here
      · split at taken
        · cases taken
          exact here
        · exact h src taken
    · exact h src taken
  exact Option.isSome_iff_exists.mp (picked _ _ (picked _ _ (picked none _ (by simp))) src takes)

/-- A test of the arbiter grants nothing, or it is the grant of a pending request. -/
theorem arbiterTest_cases (s : Part) : arbiterTest s = s ∨
    ∃ src q, s.mayGrant = true ∧ s.candidate = some src ∧ s.arbiter.slot src = some q ∧
      arbiterTest s = grant src s := by
  by_cases may : s.mayGrant = true
  · cases takes : s.candidate with
    | none =>
      refine .inl ?_
      unfold arbiterTest
      rw [if_pos may, takes]
    | some src =>
      obtain ⟨q, slot⟩ := slot_of_candidate takes
      exact .inr ⟨src, q, may, rfl, slot, arbiterTest_grants may takes⟩
  · exact .inl (if_neg may)

/-- No loaded reading is asked for with CAM_PWR on, in rehearsal, or out of SUPPLIED (R142). -/
theorem granted_unasked {s : Part} (h : ∀ o ∈ s.op, o.askReading = false)
    (quiet : s.camPwr = true ∨ s.rehearsal = true ∨ s.monitor.state ≠ .supplied) :
    ∀ o ∈ (raiseAndGrant s).op, o.askReading = false := by
  have raised := raiseSchedule_kept (b := true) s
  have same : (raiseSchedule s).camPwr = s.camPwr := by
    unfold raiseSchedule fillSchedule
    repeat' split
    all_goals rfl
  unfold raiseAndGrant
  rcases arbiterTest_cases (raiseSchedule s) with same' | ⟨src, q, may, -, slot, grants⟩
  · rw [same', raiseSchedule_op]
    exact h
  · rw [grants]
    cases power : (raiseSchedule s).camPwr with
    | true =>
      rw [grant_on slot power]
      obtain ⟨x, held, fixed⟩ := (leaveWaking_granting (s := { (raiseSchedule s).granted src with
        op := some ((raiseSchedule s).formOperation src q) }) rfl).op _ rfl
      intro o ho
      cases held.symm.trans ho
      exact congrArg Operation.askReading fixed
    | false =>
      rw [grant_off slot power]
      intro o ho
      cases ho
      simp only [raised.rehearsal, raised.monitor]
      rcases quiet with on | rehearsal | elsewhere
      · rw [← same, power] at on
        cases on
      · simp [rehearsal]
      · simp [elsewhere]

end Grant

/-- With CAM_PWR on, or where no reading is asked for, the tail of a step takes none (R142). -/
theorem settle_granting_of_quiet {s : Part} (h : ∀ o ∈ s.op, o.askReading = false)
    (quiet : s.camPwr = true ∨ s.rehearsal = true ∨ s.monitor.state ≠ .supplied) :
    Granting s (settle s) := settle_granting (granted_unasked h quiet)

theorem sample_congr {s t : Part} (pins : t.pins = s.pins) (tables : t.tables = s.tables)
    (kind : ReadingKind) : t.sample kind = s.sample kind := by
  simp only [Part.sample, pins, tables]

/-- What a reading makes of the supervisor depends on its record and the settings alone. -/
theorem judgeReading_battery_congr {s t : Part} (battery : t.battery = s.battery)
    (tables : t.tables = s.tables) (r : BatteryReading) :
    (judgeReading r t).battery = (judgeReading r s).battery := by
  rw [judgeReading_battery rfl, judgeReading_battery rfl, battery, tables]

/-- The loaded reading of an operation that asks for it (R142). -/
theorem takeLoaded_reads {s : Part} {o : Operation} (h : s.op = some o) (asks : o.askReading = true) :
    ∃ x, (takeLoaded s).op = some x ∧
      x.fixed = { o.fixed with askReading := false, volts := some (s.sample .loaded).volts } ∧
      (takeLoaded s).battery = (judgeReading (s.sample .loaded) s).battery := by
  rw [takeLoaded_asked h asks]
  obtain ⟨x, held, fixed⟩ := (judgeReading_regrading (s.sample .loaded)
    { s with op := some { o with
      askReading := false, volts := some (s.sample .loaded).volts } }).op _ rfl
  refine ⟨x, held, fixed, ?_⟩
  refine judgeReading_battery_congr ?_ ?_ _ <;> rfl

/-- The tail of a step that grants a request with CAM_PWR off: the operation of the grant, with the
loaded reading where one is asked for (R142). -/
theorem settle_grant_off {s : Part} {src : Source} {q : Request}
    (may : (raiseSchedule s).mayGrant = true) (takes : (raiseSchedule s).candidate = some src)
    (slot : (raiseSchedule s).arbiter.slot src = some q) (off : s.camPwr = false) :
    ∃ o, (settle s).op = some o ∧ o.source = src ∧ o.request = q ∧ o.askReading = false ∧
      ((!s.rehearsal && s.monitor.state == .supplied) = false →
        Granting s (settle s) ∧ o.volts = s.battery.latest.map (·.volts)) ∧
      ((!s.rehearsal && s.monitor.state == .supplied) = true →
        o.volts = some (s.sample .loaded).volts ∧
        (settle s).battery = (judgeReading (s.sample .loaded) s).battery) := by
  have raised := raiseSchedule_kept (b := true) s
  have raises := raiseSchedule_granting s
  have power : (raiseSchedule s).camPwr = false := by
    rw [← off]
    unfold raiseSchedule fillSchedule
    repeat' split
    all_goals rfl
  have granted := (arbiterTest_grants may takes).trans (grant_off slot power)
  rw [raised.rehearsal, raised.monitor] at granted
  cases asks : (!s.rehearsal && s.monitor.state == .supplied) with
  | false =>
    rw [asks] at granted
    have unasked : ∀ o ∈ (raiseAndGrant s).op, o.askReading = false := by
      unfold raiseAndGrant
      rw [granted]
      rintro o ⟨⟩
      rfl
    have whole := settle_granting unasked
    have rest := restOfTail_granting (takeLoaded (raiseAndGrant s))
    rw [takeLoaded_unasked unasked] at rest
    obtain ⟨o, held, fixed⟩ := rest.op _ (congrArg Part.op granted)
    refine ⟨o, ?_, congrArg Operation.source fixed, congrArg Operation.request fixed,
      congrArg Operation.askReading fixed, fun _ => ⟨whole, ?_⟩, by simp⟩
    · rw [settle_eq, takeLoaded_unasked unasked]
      exact held
    · refine (congrArg Operation.volts fixed).trans ?_
      exact congrArg (fun b : Battery => b.latest.map (·.volts)) raises.battery
  | true =>
    rw [asks] at granted
    have tail := raiseAndGrant_kept (b := true) s
    obtain ⟨x, held, fixed, battery⟩ :=
      takeLoaded_reads (s := raiseAndGrant s) (congrArg Part.op granted) rfl
    have rest := restOfTail_granting (takeLoaded (raiseAndGrant s))
    obtain ⟨o, held', fixed'⟩ := rest.op x held
    have same := fixed'.trans fixed
    rw [sample_congr tail.pins tail.tables] at same battery
    refine ⟨o, held', congrArg Operation.source same, congrArg Operation.request same,
      congrArg Operation.askReading same, by simp, fun _ => ⟨congrArg Operation.volts same, ?_⟩⟩
    rw [settle_eq, rest.battery, battery]
    exact judgeReading_battery_congr (raiseAndGrant_granting s).battery tail.tables _

/-! ### The periodic deadline (R141) -/

/-- The supervisor timed on from a deadline that is reached, before the reading (R141). -/
def Part.rechecked (s : Part) (d : Elapsed) : Part :=
  { s with battery := { s.battery with
      lastDue := d, deadline := some (d + BitVec.ofNat 48 (4096 * s.tables.supply.checkPeriod)) } }

theorem periodicDue_eq (d : Elapsed) (s : Part) : periodicDue d s =
    if s.monitor.state = .riding then
      { s.rechecked d with battery := { (s.rechecked d).battery with deferred := true } }
    else takePeriodic (s.rechecked d) := by
  simp only [periodicDue, eighths_eq]
  rfl

/-- A reading taken where nothing else goes on, with the tail of its step. -/
theorem settle_takePeriodic_alone {s : Part} (alone : s.Alone) (op : s.op = none)
    (quiet : s.periodicJudgement.confirmed = none ∨ s.engine = .disarmed) :
    (settle (takePeriodic s)).battery = { s.battery with
      latest := some (s.sample .periodic)
      worse := s.periodicJudgement.worse, better := s.periodicJudgement.better
      level := s.periodicJudgement.confirmed.getD s.battery.level } := by
  obtain ⟨alone', op'⟩ := judgeReading_alone (r := s.sample .periodic) alone op quiet
  have still : settle (takePeriodic s) = judgeReading (s.sample .periodic) s := settle_alone alone' op'
  rw [still]
  exact judgeReading_battery (j := s.periodicJudgement) rfl

/-- Settles O47: by the tail that a grant leaves, and by the deadline that is reached. -/
theorem batteryReadingsKeepTheirPeriod : Obligations.BatteryReadingsKeepTheirPeriod := by
  refine ⟨fun s src q => ?_, fun s on unasked => (settle_granting_of_quiet unasked (.inl on)).battery,
    fun s d mv celsius awake stands out => ?_⟩
  · intro raised may takes slot off v t e reading j
    obtain ⟨o, held, source, request, unasked, without, loaded⟩ := settle_grant_off may takes slot off
    refine ⟨o, held, source, request, unasked, fun quiet => ?_, fun out supplied => ?_⟩
    · obtain ⟨granting, volts⟩ := without (by rcases quiet with h | h <;> simp [h])
      exact ⟨granting.battery, volts⟩
    · obtain ⟨volts, battery⟩ := loaded (by simp [out, supplied])
      exact ⟨volts, battery.trans (judgeReading_battery (j := j) rfl)⟩
  · intro pins next v t e reading j
    have taken : exec (.batteryPeriodicDeadline mv celsius) s =
        .next (s.put (settle (periodicDue d (putSense mv celsius s.part)))) :=
      exec_expiry (due := fun p => p.battery.deadline)
        (f := fun d p => periodicDue d (putSense mv celsius p)) rfl awake stands out
    rw [periodicDue_eq] at taken
    refine ⟨fun riding => ?_, fun supplied => ?_⟩
    · rw [taken, if_pos (by exact riding)]
      rfl
    · rw [if_neg (by exact supplied)] at taken
      have kept := (takePeriodic_kept (b := false) ((putSense mv celsius s.part).rechecked d)).trans
        (settle_kept _)
      refine ⟨_, taken, rfl, ?_, kept.cadence.1, kept.cadence.2.1, fun unconfirmed op alone => ?_,
        fun l confirmed op alone engine => ?_⟩
      · exact Kept.ownBattery (s := { s.part with pins := pins }) kept
      · have none : ((putSense mv celsius s.part).rechecked d).periodicJudgement.confirmed = none :=
          unconfirmed
        refine (settle_takePeriodic_alone (s := (putSense mv celsius s.part).rechecked d) alone op
          (.inl none)).trans ?_
        rw [none]
        rfl
      · have anew : ((putSense mv celsius s.part).rechecked d).periodicJudgement = ⟨0, 0, some l⟩ :=
          judge_confirmed confirmed
        refine (settle_takePeriodic_alone (s := (putSense mv celsius s.part).rechecked d) alone op
          (.inr engine)).trans ?_
        rw [anew]
        rfl

end Sys2Proof.Machine


/-! PROOFS. The clock set by the host and the clock past the end of its range: what the settling of a due
leaves alone, the done mark on a stepped clock, what a trim boundary shortly before the end adds beyond
it, and what R5 clears. -/

namespace Sys2Proof.Machine

/-! ### SET_CLOCK (R9, R11, R12) -/

theorem putClock_kept {b : Bool} (seconds : Nat) (s : Part) :
    Kept b
      { s with time :=
          { s.time with
            instant := seconds * Config.ticksPerSecond, clock := .set
            boundarySeen := seconds * Config.ticksPerSecond
            midnightSeen := seconds * Config.ticksPerSecond } }
      (putClock seconds s) := retimeMark_kept _

theorem moveDue_kept {b : Bool} (due : Nat) (r : Run) (s : Part) : Kept b s (moveDue due r s) :=
  kept_edit s

theorem settleDue_kept {b : Bool} (old : Nat) (s : Part) : Kept b s (settleDue old s) := by
  unfold settleDue
  split
  · exact .refl s
  · split_ifs
    · exact .refl s
    · exact kept_edit s
    · exact catchUp_kept _ s
    · dsimp only
      split
      · split_ifs
        · exact (moveDue_kept _ _ _).via (kept_edit s)
        · exact kept_edit s
      · exact kept_edit s

theorem endReachedWaiting_kept {b : Bool} (s : Part) : Kept b s (endReachedWaiting s) := by
  unfold endReachedWaiting
  split
  · dsimp only
    split
    · exact (endWaiting_kept _).via (kept_edit s)
    · exact kept_edit s
  · exact .refl s

theorem stepClock_kept {b : Bool} (seconds : Nat) (s : Part) :
    Kept b (putClock seconds s) (stepClock seconds s) := by
  unfold stepClock
  dsimp only
  split
  · exact reEvaluate_kept _
  · exact (withdrawSchedule_kept _).trans ((settleDue_kept _ _).trans ((noteNextDue_kept _).trans
      ((endReachedWaiting_kept _).trans (reEvaluate_kept _))))

/-- With no run a step of the clock only moves the marks and re-evaluates. -/
theorem stepClock_noRun {s : Part} (run : s.run = none) (seconds : Nat) :
    stepClock seconds s = reEvaluate (putClock seconds s) ∨
      stepClock seconds s = reEvaluate (withdrawSchedule (putClock seconds s)) := by
  have due (t : Part) (h : t.run = none) : endReachedWaiting (noteNextDue (settleDue s.now t)) = t := by
    have settled : settleDue s.now t = t := by simp only [settleDue, h]
    have noted : noteNextDue t = t := by simp only [noteNextDue, h]
    rw [settled, noted]
    simp only [endReachedWaiting, h]
  unfold stepClock
  dsimp only
  split
  · exact .inl rfl
  · rw [due _ (by exact run)]
    exact .inr rfl

theorem nextMidnight_eq (seconds : Nat) :
    nextSecondOfDay (seconds * Config.ticksPerSecond) 0 =
      (seconds / 86400 + 1) * 86400 * Config.ticksPerSecond := by
  have midnight := midnightMoment_eq { Part.coldStart with time := { Part.coldStart.time with
    midnightSeen := seconds * Config.ticksPerSecond } }
  have next := Option.some.inj midnight
  refine next.trans ?_
  simp only [Config.ticksPerSecond]
  omega

/-- A done mark that a stepped clock leaves (R39). -/
theorem settle_stepClock_mark {s : Part} {seconds : Nat} (run : s.run = none) {m : DoneMark}
    (marked : (settle (stepClock seconds s)).doneMark = some m) :
    ∃ old, s.doneMark = some old ∧ m.window = old.window ∧
      seconds * Config.ticksPerSecond < m.stop ∧
      m.stop = if (s.tables.windows.get m.window).startSod = (s.tables.windows.get m.window).endSod then
        min old.stop ((seconds / 86400 + 1) * 86400 * Config.ticksPerSecond) else old.stop := by
  have stepped : ∃ sel now, now = seconds * Config.ticksPerSecond ∧
      (stepClock seconds s).doneMark = markAfter sel now (putClock seconds s).doneMark := by
    rcases stepClock_noRun run seconds with same | same
    · exact ⟨_, _, rfl, by rw [same]; exact reEvaluate_doneMark (.inr (by exact run))⟩
    · exact ⟨_, _, rfl, by
        rw [same]; exact reEvaluate_doneMark (s := withdrawSchedule (putClock seconds s)) (.inr run)⟩
  obtain ⟨sel, now, at_, after⟩ := stepped
  have kept : (stepClock seconds s).doneMark = some m := by
    rcases settle_doneMark (stepClock seconds s) with same | gone
    · rw [← same, marked]
    · cases marked.symm.trans gone
  obtain ⟨retimed, ahead⟩ := markAfter_eq_some (after.symm.trans kept)
  have retimed : s.doneMark.map (fun m =>
      if (s.tables.windows.get m.window).wholeDay then
        { m with stop := min m.stop (nextSecondOfDay (seconds * Config.ticksPerSecond) 0) }
      else m) = some m := retimed
  rw [nextMidnight_eq] at retimed
  obtain ⟨old, held, moved⟩ := Option.map_eq_some_iff.mp retimed
  refine ⟨old, held, ?_⟩
  rw [← at_]
  split at moved
  · next whole =>
    subst moved
    have same : (s.tables.windows.get old.window).startSod = (s.tables.windows.get old.window).endSod := by
      simpa [Window.wholeDay] using whole
    exact ⟨rfl, ahead, (if_pos same).symm⟩
  · next part =>
    subst moved
    have other : ¬ (s.tables.windows.get old.window).startSod =
      (s.tables.windows.get old.window).endSod := by simpa [Window.wholeDay] using part
    exact ⟨rfl, ahead, (if_neg other).symm⟩

/-- Settles O6: the clock is put and stepped, and the trim is clamped. -/
theorem clockAndTrimAreSet : Obligations.ClockAndTrimAreSet := by
  refine ⟨fun p s awake empty length => ⟨fun range => ?_, fun beyond => ?_⟩,
    fun p s awake empty length => ?_⟩
  · have done := exec_done (c := .setClock p) (s := s) (code := 0x02#8) (payload := p)
      (f := handleSetClock p) (r := .ok (oldClockData s.part))
      (p := stepClock (fieldNat 0 4 p) s.part) rfl awake empty
      (by simp only [handleSetClock, length, ne_eq, not_true_eq_false, if_false]
          exact if_neg (Nat.not_lt.mpr range))
    have kept := (stepClock_kept (b := false) (fieldNat 0 4 p) s.part).trans (settle_kept _)
    have whole := (putClock_kept (b := false) (fieldNat 0 4 p) s.part).trans kept
    have now : (settle (stepClock (fieldNat 0 4 p) s.part)).time.instant =
      fieldNat 0 4 p * Config.ticksPerSecond := congrArg TimeBase.instant whole.time
    refine ⟨_, done, rfl, now, congrArg TimeBase.clock whole.time, ?_, ?_, fun run m marked => ?_⟩
    · rw [oldClockData, putInstant_eq]
      cases s.part.time.clock <;> rfl
    · have at_ : (s.put (startReply ⟨0x02#8, p⟩ (.ok (oldClockData s.part))
        (settle (stepClock (fieldNat 0 4 p) s.part)))).part.now =
          fieldNat 0 4 p * Config.ticksPerSecond := now
      rw [at_]
      exact whole.startReply _ _
    · obtain ⟨old, held, window, ahead, stop⟩ := settle_stepClock_mark run marked
      exact ⟨old, held, window, by rw [← now] at ahead; exact ahead, stop⟩
  · exact exec_answered rfl awake empty (by
      simp only [handleSetClock, length, ne_eq, not_true_eq_false, if_false]
      exact if_pos beyond)
  · rw [exec_handled (f := handleSetTrim p) rfl awake empty]
    simp only [handleSetTrim, length, ne_eq, not_true_eq_false, if_false]
    rw [clampInt_eq (by decide)]
    have same : max (-1023) (min 1023 (fieldInt 0 2 p)) = fieldInt 0 2 p ↔
        -1023 ≤ fieldInt 0 2 p ∧ fieldInt 0 2 p ≤ 1023 := by omega
    simp only [same]

/-! ### The end of the calendar (R5, R6) -/

section Beyond

variable {t : TimeBase} {n : Nat}

/-- A boundary within the ticks, before their end, adds what its trim leaves beyond them (R6). -/
theorem trimBeyond_of_boundary (trim : t.trim ≤ 1023) {a : Nat} (within : a < n) (near : n ≤ a + 33554432)
    (boundary : (t.elapsed + BitVec.ofNat 48 a).toNat % 33554432 = 0)
    (taken : 0 < a ∨ t.trimTaken = false) : t.trimBeyond n = t.trim.toNat - (n - a) := by
  have start := elapsed_add_mod t.elapsed a
  have past := elapsed_add_mod t.elapsed n
  simp only [Config.trimSpacing] at start past
  unfold TimeBase.trimBeyond
  simp only [Config.trimSpacing, past]
  rcases taken with after | untaken
  · split_ifs with at_
    · omega
    · omega
  · simp only [untaken, and_true]
    split_ifs with at_
    · omega
    · omega

/-- With no boundary within the ticks nothing is added (R6). -/
theorem trimBeyond_of_none
    (h : ∀ a, a < n → (0 < a ∨ t.trimTaken = false) →
      (t.elapsed + BitVec.ofNat 48 a).toNat % 33554432 ≠ 0) : t.trimBeyond n = 0 := by
  have past := elapsed_add_mod t.elapsed n
  have start := elapsed_add_mod t.elapsed (n - (t.elapsed.toNat + n) % 33554432)
  simp only [Config.trimSpacing] at start past
  unfold TimeBase.trimBeyond
  simp only [Config.trimSpacing, past]
  refine if_neg fun at_ => ?_
  obtain ⟨some, within⟩ := at_
  refine h (n - (t.elapsed.toNat + n) % 33554432) (by omega) ?_ (by omega)
  rcases within with inside | ⟨edge, untaken⟩
  · exact .inl (by omega)
  · exact .inr untaken

end Beyond

/-- The part past the end of its range, before the engine is disarmed (R5, R39). -/
def Part.pastEnd (s : Part) : Part :=
  withdrawSchedule (raiseNotice .clockNeeded (some Config.lastSecond) (markPastEnd
    { s with time := { s.time with clock := .notSet, boundarySeen := 0, midnightSeen := 0 } }))

theorem calendarEnds_eq (s : Part) : calendarEnds s =
    if (disarm s.pastEnd).awaitingDue then cutOperation .aborted (disarm s.pastEnd)
    else disarm s.pastEnd := rfl

theorem pastEnd_fields (s : Part) :
    s.pastEnd.time = { s.time with clock := .notSet, boundarySeen := 0, midnightSeen := 0 } ∧
    s.pastEnd.tables = s.tables ∧ s.pastEnd.gates = s.gates ∧ s.pastEnd.run = s.run ∧
    s.pastEnd.op = s.op ∧ s.pastEnd.arbiter = { s.arbiter with schedule := none } ∧
    s.pastEnd.lending = s.lending ∧ s.pastEnd.journal = s.journal ∧
    s.pastEnd.doneMark =
      (s.doneMark.map (fun m => { m with stop := m.stop - Config.calendarSpan })).filter
        (fun m => decide (s.now < m.stop)) := by
  rw [Part.pastEnd, raiseNotice_eq]
  exact ⟨rfl, rfl, rfl, rfl, rfl, rfl, rfl, rfl, rfl⟩

theorem calendarEnds_kept (s : Part) :
    Kept true { s.pastEnd with engine := .disarmed } (calendarEnds s) := by
  rw [calendarEnds_eq]
  split
  · exact (disarm_kept _).trans (cutOperation_kept _ _)
  · exact disarm_kept _

/-- With no operation an end of the calendar ends the run as a DISARM does (R5). -/
theorem calendarEnds_still {s : Part} (op : s.op = none) : calendarEnds s = disarm s.pastEnd := by
  rw [calendarEnds_eq]
  refine if_neg ?_
  have gone : (disarm s.pastEnd).op = none := by
    obtain ⟨-, -, -, -, kept, -⟩ := pastEnd_fields s
    exact (endRun_frame (fed := none) _).op.trans
      ((setEngine_disarmed_fields _).2.1.trans (kept.trans op))
  simp [Part.awaitingDue, gone]

/-- A run that ends by DISARM, and not by its end action, leaves the marks (R39). -/
theorem disarm_doneMark {s : Part} (op : s.op = none) (h : ∀ r ∈ s.run, r.byEndAction = false) :
    (disarm s).doneMark = s.doneMark := by
  obtain ⟨run, ops, -⟩ := setEngine_disarmed_fields s
  have mark : (setEngine .disarmed s).doneMark = s.doneMark := by simp [setEngine, forgetWake]
  cases held : s.run with
  | none =>
    have gone : (setEngine .disarmed s).run = none := by rw [run, held]; rfl
    have ends : disarm s = setEngine .disarmed s :=
      (if_neg (by simp [ops, op])).trans (finishRun_noRun gone)
    rw [ends, mark]
  | some r =>
    have here : (setEngine .disarmed s).run = some { r with wakeReached := false } := by
      rw [run, held]; rfl
    have ends : disarm s = _ := endRun_still (ops.trans op) here
    rw [ends, raiseNotice_eq]
    exact (endMark_noAction (s := setEngine .disarmed s) (r := { r with wakeReached := false })
      (h r held)).trans mark

/-- Ticks that reach the end of the range bring R5, with the clock at what the trim adds beyond it. -/
theorem passTime_toEnd {s : Part} (lawful : s.time.Lawful) :
    let left := Config.calendarSpan - s.now
    let beyond := s.time.trimBeyond left
    ∃ time, time.instant = beyond ∧
      time.elapsed = s.time.elapsed + BitVec.ofNat 48 (left + beyond) ∧ time.trim = s.time.trim ∧
      passTime left s = calendarEnds { s with time := time } := by
  intro left beyond
  obtain ⟨range, ⟨-, high⟩, -⟩ := lawful
  have small : beyond ≤ 1023 := (trimBeyond_le _ _).trans (by omega)
  have span : Config.calendarSpan = 3155760000 * 32768 := rfl
  have now : s.now = s.time.instant := rfl
  have rest : left = Config.calendarSpan - s.now := rfl
  have reaches : s.time.instant + (left + beyond) = Config.calendarSpan + beyond := by omega
  refine ⟨{ s.time with
    instant := (s.time.instant + (left + beyond)) % Config.calendarSpan
    elapsed := s.time.elapsed + BitVec.ofNat 48 (left + beyond)
    withheld := if left + beyond = 0 then s.time.withheld else 0
    trimTaken := s.time.trimTaken && left + beyond == 0 }, ?_, rfl, rfl, ?_⟩
  rotate_left
  · exact if_neg (by rw [reaches]; omega)
  show (s.time.instant + (left + beyond)) % Config.calendarSpan = beyond
  rw [reaches, Nat.add_mod_left, Nat.mod_eq_of_lt (by omega)]

/-- Settles O5: the ticks to the end bring R5, whose part the tail leaves. -/
theorem calendarEndClearsTheClock : Obligations.CalendarEndClearsTheClock := by
  intro s alive lawful unmasked left beyond
  obtain ⟨time, instant, elapsed, trim, passes⟩ := passTime_toEnd lawful
  obtain ⟨timePast, tables, gates, runPast, opPast, arbiter, lending, journalPast, mark⟩ :=
    pastEnd_fields { s.part with time := time }
  have whole := (calendarEnds_kept { s.part with time := time }).trans (settleIfAwake_kept _)
  have taken : exec .calendarEnd s = .next (s.put (settleIfAwake
      (calendarEnds { s.part with time := time }))) := by
    have step : passCalendarEnd s.part = settleIfAwake (passTime left s.part) :=
      if_neg (by simp [alive])
    rw [← passes, ← step]
    rfl
  have clock := whole.time.trans timePast
  obtain ⟨-, ⟨-, high⟩, -⟩ := lawful
  refine ⟨_, taken, rfl, fun a within near boundary => trimBeyond_of_boundary high within near boundary,
    fun none => trimBeyond_of_none none, ?_, congrArg TimeBase.clock clock, whole.engine, ?_, ?_,
    whole.tables.trans tables, whole.gates.trans gates, ?_,
    fun still => ?_⟩
  · exact (congrArg TimeBase.instant clock).trans instant
  · exact (congrArg TimeBase.elapsed clock).trans elapsed
  · exact (congrArg TimeBase.trim clock).trans trim
  · obtain ⟨n, shows, detail, last⟩ := raiseNotice_shows (k := .clockNeeded)
      (s := markPastEnd { s.part with time := { time with
        clock := .notSet, boundarySeen := 0, midnightSeen := 0 } }) unmasked (some Config.lastSecond)
    exact ⟨n, (whole.rare .clockNeeded rfl).trans shows, detail, last.trans instant⟩
  · obtain ⟨op, external, manual, port⟩ := still
    have stillPast : (Part.pastEnd { s.part with time := time }).Still := by
      simp only [Part.Still, opPast, arbiter, lending]
      exact ⟨op, external, manual, port⟩
    obtain ⟨run, schedule, still', journal⟩ := disarm_still stillPast
    have ends := calendarEnds_still (s := { s.part with time := time }) op
    have tail : settleIfAwake (calendarEnds { s.part with time := time }) =
        disarm (Part.pastEnd { s.part with time := time }) := by
      rw [ends]
      unfold settleIfAwake
      split
      · exact settle_still still' schedule (raiseSchedule_noRun run)
      · rfl
    rw [tail]
    refine ⟨still'.1, run, schedule, journal.trans journalPast, ?_⟩
    intro m marked action ended
    refine (disarm_doneMark stillPast.1 ?_).trans ?_
    · rw [runPast]
      exact action
    · have at_ : ({ s.part with time := time } : Part).now = beyond := instant
      rw [mark, marked, at_]
      simp only [Option.map_some, Option.filter_some]
      rw [if_neg (by simp; omega)]

end Sys2Proof.Machine


/-! PROOFS. Requests raised, merged, withdrawn and missed, and the meter's deadlines: SHOOT and a trigger
edge by their tables, the late deadlines of requests and of a due, the periodic reading and the gates. -/

namespace Sys2Proof.Machine

/-! ### SHOOT and the trigger (R86, R87) -/

/-- Settles O32: by the first line of the table that applies. -/
theorem shootFollowsItsTable : Obligations.ShootFollowsItsTable := by
  intro p s awake empty answer
  have answers {r : Reply} (h : handleShoot p s.part = only r s.part) : answer r :=
    exec_answered rfl awake empty h
  refine ⟨fun length => answers ?_, fun length beyond => answers ?_, fun i length slot => ?_⟩
  · simp only [handleShoot, if_pos length]
  · have right : ¬(p.length ≠ 1 ∧ p.length ≠ 3) := by omega
    have none : finOf? 16 (fieldNat 0 1 p) = none := by rw [finOf?_eq, if_neg (by omega)]
    simp only [handleShoot, if_neg right, none]
  · intro q badE
    have right : ¬(p.length ≠ 1 ∧ p.length ≠ 3) := by omega
    have here : finOf? 16 (fieldNat 0 1 p) = some i := by rw [slot, finOf?_fin]
    have explicit : (shootE p).any (fun v => decide (v < -96 ∨ 128 < v)) = true ↔ badE := by
      simp only [shootE, badE]
      split_ifs with three <;> simp [three]
    simp only [handleShoot, if_neg right, here, explicit] at answers
    refine ⟨fun none => answers (if_pos (by simp [none])), fun defined bad => answers ?_,
      fun defined good => ?_⟩
    · rw [if_neg (by simpa using Option.isSome_iff_ne_none.mp defined), if_pos bad]
    · have plan : ¬ (s.part.planAt i).isNone = true := by
        simpa using Option.isSome_iff_ne_none.mp defined
      simp only [if_neg plan, if_neg good] at answers
      refine ⟨fun pending => answers (if_pos pending), fun free => ?_⟩
      have slotFree : ¬ s.part.arbiter.manual.isSome = true := by simp [free]
      simp only [if_neg slotFree] at answers
      refine ⟨fun lent => answers (if_pos lent), fun owned => ?_⟩
      have port : ¬ s.part.lending.port ≠ .owned := by simp [owned]
      simp only [if_neg port] at answers
      refine ⟨fun suspended => answers (if_pos suspended), fun engine => ?_⟩
      simp only [if_neg engine] at answers
      refine ⟨fun critical => answers (if_pos critical), fun level => ?_⟩
      have accepted : exec (.shoot p) s = .next (s.put (startReply ⟨0x23#8, p⟩ .pending
          (settle (raiseManual i (shootE p) s.part)))) := by
        refine exec_done (f := handleShoot p) rfl awake empty ?_
        simp only [handleShoot, if_neg right, here, explicit, if_neg plan, if_neg good, if_neg slotFree,
          if_neg port, if_neg engine, if_neg level]
      refine ⟨_, accepted, rfl, rfl, ?_, fun o op unasked phase => ?_⟩
      · exact ((kept_edit s.part).trans (settle_kept (raiseManual i (shootE p) s.part))).startReply _ _
      · have owner : s.part.lending.port.hostSide = false := by rw [owned]; rfl
        show startReply ⟨0x23#8, p⟩ .pending (settle (raiseManual i (shootE p) s.part)) = _
        rw [settle_busy (s := raiseManual i (shootE p) s.part) op unasked phase owner]
        rfl

theorem matches_iff (k : EdgeKind) (rising : Bool) :
    k.matches_ rising = true ↔ (k = .rising ↔ rising = true) := by
  cases k <;> cases rising <;> simp [EdgeKind.matches_]

theorem heldOff_iff (s : Part) : s.heldOff = true ↔ ∃ g, s.arbiter.lastExternal = some g ∧
    (s.time.elapsed - g).toNat < s.tables.general.holdoff * 4096 := by
  unfold Part.heldOff
  cases s.arbiter.lastExternal with
  | none => simp
  | some g =>
    simp only [Option.some.injEq, exists_eq_left']
    exact decide_eq_true_iff

theorem takeEdge_kept {b : Bool} (s : Part) : Kept b s (takeEdge s) := by
  unfold takeEdge
  repeat' split
  all_goals first
    | exact .refl s
    | exact kept_edit s

/-- Settles O33: by the edge's kind, the trigger plan, and what holds a request back. -/
theorem triggerEdgesRaiseOrMerge : Obligations.TriggerEdgesRaiseOrMerge := by
  intro rising s awake p wanted
  have awake' : p.awake = true := awake
  have unwanted (h : ¬ wanted) : exec (.triggerEdge rising) s = .next (s.put p) := by
    have other : ¬ p.tables.general.triggerEdge.matches_ rising = true := by rwa [matches_iff]
    have kept : triggerBecomes rising s.part = p := if_neg other
    rw [← kept]
    rfl
  have taken (h : wanted) : exec (.triggerEdge rising) s = .next (s.put (settle (takeEdge p))) := by
    have edge : p.tables.general.triggerEdge.matches_ rising = true := by rwa [matches_iff]
    have kept : triggerBecomes rising s.part = whileAwake takeEdge p := if_pos edge
    rw [← whileAwake_awake awake', ← kept]
    rfl
  refine ⟨unwanted, fun h none => ?_, fun i h plan defined => ?_, ?_⟩
  · rw [taken h]
    have same : takeEdge p = p := by
      unfold takeEdge
      split
      · rfl
      · next i named =>
        have empty : p.planAt i = Option.none := by
          have named : s.part.tables.general.triggerPlan = some i := named
          rwa [named] at none
        exact if_pos (by simp [empty])
    rw [same]
  · intro held q
    have named : p.tables.general.triggerPlan = some i := plan
    have stored : ¬ (p.planAt i).isNone = true := by
      have : (p.planAt i).isSome = true := defined
      simpa using Option.isSome_iff_ne_none.mp this
    have holds : (p.arbiter.external.isSome || p.heldOff) = true ↔ held := by
      rw [Bool.or_eq_true, heldOff_iff]
    have edge : takeEdge p = if (p.arbiter.external.isSome || p.heldOff) = true then mergeEdge p
        else raiseExternal i p := by
      unfold takeEdge
      split
      · next none => cases named.symm.trans none
      · next j held =>
        cases named.symm.trans held
        exact if_neg stored
    rw [taken h, edge]
    exact ⟨fun waits => by rw [if_pos (holds.2 waits)]; rfl,
      fun free => by rw [if_neg (mt holds.1 free)]; rfl⟩
  · by_cases h : wanted
    · exact ⟨_, taken h, (takeEdge_kept p).trans (settle_kept _)⟩
    · exact ⟨_, unwanted h, .refl p⟩

/-! ### Late deadlines (R47, R88) -/

/-- The record and the slot of a held request that is withdrawn (R88). -/
def Part.withdrawn (s : Part) (src : Source) (reason : MissReason) (q : Request) : Part :=
  { s with
    journal := s.journal.append (missedRecord src q.plan none q.raisedAt
      (if src = .external then some s.arbiter.merged else none) reason false)
    arbiter :=
      if src = .external then { s.arbiter.clear src with merged := 0 } else s.arbiter.clear src }

theorem withdrawHeld_eq {s : Part} {src : Source} {q : Request} (slot : s.arbiter.slot src = some q)
    (reason : MissReason) : withdrawHeld src reason s =
      if src = .manual then
        raiseNotice .shootDone (some s.journal.numberFor) (s.withdrawn src reason q)
      else s.withdrawn src reason q := by
  unfold withdrawHeld
  split
  · next none => cases slot.symm.trans none
  · next held =>
    cases slot.symm.trans held
    rfl

theorem withdrawHeld_kept {b : Bool} (src : Source) (reason : MissReason) (s : Part) :
    Kept b s (withdrawHeld src reason s) := by
  cases slot : s.arbiter.slot src with
  | none => unfold withdrawHeld; simp only [slot]; exact .refl s
  | some q =>
    have gone : Kept b s (s.withdrawn src reason q) := (kept_edit _).via (appendRecord_kept _ rfl s)
    rw [withdrawHeld_eq slot]
    split
    · exact gone.trans (raiseNotice_kept _ _ _)
    · exact gone

/-- Settles O34: the record of a withdrawal, and the slot that it empties. -/
theorem lateRequestsAreWithdrawn : Obligations.LateRequestsAreWithdrawn := by
  refine ⟨fun _ _ _ _ _ _ _ => rfl, ⟨rfl, rfl⟩, fun q => by rw [Request.lateDeadline, eighths_eq],
    fun src q s awake slot out => ?_⟩
  intro merged journal
  have ends : Part.lateEnds src s.part = some q.lateDeadline := by rw [Part.lateEnds, slot]; rfl
  have taken : exec (.requestLateDeadline src) s =
      .next (s.put (settle (withdrawHeld (heldSource src) .busy s.part))) :=
    exec_expiry (f := fun _ => withdrawHeld (heldSource src) .busy) rfl awake ends out
  have recorded : (withdrawHeld (heldSource src) .busy s.part).journal = journal := by
    rw [withdrawHeld_eq slot, raiseNotice_eq]
    cases src <;> rfl
  refine ⟨_, taken, rfl, (withdrawHeld_kept _ _ _).trans (settle_kept _), ?_,
    fun run op port schedule => ⟨fun isExternal manual => ?_, fun isManual external => ?_⟩⟩
  · rw [← recorded]
    exact (settle_kept (b := true) _).journal
  · subst isExternal
    rw [withdrawHeld_eq slot, if_neg (by decide)]
    exact settle_alone ⟨run, schedule, rfl, manual, port⟩ op
  · subst isManual
    rw [withdrawHeld_eq slot, if_pos (by decide)]
    exact settle_alone (by rw [raiseNotice_eq]; exact ⟨run, schedule, external, rfl, port⟩)
      (by rw [raiseNotice_eq]; exact op)

/-- A run that is not ACTIVE in an ARMED engine takes no wake time (R75). -/
theorem noteNextDue_unserved {s : Part} (h : ∀ r ∈ s.run, s.serves r = false) : noteNextDue s = s := by
  unfold noteNextDue
  split
  · rfl
  · next r run => rw [if_neg (by simp [h r run])]

/-- After a consumption whose next due is not late, only its wake time is looked at (R44, R47). -/
theorem afterConsumption_ahead {s : Part} {r : Run} (run : s.run = some r)
    (ahead : s.now < r.lateInstant) : afterConsumption s = noteNextDue s := by
  obtain ⟨b, noted⟩ := noteNextDue_run s
  have now : (noteNextDue s).now = s.now := (noteNextDue_kept (b := true) s).now
  have onTime : (noteNextDue s).latePassed = false := by
    simp only [Part.latePassed, noted, run, Option.map_some, now]
    have later : ¬ r.lateInstant ≤ s.now := by omega
    simp only [Bool.and_eq_false_iff, decide_eq_false_iff_not]
    exact .inr later
  unfold afterConsumption
  simp only [Part.dueFuel, run, missPassed, onTime]
  rfl

theorem missReason_eq (s : Part) : s.missReason =
    if s.engine = .paused then .paused
    else if s.engine = .suspended then .cameraFault
    else if s.health.isRecovering = true then .recovering
    else if s.lending.port.hostSide = true then .lent
    else .busy := by
  have lent : s.lending.port = .lent ∨ s.lending.port = .reclaiming ↔
      s.lending.port.hostSide = true := by cases s.lending.port <;> simp [PortState.hostSide]
  simp only [Part.missReason, lent]

theorem dueGranted_iff (s : Part) :
    s.dueGranted = true ↔ ∃ o, s.op = some o ∧ o.source = .schedule ∧ o.settled = false := by
  unfold Part.dueGranted
  cases s.op <;> simp

theorem effectiveInterval_now {s t : Part} (tables : t.tables = s.tables) (battery : t.battery = s.battery)
    (p : Plan) (k : Nat) : t.effectiveInterval p k = s.effectiveInterval p k := by
  simp only [Part.effectiveInterval, Part.factor, tables, battery]

/-- Settles O26: the miss of a late due, and the run one interval on. -/
theorem dueIsMissedAtItsLateLimit : Obligations.DueIsMissedAtItsLateLimit := by
  refine ⟨fun s r => ⟨by rw [Run.lateInstant, eighths_eq], dueGranted_iff s⟩,
    fun s r awake run active ungranted late range => ?_⟩
  intro reason
  have moment : s.part.lateMoment = some r.lateInstant := by
    simp [Part.lateMoment, run, active, ungranted]
  have missed : missDue s.part = afterConsumption (consumeDue (.missed reason) s.part) := by
    rw [missDue, missReason_eq]
  have taken := exec_arrival (f := missDue) (c := .dueLateLimit) rfl awake moment late range
  obtain ⟨-, -, recorded, -, -⟩ := consumeMissed_lapses run reason
  have after := (afterConsumption_kept (b := false) (consumeDue (.missed reason) s.part)).trans
    (settle_kept _)
  rw [missed] at taken
  refine ⟨_, taken, rfl, (consumeDue_kept _ _).trans after, recorded ▸ after.journal, ?_⟩
  intro p still engine plan count ahead
  have consumed : consumeDue (.missed reason) s.part =
      { s.part.afterMiss r reason with run := some (s.part.consumed r p none) } := by
    rw [consumeDue_missed run, stepDue_goesOn (s := s.part.afterMiss r reason) run plan count]
    rfl
  have unserved : noteNextDue (consumeDue (.missed reason) s.part) =
      consumeDue (.missed reason) s.part := by
    refine noteNextDue_unserved fun n _ => ?_
    have outside : (consumeDue (.missed reason) s.part).engine ≠ .armed := by
      rw [(consumeDue_kept (b := true) _ _).engine]; exact engine
    simp [Part.serves, outside]
  have stands : settle (afterConsumption (consumeDue (.missed reason) s.part)) =
      { s.part.afterMiss r reason with run := some (s.part.consumed r p none) } := by
    rw [afterConsumption_ahead (r := s.part.consumed r p none) (by rw [consumed])
      (by rw [consumed]; exact ahead.trans_le (Nat.le_add_right _ _)), unserved, consumed]
    exact settle_notArmed still rfl engine
  rw [stands]
  exact ⟨_, rfl, rfl, rfl, rfl, rfl, rfl⟩

end Sys2Proof.Machine


/-! PROOFS. The ambient meter's deadlines: the periodic one, and the end of a gate by the table of R76. -/

namespace Sys2Proof.Machine

/-- The meter timed on from a periodic deadline that is reached, with the reading that an IDLE one begins
(R74). -/
def Part.remetered (s : Part) (d : Elapsed) : Meter :=
  { s.meter with
    lastDue := d
    deadline := d + BitVec.ofNat 48 (4096 * s.tables.general.meterPeriod)
    state :=
      if s.meter.state = .idle then
        .measuring ⟨s.meter.startGate, 0, s.after (gateTicks s.meter.startGate)⟩
      else s.meter.state
    count := if s.meter.state = .idle then 0 else s.meter.count }

theorem meterPeriodicDue_eq (d : Elapsed) (s : Part) :
    meterPeriodicDue d s = { s with meter := s.remetered d } := by
  simp only [meterPeriodicDue, readIfIdle, Part.remetered, eighths_eq]
  cases state : s.meter.state with
  | idle => rfl
  | stopped => rfl
  | measuring m => rfl

theorem remetered_busy (s : Part) (d : Elapsed) : (s.remetered d).state ≠ .idle := by
  simp only [Part.remetered]
  split
  · simp
  · next running => exact running

/-- The part's own meter put in the edit that it keeps. -/
theorem Kept.ownMeterAlone {b : Bool} {s t : Part} {meter : Meter}
    (h : Kept b { s with meter := meter } t) : Kept b { s with meter := t.meter } t :=
  { h with meter := rfl, measuring := fun _ => rfl }

/-! ### The gates (R72, R76) -/

/-- A reading goes on with a gate where the table calls for it and it has not been used (R76). -/
theorem nextGate_eq_some {g n : Fin 3} {used : BitVec 3} {count : Nat} (h : count ≤ 1048575) :
    nextGate g used count = some n ↔
      (count = 1048575 ∧ n.val + 1 = g.val ∨ count < 1024 ∧ n.val = g.val + 1) ∧
        used.getLsbD n.val = false := by
  have pick {n m : Fin 3} : (some m : Option (Fin 3)).filter (fun n => !used.getLsbD n.val) = some n ↔
      n = m ∧ used.getLsbD n.val = false := by
    rw [Option.filter_eq_some_iff]
    constructor
    · rintro ⟨held, unused⟩
      cases held
      exact ⟨rfl, by simpa using unused⟩
    · rintro ⟨rfl, unused⟩
      exact ⟨rfl, by simpa using unused⟩
  have values : ((0 : Fin 3) : Nat) = 0 ∧ ((1 : Fin 3) : Nat) = 1 ∧ ((2 : Fin 3) : Nat) = 2 :=
    ⟨rfl, rfl, rfl⟩
  obtain ⟨zero, one, two⟩ := values
  have last := n.isLt
  have none : (none : Option (Fin 3)).filter (fun n => !used.getLsbD n.val) ≠ some n := by simp
  unfold nextGate
  dsimp only
  split_ifs with full few
  · have full : count = 1048575 := full
    match g with
    | 0 => refine iff_of_false none ?_; omega
    | 1 => rw [pick, Fin.ext_iff]; refine and_congr_left fun _ => ?_; omega
    | 2 => rw [pick, Fin.ext_iff]; refine and_congr_left fun _ => ?_; omega
  · have full : count ≠ 1048575 := full
    match g with
    | 0 => rw [pick, Fin.ext_iff]; refine and_congr_left fun _ => ?_; omega
    | 1 => rw [pick, Fin.ext_iff]; refine and_congr_left fun _ => ?_; omega
    | 2 => refine iff_of_false none ?_; omega
  · have full : count ≠ 1048575 := full
    exact iff_of_false none (by omega)

/-- The gates used after a gate has ended: those before and itself (R76). -/
theorem getLsbD_used (used : BitVec 3) (g n : Fin 3) :
    (used ||| BitVec.ofNat 3 (2 ^ g.val)).getLsbD n.val = false ↔
      used.getLsbD n.val = false ∧ n ≠ g := by
  have own : ∀ g n : Fin 3, (BitVec.ofNat 3 (2 ^ g.val)).getLsbD n.val = decide (n = g) := by decide
  rw [BitVec.getLsbD_or, own]
  simp

/-- The meter's record, start gate and deadline stand in what is kept. -/
theorem Kept.meter_fields {b : Bool} {s t : Part} (h : Kept b s t) :
    t.meter.latest = s.meter.latest ∧ t.meter.startGate = s.meter.startGate ∧
      t.meter.deadline = s.meter.deadline := by
  rw [h.meter]
  exact ⟨rfl, rfl, rfl⟩

/-- A reading that finishes: its record, the start gate and the gate states (R33, R79). -/
theorem finishReading_kept {b : Bool} (g : Fin 3) (count : Nat) (s : Part) :
    Kept b
      { s with
        meter := { s.meter with
          state := .idle, startGate := g
          latest := some
            { a := ambientOf count g s.tables.general.cCal, gate := g, count := count
              dark := count == 0, saturated := count == saturatedCount, completedAt := s.now } }
        gates := Vector.ofFn (fun i => gateAfter (s.tables.windows.get i) (s.gates.get i)
          (ambientOf count g s.tables.general.cCal)) }
      (finishReading g count s) := reEvaluate_kept _

/-- Settles O31: by the periodic deadline, and by the gate that the count calls for. -/
theorem meterReadsByItsPeriodAndGates : Obligations.MeterReadsByItsPeriodAndGates := by
  refine ⟨⟨rfl, rfl, rfl⟩, fun s awake running out => ?_, fun s m pulses awake measuring out => ?_⟩
  · have due : s.part.meterDue = some s.part.meter.deadline := by
      unfold Part.meterDue
      split
      · next stopped => exact absurd stopped running
      · rfl
      · rfl
    have taken := exec_expiry (c := .meterPeriodicDeadline) (f := meterPeriodicDue) rfl awake due out
    rw [meterPeriodicDue_eq] at taken
    have tail := settle_meter (s := { s.part with meter := s.part.remetered s.part.meter.deadline })
      (.inl (remetered_busy _ _))
    refine ⟨_, taken, rfl, tail, ?_⟩
    exact (settle_kept _).ownMeterAlone (s := s.part)
  · intro n unused onward
    have due : s.part.gateDue = some m.gateEnds := by
      simp only [Part.gateDue, Part.measuring, measuring, Option.map_some]
    have ends : gateEnds pulses s.part = endGate pulses m s.part := by
      simp only [gateEnds, Part.measuring, measuring]
    have taken : exec (.gateEnd pulses) s = .next (s.put (settle (endGate pulses m s.part))) := by
      rw [← ends]
      exact exec_expiry (f := fun _ => gateEnds pulses) rfl awake due out
    have goes (g : Fin 3) : nextGate m.gate (m.used ||| BitVec.ofNat 3 (2 ^ m.gate.val)) n = some g ↔
        onward g := by
      rw [nextGate_eq_some (Nat.min_le_right _ _), getLsbD_used]
    refine ⟨_, taken, rfl, fun g next => ?_, fun none => ?_⟩
    · have moved : endGate pulses m s.part = { s.part with meter := { s.part.meter with
          state :=
            .measuring ⟨g, m.used ||| BitVec.ofNat 3 (2 ^ m.gate.val), s.part.after (gateTicks g)⟩
          count := 0 } } := by
        have here := (goes g).2 next
        unfold endGate
        extract_lets count used
        split
        · next h held =>
          cases here.symm.trans held
          rfl
        · next nothing => cases here.symm.trans nothing
      rw [moved]
      exact ⟨settle_meter (.inl (by simp)), (settle_kept _).ownMeterAlone (s := s.part)⟩
    · have finished : endGate pulses m s.part = finishReading m.gate n
          { s.part with meter := { s.part.meter with count := n } } := by
        unfold endGate
        extract_lets count used
        split
        · next h held => exact absurd ((goes h).1 held) (none h)
        · rfl
      rw [finished]
      have kept := (finishReading_kept (b := false) m.gate n
        { s.part with meter := { s.part.meter with count := n } }).trans (settle_kept _)
      obtain ⟨latest, startGate, deadline⟩ := kept.meter_fields
      exact ⟨latest, startGate, deadline, kept.gates, kept.ownMeter (s := s.part)⟩

end Sys2Proof.Machine


/-! PROOFS. The end of a frame and of an operation (R98 to R101, R112, R113): what they record, count and
judge, and what is left where nothing else goes on. -/

namespace Sys2Proof.Machine

/-! ### The record of a frame (R100, R168, R169) -/

theorem record_endRecord (o : Operation) (outcome : FrameOutcome) (b : Option Int)
    (cause : Option FailCause) (now merged : Nat) :
    EndRecord o outcome b cause now merged (o.record outcome b cause now merged) where
  kind := ⟨rfl, rfl, rfl⟩
  window := rfl
  due := by cases h : o.request.due <;> simp [Operation.record, h]
  startAt := by cases h : o.startAt <;> simp [Operation.record, h]
  computed c f comp frame := by
    have here : o.frame = some f := by simp [Operation.frame, comp, frame]
    refine ⟨?_, ?_, ?_⟩
    · simp [Operation.record, Operation.exposureFields, comp, here]
    · simp [Operation.record, comp]
    · simp [Operation.record, Operation.recordFlags, comp, here]
  uncomputed comp := by
    simp [Operation.record, Operation.exposureFields, Operation.recordFlags, comp, RecordFlags.clear]
  readings := ⟨rfl, rfl, rfl⟩
  merged := rfl
  cause := ⟨rfl, rfl, rfl, rfl⟩

/-! ### The end of an operation (R101) -/

section EndOperation

variable {s : Part} {o : Operation}

/-- Step 1: the due is consumed, where the operation is a SCHEDULE one. -/
def consumedBy (o : Operation) (s : Part) : Part :=
  if o.source = .schedule then consumeByOperation o s else s

theorem consumedBy_kept {b : Bool} (o : Operation) (s : Part) : Kept b s (consumedBy o s) := by
  unfold consumedBy
  split
  · exact consumeByOperation_kept o s
  · exact .refl s

theorem endOperation_eq (op : s.op = some o) : endOperation s =
    releaseOperation (announceShoot o (decidePower o (judgeHealth o (consumedBy o s)))) := by
  unfold endOperation
  split
  · next none => cases op.symm.trans none
  · next held =>
    cases op.symm.trans held
    rfl

/-- Camera health where a counted failure brings the count to fault_limit (R113). -/
theorem judgeHealth_eq (o : Operation) (s : Part) : judgeHealth o s = { s with health :=
    if o.lastCounted = true ∧ s.failCount = o.profile.faultLimit then .recovering (recoveryOf o s)
    else s.health } := by
  unfold judgeHealth
  split_ifs <;> rfl

/-- What the end of an operation makes of camera health; it does not count (R101, R113). -/
theorem endOperation_judges (op : s.op = some o) :
    (endOperation s).failCount = s.failCount ∧
    (endOperation s).health =
      if o.lastCounted = true ∧ s.failCount = o.profile.faultLimit then .recovering (recoveryOf o s)
      else s.health := by
  have consumed := consumedBy_kept (b := false) o s
  have released := ((decidePower_kept (b := false) o (judgeHealth o (consumedBy o s))).trans
    ((announceShoot_kept o _).trans (releaseOperation_kept _))).health rfl
  have recovery : recoveryOf o (consumedBy o s) = recoveryOf o s := by
    simp only [recoveryOf, Part.after, consumed.time]
  rw [← endOperation_eq op, judgeHealth_eq] at released
  obtain ⟨health, count⟩ := released
  refine ⟨count.trans (consumed.health rfl).2, health.trans ?_⟩
  simp only [recovery, (consumed.health rfl).1, (consumed.health rfl).2]

/-- With no run a due is consumed without effect. -/
theorem consumeByOperation_noRun (run : s.run = none) (o : Operation) :
    consumeByOperation o s = { s with op := some { o with settled := true } } := by
  have consumed (c : Consumption) (t : Part) (h : t.run = none) : consumeDue c t = t := by
    unfold consumeDue
    split
    · rfl
    · next held => cases h.symm.trans held
  have after (t : Part) (h : t.run = none) : afterConsumption t = t := by
    simp only [afterConsumption, Part.dueFuel, h, missPassed]
  unfold consumeByOperation
  extract_lets feedback deferred t u
  have same : t = { s with op := some { o with settled := true } } := consumed _ _ run
  have kept : u = t := by
    have none : t.run = Option.none := by rw [same]; exact run
    show { t with run := t.run.map _ } = t
    rw [none, Option.map_none, ← none]
  have undeferred : ¬ deferred = true := by simp [deferred, run]
  rw [if_neg undeferred, kept, after _ (by rw [same]; exact run), same]

/-- The end of an operation in a part with no run: the operation and its hold on camera power are gone,
and lend_allowed is set (R101). -/
theorem endOperation_noRun (op : s.op = some o) (run : s.run = none) :
    (endOperation s).op = none ∧ (endOperation s).run = none ∧
    (endOperation s).arbiter = s.arbiter ∧ (endOperation s).camera = s.camera ∧
    (endOperation s).holders.operation = false ∧ (endOperation s).journal = s.journal ∧
    (endOperation s).lending = { s.lending with allowed := true } := by
  obtain ⟨x, consumed⟩ : ∃ x, consumedBy o s = { s with op := some x } := by
    unfold consumedBy
    split
    · exact ⟨_, consumeByOperation_noRun run o⟩
    · exact ⟨o, by rw [← op]⟩
  rw [endOperation_eq op, judgeHealth_eq, consumed]
  have announced (t : Part) : ∃ notices, announceShoot o t = { t with notices := notices } := by
    unfold announceShoot
    split
    · exact ⟨_, raiseNotice_eq _ _ _⟩
    · exact ⟨t.notices, rfl⟩
  obtain ⟨notices, raised⟩ := announced (decidePower o { s with
    op := some x
    health :=
      if o.lastCounted = true ∧ s.failCount = o.profile.faultLimit then
        .recovering (recoveryOf o { s with op := some x })
      else s.health })
  have release (t : Part) (h : t.run = none) : releaseOperation t =
      { t with op := none, lending := { t.lending with allowed := true } } := by
    unfold releaseOperation
    dsimp only
    split
    · next held => cases h.symm.trans held
    · rfl
  dsimp only at raised ⊢
  rw [raised, release _ (by exact run)]
  exact ⟨rfl, run, rfl, rfl, rfl, rfl, rfl⟩

end EndOperation

/-! ### The end of a frame (R98, R99, R112) -/

section EndFrame

variable {s : Part} {o : Operation}

/-- The part as the record of a frame leaves it, with the lines released (R95, R100). -/
def Part.recorded (s : Part) (o : Operation) (rec : FrameRecord) : Part :=
  { s with
    camera := { s.camera with focus := false, shutter := false }
    journal := s.journal.append rec
    op := some { o with lastRecord := some s.journal.numberFor }
    arbiter :=
      { s.arbiter with merged := if o.source = .external then 0 else s.arbiter.merged } }

theorem recordFrame_eq (o : Operation) (outcome : FrameOutcome) (b : Option Int)
    (cause : Option FailCause) (s : Part) : recordFrame o outcome b cause (releaseLines s) =
      s.recorded o (o.record outcome b cause s.now s.arbiter.merged) := rfl

theorem failFrame_eq (op : s.op = some o) (cause : FailCause) : failFrame cause s =
    endOperation { s.recorded { o with lastCounted := cause.counted && !o.rehearsal }
        (o.record .failed none (some cause) s.now s.arbiter.merged) with
      failCount :=
        if cause.counted && !o.rehearsal then min (s.failCount + 1) o.profile.faultLimit
        else s.failCount } := by
  unfold failFrame
  split
  · next none => cases op.symm.trans none
  · next held =>
    cases op.symm.trans held
    rfl

/-- What remains of a part whose operation has ended, where nothing else goes on. -/
theorem alone_afterEnd {t : Part} (alone : s.Alone) (run : t.run = none)
    (arbiter : ∃ merged, t.arbiter = { s.arbiter with merged := merged })
    (lending : t.lending = { s.lending with allowed := true }) : t.Alone := by
  obtain ⟨-, schedule, external, manual, port⟩ := alone
  obtain ⟨merged, same⟩ := arbiter
  rw [Part.Alone, same, lending]
  exact ⟨run, schedule, external, manual, port⟩

/-- A frame that fails, with the tail of the step: its record, its count and what it makes of health. -/
theorem failFrame_fails (op : s.op = some o) (cause : FailCause) :
    FrameFails cause o s (settle (failFrame cause s)) := by
  have tail := settle_kept (b := false) (failFrame cause s)
  have failed := failFrame_eq op cause
  obtain ⟨count, health⟩ := endOperation_judges (s := { s.recorded
      { o with lastCounted := cause.counted && !o.rehearsal }
      (o.record .failed none (some cause) s.now s.arbiter.merged) with
    failCount :=
      if cause.counted && !o.rehearsal then min (s.failCount + 1) o.profile.faultLimit
      else s.failCount }) rfl
  rw [← failed] at count health
  refine ⟨(failFrame_kept cause s).trans tail.weaken, ?_, (tail.health rfl).2.trans count,
    (tail.health rfl).1.trans (health.trans ?_), fun alone => ?_⟩
  · rw [failed] at tail ⊢
    exact (endOperation_kept _).journal.trans tail.journal
  · rw [(tail.health rfl).2, count]
    simp only [Bool.and_eq_true, Bool.not_eq_true', and_assoc, recoveryOf, eighths_eq]
    rfl
  · obtain ⟨gone, run, arbiter, camera, holder, -, lending⟩ := endOperation_noRun (s := { s.recorded
        { o with lastCounted := cause.counted && !o.rehearsal }
        (o.record .failed none (some cause) s.now s.arbiter.merged) with
      failCount :=
        if cause.counted && !o.rehearsal then min (s.failCount + 1) o.profile.faultLimit
        else s.failCount }) rfl alone.1
    rw [← failed] at gone run arbiter camera holder lending
    have alone' : (failFrame cause s).Alone :=
      alone_afterEnd alone run ⟨_, arbiter⟩ lending
    rw [settle_alone alone' gone, camera]
    exact ⟨gone, rfl, rfl, holder, lending⟩

/-- The number of frames of an operation's computation. -/
def Operation.frames (o : Operation) : Nat := (o.comp.map (·.frames.length)).getD 0

/-- The operation as the record of a frame TAKEN finds it (R99, R112). -/
def Operation.tookFrame (o : Operation) (b : Option Int) : Operation :=
  { o with newest := some (b, (o.frame.map (·.offset)).getD 0), lastCounted := false }

/-- The part as the record of a frame TAKEN leaves it (R100, R112). -/
def Part.taken (s : Part) (o : Operation) (b : Option Int) : Part :=
  { s.recorded (o.tookFrame b) (o.record .taken b none s.now s.arbiter.merged) with
    failCount := if o.rehearsal then s.failCount else 0 }

/-- The operation in burst spacing before its next frame (R99). -/
def Part.spaced (s : Part) (o : Operation) (b : Option Int) : Operation :=
  { o.tookFrame b with
    lastRecord := some s.journal.numberFor
    index := o.index + 1
    phase := .spacing (s.after (eighths o.profile.burstSpacing))
    tag := none, acked := false, heldB := none, startAt := none }

theorem takeFrame_eq (op : s.op = some o) (b : Option Int) : takeFrame b s =
    if o.index + 1 < o.frames then { s.taken o b with op := some (s.spaced o b) }
    else endOperation (s.taken o b) := by
  unfold takeFrame
  split
  · next none => cases op.symm.trans none
  · next held =>
    cases op.symm.trans held
    rfl

theorem takeFrame_spaces (op : s.op = some o) (b : Option Int) (further : o.index + 1 < o.frames) :
    takeFrame b s = { s.taken o b with op := some (s.spaced o b) } :=
  (takeFrame_eq op b).trans (if_pos further)

theorem takeFrame_ends (op : s.op = some o) (b : Option Int) (last : o.frames ≤ o.index + 1) :
    takeFrame b s = endOperation (s.taken o b) :=
  (takeFrame_eq op b).trans (if_neg (Nat.not_lt.mpr last))

theorem takeFrame_judges (op : s.op = some o) (b : Option Int) :
    (takeFrame b s).failCount = (if o.rehearsal then s.failCount else 0) ∧
      (takeFrame b s).health = s.health := by
  by_cases further : o.index + 1 < o.frames
  · rw [takeFrame_spaces op b further]
    exact ⟨rfl, rfl⟩
  · rw [takeFrame_ends op b (Nat.not_lt.mp further)]
    obtain ⟨count, health⟩ := endOperation_judges (s := s.taken o b) rfl
    exact ⟨count, health.trans (if_neg (by simp [Operation.tookFrame]))⟩

theorem takeFrame_grows (op : s.op = some o) (b : Option Int) :
    (s.journal.append (o.record .taken b none s.now s.arbiter.merged)).Grows
      (takeFrame b s).journal := by
  by_cases further : o.index + 1 < o.frames
  · rw [takeFrame_spaces op b further]
    exact .same _
  · rw [takeFrame_ends op b (Nat.not_lt.mp further)]
    exact (endOperation_kept (s.taken o b)).journal

/-- A frame that is TAKEN, with the tail of the step: its record, its count, and the spacing or the end
of the operation. -/
theorem takeFrame_takes (op : s.op = some o) (b : Option Int) :
    FrameTaken b o s (settle (takeFrame b s)) := by
  have tail := settle_kept (b := false) (takeFrame b s)
  obtain ⟨count, health⟩ := takeFrame_judges op b
  refine ⟨(takeFrame_kept b s).trans tail.weaken,
    (takeFrame_grows op b).trans tail.journal, (tail.health rfl).2.trans count,
    (tail.health rfl).1.trans health, fun further owner unasked => ?_, fun last alone => ?_⟩
  · rw [takeFrame_spaces op b further]
    rw [settle_busy (s := { s.taken o b with op := some (s.spaced o b) }) rfl unasked rfl owner]
    have camera := (raiseSchedule_frame (fed := none)
      { s.taken o b with op := some (s.spaced o b) }).camera
    refine ⟨s.spaced o b, raiseSchedule_op _, rfl, rfl, rfl, rfl, ?_, ?_⟩
    · rw [camera]; rfl
    · rw [camera]; rfl
  · rw [takeFrame_ends op b last]
    obtain ⟨gone, run, arbiter, camera, holder, -, lending⟩ :=
      endOperation_noRun (s := s.taken o b) rfl alone.1
    have alone' : (endOperation (s.taken o b)).Alone :=
      alone_afterEnd alone run ⟨_, arbiter⟩ lending
    rw [settle_alone alone' gone, camera]
    exact ⟨gone, rfl, rfl, holder, lending⟩

end EndFrame

end Sys2Proof.Machine


/-! PROOFS. The events of a frame: how WRITING is entered and completed, the frames that fail and the
frames that are TAKEN, and ABORT by the phase. -/

namespace Sys2Proof.Machine

section Writing

variable {s t : Part} {o : Operation}

/-- The part whose operation waits in WRITING, with both lines released (R95, R96). -/
def Part.writes (s : Part) (o : Operation) (w : WriteWait) : Part :=
  { s with
    camera := { s.camera with focus := false, shutter := false }
    op := some { o with phase := .writing w } }

theorem enterWriting_rehearsal (rehearsal : o.rehearsal = true) (s : Part) :
    enterWriting o s = s.writes o (.rehearsal (s.after 32768)) := if_pos rehearsal

section OutOfRehearsal

variable (out : o.rehearsal = false)

include out

theorem enterWriting_active (active : s.pins.camAct = true) :
    enterWriting o s = s.writes o (.write (s.after (eighths o.profile.writeTimeout))) :=
  (if_neg (by simp [out])).trans (if_pos active)

theorem enterWriting_unseen (inactive : s.pins.camAct = false) (unseen : o.camActSeen = false) :
    enterWriting o s = s.writes o (.activity (s.after o.profile.activityTimeout)) :=
  (if_neg (by simp [out])).trans ((if_neg (by simp [inactive])).trans (if_neg (by simp [unseen])))

/-- CAM_ACT seen and gone: the write is complete at once (R96). -/
theorem enterWriting_seen (inactive : s.pins.camAct = false) (seen : o.camActSeen = true) :
    enterWriting o s = completeWrite o { releaseLines s with op := some o } :=
  (if_neg (by simp [out])).trans ((if_neg (by simp [inactive])).trans (if_pos seen))

end OutOfRehearsal

theorem completeWrite_aborted (aborting : o.aborting = true) (s : Part) :
    completeWrite o s = failFrame .aborted s := if_pos aborting

section Unaborted

variable (goes : o.aborting = false)

include goes

theorem completeWrite_noReport (report : o.profile.report = .noReport) (s : Part) :
    completeWrite o s = takeFrame none s := by
  unfold completeWrite
  rw [if_neg (by simp [goes]), report]

theorem completeWrite_held (report : o.profile.report = .report) {b : Int} (held : o.heldB = some b)
    (s : Part) : completeWrite o s = takeFrame (some b) s := by
  unfold completeWrite
  rw [if_neg (by simp [goes]), report, held]

theorem completeWrite_waits (report : o.profile.report = .report) (none : o.heldB = none) (s : Part) :
    completeWrite o s = { s with op := some { o with
      phase := .writing (.report (s.after (eighths o.profile.reportWait))) } } := by
  unfold completeWrite
  rw [if_neg (by simp [goes]), report, none]

end Unaborted

/-- A failure after an edit of the operation and the lines is one of the part before it. -/
theorem FrameFails.ofEdit {cause : FailCause} {camera : CameraPort} {op : Option Operation}
    (h : FrameFails cause o { s with camera := camera, op := op } t) : FrameFails cause o s t where
  kept := (kept_edit s).trans h.kept
  record := h.record
  count := h.count
  health := h.health
  alone := h.alone

/-- The abort of a frame shows in no field of its record. -/
theorem FrameFails.ofAborting {cause : FailCause}
    (h : FrameFails cause { o with aborting := true } s t) : FrameFails cause o s t where
  kept := h.kept
  record := h.record
  count := h.count
  health := h.health
  alone := h.alone

theorem FrameTaken.ofEdit {b : Option Int} {camera : CameraPort} {op : Option Operation}
    (h : FrameTaken b o { s with camera := camera, op := op } t) : FrameTaken b o s t where
  kept := (kept_edit s).trans h.kept
  record := h.record
  count := h.count
  health := h.health
  spacing := h.spacing
  alone := h.alone

/-- With the port on the part's side an operation in WRITING stays there in the tail of a step. -/
theorem settle_writes (unasked : o.askReading = false) (owner : s.lending.port.hostSide = false)
    (w : WriteWait) : settle (s.writes o w) = raiseSchedule (s.writes o w) :=
  settle_busy (s := s.writes o w) rfl unasked rfl owner

end Writing

/-! ### Events by the phase of the operation -/

section Phases

variable {s : Part} {o : Operation} {d : Elapsed} (op : s.op = some o)

include op

theorem readyEnds_eq (phase : o.phase = .waking d) (ready : o.timedWake = false) :
    s.readyEnds = some d := by simp [Part.readyEnds, op, phase, ready]

theorem wakeEnds_eq (phase : o.phase = .waking d) (timed : o.timedWake = true) :
    s.wakeEnds = some d := by simp [Part.wakeEnds, op, phase, timed]

theorem settingEnds_eq (phase : o.phase = .setting (some d)) : s.settingEnds = some d := by
  simp [Part.settingEnds, op, phase]

theorem focusEnds_eq (phase : o.phase = .focusing d) : s.focusEnds = some d := by
  simp [Part.focusEnds, op, phase]

theorem holdEnds_eq (phase : o.phase = .exposing d) : s.holdEnds = some d := by
  simp [Part.holdEnds, op, phase]

theorem spacingEnds_eq (phase : o.phase = .spacing d) : s.spacingEnds = some d := by
  simp [Part.spacingEnds, op, phase]

theorem writeWait_eq {w : WriteWait} (phase : o.phase = .writing w) : s.writeWait = some w := by
  simp [Part.writeWait, op, phase]

theorem writingFails_eq (cause : FailCause) :
    writingFails cause s = failFrame (if o.aborting then .aborted else cause) s := by
  simp [writingFails, op]

end Phases

section Messages

variable {s : State} (awake : s.part.awake = true)

include awake

/-- A message of the camera line out of rehearsal (R107). -/
theorem exec_message {c : Instr} {f : Part → Part} (acts : exec c s = advance (cameraMessage f) s)
    (out : s.part.rehearsal = false) :
    exec c s = .next (s.put (settle (f (cameraIdle s.part)))) := by
  rw [acts, advance_eq_put, cameraMessage, whileAwake_awake awake, if_neg (by simp [out])]

/-- A message of the camera line in rehearsal, where only the receiver takes it (R121). -/
theorem exec_message_ignored {c : Instr} {f : Part → Part}
    (acts : exec c s = advance (cameraMessage f) s) (rehearsal : s.part.rehearsal = true) :
    exec c s = .next (s.put (settle (cameraIdle s.part))) := by
  rw [acts, advance_eq_put, cameraMessage, whileAwake_awake awake, if_pos rehearsal]

/-- A change of CAM_ACT out of rehearsal (R96). -/
theorem exec_camAct (active : Bool) (out : s.part.rehearsal = false) :
    exec (.camActChange active) s = .next (s.put (settle (takeCamAct active
      { s.part with pins := { s.part.pins with camAct := active } }))) := by
  have acts : camActBecomes active s.part = settle (takeCamAct active
      { s.part with pins := { s.part.pins with camAct := active } }) := by
    refine if_pos (Bool.and_eq_true_iff.mpr ⟨awake, ?_⟩)
    exact (congrArg not out).trans rfl
  rw [← acts]
  rfl

end Messages

theorem takeNak_own {s : Part} {o : Operation} {d : Option Elapsed} {tag : Byte} (op : s.op = some o)
    (phase : o.phase = .setting d) (own : o.tag = some tag) (cause : Byte) :
    takeNak tag cause s = failFrame (.nak cause) s := by
  simp [takeNak, op, Operation.setsTag, phase, own]

/-- Settles O40: each event ends the frame in its phase. -/
theorem framesFailByTheirPhase : Obligations.FramesFailByTheirPhase := by
  refine ⟨fun cause => by cases cause <;> simp [FailCause.counted],
    fun o cause now merged => record_endRecord o .failed none (some cause) now merged,
    fun s o awake op => ?_⟩
  intro quiet fails
  have opQuiet : (cameraIdle s.part).op = some o := op
  refine ⟨fun d phase ready out => ?_, fun d phase out => ?_, fun d tag cause phase own out => ?_,
    fun d phase out => ?_, fun d phase out => ?_, fun out phase => ?_, fun w out phase => ?_,
    fun rehearsal => ?_⟩
  · exact ⟨_, exec_expiry (f := fun _ => failFrame .noReady) rfl awake (readyEnds_eq op phase ready) out,
      rfl, failFrame_fails op _⟩
  · exact ⟨_, exec_expiry (f := fun _ => failFrame .noAck) rfl awake (settingEnds_eq op phase) out,
      rfl, failFrame_fails op _⟩
  · refine ⟨_, exec_message awake (f := takeNak tag cause) rfl out, rfl, ?_⟩
    rw [takeNak_own opQuiet phase own]
    exact failFrame_fails opQuiet _
  · have runs : s.part.activityEnds = some d := by rw [Part.activityEnds, writeWait_eq op phase]
    refine ⟨_, exec_expiry (f := fun _ => writingFails .noActivity) rfl awake runs out, rfl, ?_⟩
    rw [writingFails_eq op]
    exact failFrame_fails op _
  · have runs : s.part.writeEnds = some d := by rw [Part.writeEnds, writeWait_eq op phase]
    refine ⟨_, exec_expiry (f := fun _ => writingFails .writeTimeout) rfl awake runs out, rfl, ?_⟩
    rw [writingFails_eq op]
    exact failFrame_fails op _
  · refine ⟨_, exec_message awake (f := takeReady) rfl out, rfl, ?_⟩
    have restarts : takeReady (cameraIdle s.part) = failFrame .restart (cameraIdle s.part) := by
      rcases phase with ⟨d, phase⟩ | ⟨d, phase⟩ | ⟨d, phase⟩ | ⟨d, phase⟩ <;>
        simp [takeReady, op, phase]
    rw [restarts]
    exact failFrame_fails opQuiet _
  · refine ⟨_, exec_message awake (f := takeReady) rfl out, rfl, ?_⟩
    have restarts : takeReady (cameraIdle s.part) =
        failFrame (if o.aborting then .aborted else .restart) (cameraIdle s.part) := by
      simp [takeReady, op, phase]
    rw [restarts]
    exact failFrame_fails opQuiet _
  · intro ignored
    have all {c : Instr} {f : Part → Part} (acts : exec c s = advance (cameraMessage f) s) :
        ignored c := by
      have taken := exec_message_ignored awake acts rehearsal
      refine ⟨taken, settle_kept _, fun unasked phase owner => ?_⟩
      rw [taken, settle_busy (s := cameraIdle s.part) opQuiet unasked phase owner]
      rfl
    exact ⟨all rfl, fun _ => all rfl, fun _ _ => all rfl, fun _ _ => all rfl⟩

/-- Settles O39: the hold ends in WRITING, or with the frame where the write is complete. -/
theorem holdEndsInWriting : Obligations.HoldEndsInWriting := by
  intro s o d awake op phase out unasked owner writing
  have taken : exec .holdElapsed s = .next (s.put (settle (enterWriting o s.part))) := by
    have ends : endHold s.part = enterWriting o s.part := by simp [endHold, op]
    rw [← ends]
    exact exec_expiry (f := fun _ => endHold) rfl awake (holdEnds_eq op phase) out
  have waits {w : WriteWait} (h : enterWriting o s.part = s.part.writes o w) : writing w := by
    show exec .holdElapsed s = _
    rw [taken, h, settle_writes unasked owner]
    rfl
  refine ⟨fun rehearsal => waits (enterWriting_rehearsal rehearsal _),
    fun real active => waits ?_, fun real inactive unseen => waits (enterWriting_unseen real inactive unseen),
    fun real inactive seen goes report => ⟨_, taken, rfl, ?_⟩,
    fun real inactive seen goes report => ⟨fun none => waits ?_, fun b held => ⟨_, taken, rfl, ?_⟩⟩,
    fun real inactive seen aborting => ⟨_, taken, rfl, ?_⟩⟩
  · rw [enterWriting_active real active, eighths_eq]
  · rw [enterWriting_seen real inactive seen, completeWrite_noReport goes report]
    exact (takeFrame_takes rfl none).ofEdit
  · rw [enterWriting_seen real inactive seen, completeWrite_waits goes report none, eighths_eq]
    rfl
  · rw [enterWriting_seen real inactive seen, completeWrite_held goes report held]
    exact (takeFrame_takes rfl (some b)).ofEdit
  · rw [enterWriting_seen real inactive seen, completeWrite_aborted aborting]
    exact (failFrame_fails rfl .aborted).ofEdit

/-- Settles O36: ABORT by the phase. -/
theorem abortActsByPhase : Obligations.AbortActsByPhase := by
  intro s awake empty
  have cuts {o : Operation} (op : s.part.op = some o) (phase : o.phase.isWaking = true ∨
      o.phase = .waiting ∨ (∃ d, o.phase = .setting d) ∨ (∃ d, o.phase = .focusing d)) :
      exec (.abort []) s = .next (s.put (startReply ⟨0x24#8, []⟩ (.ok [])
        (settle (failFrame .aborted s.part)))) := by
    refine exec_done rfl awake empty ?_
    cases at_ : o.phase <;>
      simp_all [whenEmpty, handleAbort, cutOperation, Phase.isWaking]
  refine ⟨fun none => exec_answered rfl awake empty (by simp [whenEmpty, handleAbort, none, refuse]),
    fun o op => ?_⟩
  have exposes (d : Elapsed) (phase : o.phase = .exposing d) : exec (.abort []) s =
      .next (s.put (startReply ⟨0x24#8, []⟩ (.ok [])
        (settle (enterWriting { o with aborting := true } s.part)))) :=
    exec_done rfl awake empty (by simp [whenEmpty, handleAbort, op, phase, abortExposure])
  refine ⟨fun w phase => ?_, exposes, fun d phase real unasked owner active => ?_,
    fun d phase unasked owner => ?_, fun phase => ⟨s.put _, cuts op phase, failFrame_fails op _⟩,
    fun d phase => ?_⟩
  · exact exec_answered rfl awake empty (by simp [whenEmpty, handleAbort, op, phase, refuse])
  · rw [exposes d phase, enterWriting_active (by exact real) active,
      settle_writes (by exact unasked) owner]
    rfl
  · intro writing
    have waits {w : WriteWait} (h : enterWriting { o with aborting := true } s.part =
        s.part.writes { o with aborting := true } w) : writing w := by
      show exec (.abort []) s = _
      rw [exposes d phase, h, settle_writes (by exact unasked) owner]
      rfl
    refine ⟨fun rehearsal => waits (enterWriting_rehearsal (by exact rehearsal) _),
      fun real inactive unseen => waits (enterWriting_unseen (by exact real) inactive (by exact unseen)),
      fun real inactive seen => ⟨s.put (settle (enterWriting { o with aborting := true } s.part)),
        exposes d phase, ?_⟩⟩
    show FrameFails .aborted o s.part (settle (enterWriting { o with aborting := true } s.part))
    rw [enterWriting_seen (by exact real) inactive (by exact seen), completeWrite_aborted rfl]
    exact (failFrame_fails (o := { o with aborting := true }) rfl .aborted).ofEdit.ofAborting
  · have ends : exec (.abort []) s = .next (s.put (startReply ⟨0x24#8, []⟩ (.ok [])
        (settle (endOperation s.part)))) :=
      exec_done rfl awake empty (by simp [whenEmpty, handleAbort, op, phase, cutOperation])
    refine ⟨s.put (settle (endOperation s.part)), ends,
      (endOperation_kept s.part).trans (settle_kept _), fun alone => ?_⟩
    obtain ⟨gone, run, arbiter, -, holder, journal, lending⟩ := endOperation_noRun op alone.1
    have alone' : (endOperation s.part).Alone :=
      alone_afterEnd alone run ⟨s.part.arbiter.merged, arbiter⟩ lending
    have still : (s.put (settle (endOperation s.part))).part = endOperation s.part :=
      settle_alone alone' gone
    rw [still]
    exact ⟨gone, holder, journal⟩

theorem takeReport_other {s : Part} {o : Operation} {tag b : Byte} (op : s.op = some o)
    (other : o.tag ≠ some tag) : takeReport tag b s = s := by
  have unawaited : o.awaitsReport tag = false := by simp [Operation.awaitsReport, other]
  simp [takeReport, op, unawaited]

/-- Settles O41: the write that completes, the report, and the end of a rehearsal's WRITING. -/
theorem framesAreTaken : Obligations.FramesAreTaken := by
  refine ⟨fun o b now merged => record_endRecord o .taken b none now merged,
    fun s o awake op goes => ?_⟩
  intro low quiet taken
  have opQuiet : (cameraIdle s.part).op = some o := op
  refine ⟨fun d phase real => ?_, fun d phase => ⟨fun out => ?_, fun tag b real report acked own => ?_⟩,
    fun d tag b phase real unasked owner => ⟨fun report acked own => ?_, fun other => ?_⟩,
    fun d phase out => ?_⟩
  · have falls := exec_camAct awake false real
    have complete : takeCamAct false low = completeWrite o low := by simp [takeCamAct, low, op, phase]
    have falls : exec (.camActChange false) s = .next (s.put (settle (completeWrite o low))) := by
      rw [← complete]
      exact falls
    refine ⟨fun report => ⟨_, falls, rfl, ?_⟩, fun b report held => ⟨_, falls, rfl, ?_⟩,
      fun report none unasked owner => ?_⟩
    · rw [completeWrite_noReport goes report]
      exact takeFrame_takes (s := low) op none
    · rw [completeWrite_held goes report held]
      exact takeFrame_takes (s := low) op (some b)
    · rw [falls, completeWrite_waits goes report none, eighths_eq]
      rw [settle_busy (s := { low with op := some { o with
        phase := .writing (.report (low.after (4096 * o.profile.reportWait))) } }) rfl unasked rfl owner]
      rfl
  · have runs : s.part.reportEnds = some d := by rw [Part.reportEnds, writeWait_eq op phase]
    exact ⟨_, exec_expiry (f := fun _ => takeFrame none) rfl awake runs out, rfl, takeFrame_takes op none⟩
  · refine ⟨_, exec_message awake (f := takeReport tag b) rfl real, rfl, ?_⟩
    have ends : takeReport tag b (cameraIdle s.part) =
        takeFrame (some (max (-64) (min 64 b.toInt))) (cameraIdle s.part) := by
      rw [← clampInt_eq (by decide)]
      simp [takeReport, op, phase, Operation.awaitsReport, report, acked, own]
    rw [ends]
    exact takeFrame_takes opQuiet _
  · have held : takeReport tag b (cameraIdle s.part) = { cameraIdle s.part with op := some { o with
        heldB := o.heldB.or (some (max (-64) (min 64 b.toInt))) } } := by
      rw [← clampInt_eq (by decide)]
      simp [takeReport, op, phase, Operation.awaitsReport, report, acked, own]
    have busy := settle_busy (s := { cameraIdle s.part with op := some { o with
      heldB := o.heldB.or (some (max (-64) (min 64 b.toInt))) } }) rfl unasked
      (by rw [show ({ o with heldB := o.heldB.or (some (max (-64) (min 64 b.toInt))) } : Operation).phase =
        .exposing d from phase]; rfl) owner
    rw [exec_message awake (f := takeReport tag b) rfl real, held, busy]
    rfl
  · rw [exec_message awake (f := takeReport tag b) rfl real, takeReport_other opQuiet other,
      settle_busy opQuiet unasked (by rw [phase]; rfl) owner]
    rfl
  · have runs : s.part.rehearsalEnds = some d := by rw [Part.rehearsalEnds, writeWait_eq op phase]
    have ends : endRehearsalWrite s.part = takeFrame o.synthesized s.part := by
      simp [endRehearsalWrite, op, goes]
    refine ⟨o.synthesized, ⟨_, exec_expiry (f := fun _ => endRehearsalWrite) rfl awake runs out, rfl, ?_⟩,
      fun absent => ?_, fun c f report comp frame => ?_⟩
    · rw [ends]
      exact takeFrame_takes op _
    · unfold Operation.synthesized
      rcases absent with report | comp
      · simp [report]
      · simp [comp]
    · have here : o.frame = some f := by simp [Operation.frame, comp, frame]
      simp only [Operation.synthesized, report, comp, here, synthesizedB, clampInt_eq (by decide : (-64 : Int) ≤ 64)]

end Sys2Proof.Machine


/-! PROOFS. The computations (R54 to R59, R65 to R67) and what follows them: the frame that begins with
one, the end of WAITING and of WAKING, and the events that bring them. -/

namespace Sys2Proof.Machine

/-! ### What a computation gives -/

theorem largestFit_ge (budget low : Int) (n : Nat) : low ≤ largestFit budget low n := by
  induction n with
  | zero => exact le_rfl
  | succ n ih =>
    unfold largestFit
    split
    · omega
    · exact ih

/-- The limits of a fit are in order for every profile (R58, R59). -/
theorem exposure_order (prof : Profile) (budget : Int) :
    prof.effective.sMin ≤ (fitOf budget prof.effective).cap + prof.effective.gMax := by
  have gain : 0 ≤ prof.effective.gMax := by
    unfold Profile.effective
    split
    · exact Int.natCast_nonneg _
    · exact le_rfl
  have cap : prof.effective.sMin ≤ (fitOf budget prof.effective).cap := by
    unfold fitOf
    split
    · exact le_rfl
    · exact largestFit_ge _ _ _
  omega

theorem reducesBurst_eq (l : Level) : l.reducesBurst = (l == .thrift || l == .scarce) := by
  cases l <;> rfl

theorem frameOffsets_eq (p : Plan) (ring : Nat) (reduced : Bool) : frameOffsets p ring reduced =
    match p.bracketMode with
    | .single => [0]
    | .rotate => [p.brackets.getD ring 0]
    | .burst => if reduced then [p.brackets.getD 0 0] else p.brackets := by
  unfold frameOffsets
  cases p.bracketMode <;> rfl

/-- The due's computation, and the run after it (R54, R65). -/
theorem computeDue_computes (o : Operation) (r : Run) (p : Plan) (s : Part) :
    ∃ (c : Computation) (q : Operation) (n : Run), computeDue o r p s = { s with op := some q, run := some n } ∧
      q.comp = some c ∧ q.fixed = o.fixed ∧ DueComputation o r p s q c n ∧
      n = { r with eBase := n.eBase, aPrev := n.aPrev } := by
  refine ⟨_, _, _, rfl, rfl, rfl, ?_, rfl⟩
  refine ⟨?_, rfl, rfl, ?_⟩
  · show (p.bracketMode == .burst && o.level.reducesBurst) = _
    rw [reducesBurst_eq]
  · rw [reducesBurst_eq, frameOffsets_eq]
    cases p.bracketMode <;>
      exact ⟨rfl, rfl, rfl, rfl, rfl, ⟨rfl, rfl⟩, rfl, rfl⟩

/-- The computation reads of the part no more than the factor, the latest meter reading and the base of the
run before, and of the run no more than its place and its feedback (R54, R56, R60). -/
theorem DueComputation.congr {o : Operation} {r r' : Run} {p : Plan} {s s' : Part} {q : Operation}
    {c : Computation} {n : Run} (h : DueComputation o r p s q c n) (factor : s'.factor = s.factor)
    (meter : s'.meter.latest = s.meter.latest) (last : s'.lastBase = s.lastBase)
    (run : (r'.k, r'.ring, r'.eBase, r'.aPrev, r'.bLast) = (r.k, r.ring, r.eBase, r.aPrev, r.bLast)) :
    DueComputation o r' p s' q c n := by
  simp only [Prod.mk.injEq] at run
  obtain ⟨k, ring, eBase, aPrev, bLast⟩ := run
  unfold DueComputation at h ⊢
  rw [factor, meter, last, k, ring, eBase, aPrev, bLast]
  exact h

theorem heldInterval_eq (s : Part) (ix : Fin 16) (p : Plan) : s.heldInterval ix p =
    min ((((s.run.filter (fun r => r.plan == ix)).bind (fun r =>
      (s.planAt r.plan).map (fun stored => intervalAt stored r.k))).getD p.intervalStart) * s.factor)
      691200 := by
  unfold Part.heldInterval
  cases s.run with
  | none => rfl
  | some r =>
    by_cases same : r.plan = ix
    · subst same
      cases h : s.planAt r.plan <;> simp [Option.filter_some, h, stretched_eq, Part.effectiveInterval]
    · simp [Option.filter_some, same, stretched_eq]

theorem operationBase_eq (s : Part) (q : Request) (p : Plan) : s.operationBase q p =
    q.explicitE.getD (((s.run.filter (fun r => r.plan == q.plan)).bind (·.eBase)).getD
      (startValue p (s.meter.latest.map (·.a)) s.lastBase)) := by
  unfold Part.operationBase
  cases q.explicitE with
  | some e => rfl
  | none =>
    cases s.run with
    | none => rfl
    | some r =>
      by_cases same : r.plan = q.plan
      · simp [Option.filter_some, same, Part.aNow]
      · simp [Option.filter_some, same, Part.aNow]

/-- The computation of an EXTERNAL or MANUAL operation (R55, R56, R66). -/
theorem computeOperation_computes (o : Operation) (p : Plan) (s : Part) :
    ∃ c, computeOperation o p s = { s with op := some { o with comp := some c } } ∧
      HeldComputation o p s c := by
  refine ⟨_, rfl, ?_⟩
  refine ⟨rfl, rfl, ?_⟩
  unfold exposureMin exposureMax Operation.fit
  rw [holdWithin_eq (exposure_order o.profile _), heldInterval_eq, operationBase_eq, frameOffsets_eq]
  cases p.bracketMode <;>
    exact ⟨rfl, decide_eq_true_iff, decide_eq_true_iff, rfl, rfl, rfl, rfl⟩

/-! ### The first frame after a computation -/

section
variable {s : Part} {o : Operation} {r : Run} {p : Plan}

theorem waking_of_underway {ph : Phase} (h : ph.isUnderway = true) : ph.isWaking = false := by
  cases ph with
  | waking _ => cases h
  | _ => rfl

/-- A frame that begins is in SETTING, FOCUSING or EXPOSING, with the operation's computation (R91). -/
theorem beginFrame_begins (op : s.op = some o) :
    ∃ (q : Operation) (camera : CameraPort), beginFrame s = { s with op := some q, camera := camera } ∧
      q.comp = o.comp ∧ q.reduced = o.reduced ∧ q.fixed = o.fixed ∧ q.phase.isUnderway = true := by
  unfold beginFrame
  rw [op]
  dsimp only
  split
  · exact ⟨_, _, rfl, rfl, rfl, rfl, rfl⟩
  · unfold enterFocusing
    split
    · exact ⟨_, _, rfl, rfl, rfl, rfl, rfl⟩
    · exact ⟨_, _, rfl, rfl, rfl, rfl, rfl⟩

/-- WAITING ends with the due's computation and the first frame (R54, R93). -/
theorem endWaiting_computes (op : s.op = some o) (phase : o.phase = .waiting) (run : s.run = some r)
    (plan : s.planAt r.plan = some p) :
    ∃ (q : Operation) (c : Computation) (n : Run) (camera : CameraPort),
      endWaiting s = { s with op := some q, run := some n, camera := camera } ∧
      q.comp = some c ∧ q.fixed = o.fixed ∧ q.phase.isUnderway = true ∧ DueComputation o r p s q c n ∧
      n = { r with eBase := n.eBase, aPrev := n.aPrev } := by
  obtain ⟨c, x, n, computed, comp, fixed, due, kept⟩ := computeDue_computes o r p s
  obtain ⟨q, camera, begun, comp', reduced, fixed', underway⟩ :=
    beginFrame_begins (s := { s with op := some x, run := some n }) rfl
  refine ⟨q, c, n, camera, ?_, comp'.trans comp, fixed'.trans fixed, underway, ?_, kept⟩
  · simp only [endWaiting, op, run, phase, plan, computed, begun]
  · exact ⟨reduced.trans due.1, due.2⟩

theorem leaveWaking_schedule (source : o.source = .schedule) : leaveWaking o s = enterWaiting o s := by
  simp [leaveWaking, source]

/-- A SCHEDULE operation whose due lies ahead waits for it (R92, R93). -/
theorem leaveWaking_waits (source : o.source = .schedule) (ahead : ∀ r ∈ s.run, s.now < r.nextDue) :
    leaveWaking o s = { s with op := some { o with phase := .waiting } } := by
  rw [leaveWaking_schedule source]
  unfold enterWaiting
  dsimp only
  cases run : s.run with
  | none => rfl
  | some r => exact if_neg (Nat.not_le.2 (ahead r (by simp [run])))

theorem enterWaiting_due (run : s.run = some r) (due : r.nextDue ≤ s.now) :
    enterWaiting o s = endWaiting { s with op := some { o with phase := .waiting } } := by
  unfold enterWaiting
  dsimp only
  split
  · next x held =>
    obtain rfl : x = r := Option.some.inj (held.symm.trans run)
    exact if_pos due
  · next none => simp [run] at none

/-- A SCHEDULE operation whose due has been reached makes the due's computation (R92, R93). -/
theorem leaveWaking_computes (source : o.source = .schedule) (run : s.run = some r)
    (due : r.nextDue ≤ s.now) (plan : s.planAt r.plan = some p) :
    ∃ (q : Operation) (c : Computation) (n : Run) (camera : CameraPort),
      leaveWaking o s = { s with op := some q, run := some n, camera := camera } ∧
      q.comp = some c ∧ q.fixed = o.fixed ∧ q.phase.isUnderway = true ∧ DueComputation o r p s q c n ∧
      n = { r with eBase := n.eBase, aPrev := n.aPrev } := by
  obtain ⟨q, c, n, camera, ends, comp, fixed, underway, computed, kept⟩ := endWaiting_computes
    (s := { s with op := some { o with phase := .waiting } }) rfl rfl run plan
  refine ⟨q, c, n, camera, ?_, comp, fixed, underway, computed, kept⟩
  rw [leaveWaking_schedule source, enterWaiting_due run due, ends]

/-- An operation of another source makes its own computation, and its first frame begins (R55, R92). -/
theorem leaveWaking_held (source : o.source ≠ .schedule) (plan : o.plan? = some p) :
    ∃ (q : Operation) (c : Computation) (camera : CameraPort),
      leaveWaking o s = { s with op := some q, camera := camera } ∧
      q.comp = some c ∧ q.fixed = o.fixed ∧ q.phase.isUnderway = true ∧ HeldComputation o p s c := by
  obtain ⟨c, computed, held⟩ := computeOperation_computes o p s
  obtain ⟨q, camera, begun, comp, -, fixed, underway⟩ :=
    beginFrame_begins (s := { s with op := some { o with comp := some c } }) rfl
  refine ⟨q, c, camera, ?_, comp, fixed, underway, held⟩
  have leaves : leaveWaking o s = beginFrame (computeOperation o p s) := by
    unfold leaveWaking
    rw [plan]
    cases h : o.source with
    | schedule => exact absurd h source
    | external => rfl
    | manual => rfl
  rw [leaves, computed, begun]

/-! ### The raising rule in the tail -/

/-- The raising rule writes the run's late limit and the SCHEDULE slot alone (R84). -/
theorem raiseSchedule_eq (run : s.run = some r) : ∃ (limit : Nat) (slot : Option Request),
    raiseSchedule s =
      { s with run := some { r with lateLimit := limit }, arbiter := { s.arbiter with schedule := slot } } := by
  unfold raiseSchedule
  rw [run]
  dsimp only
  split
  · exact ⟨_, _, rfl⟩
  · exact ⟨r.lateLimit, s.arbiter.schedule, by rw [← run]⟩

/-- A WAKING that lasts leaves the tail no more than the raising rule. -/
theorem settle_waking (op : s.op = some o) (unasked : o.askReading = false)
    (lasts : ¬ (o.timedWake = true ∧ o.profile.wakeLead = 0)) (here : s.lending.port.hostSide = false) :
    settle s = raiseSchedule s := by
  have busy : (raiseSchedule s).op.isSome = true := by simp [op]
  have unlent : (raiseSchedule s).lending.port ≠ .lent := by
    intro lent
    rw [raiseSchedule_lending] at lent
    simp [lent, PortState.hostSide] at here
  have loaded : takeLoaded (raiseSchedule s) = raiseSchedule s := by simp [takeLoaded, op, unasked]
  have wakes : endZeroWake (raiseSchedule s) = raiseSchedule s := by
    unfold endZeroWake
    simp only [raiseSchedule_op, op]
    split
    · exact if_neg (by simpa using lasts)
    · rfl
  simp only [settle, raiseAndGrant, arbiterTest_busy busy, loaded, wakes, raiseSchedule_twice]
  rw [lendTest_idle (.inr busy), reclaimTest_idle unlent]

end

end Sys2Proof.Machine


/-! PROOFS. The end of WAKING (R92, R109), with the computation of the operation. -/

namespace Sys2Proof.Machine

theorem timedWake_iff (o : Operation) :
    o.timedWake = true ↔ o.rehearsal = true ∨ o.profile.wakeMode = .fixedTime := by
  simp [Operation.timedWake]

section
variable {s : Part} {o : Operation} {r : Run} {p : Plan}

/-- The tail after a frame has begun only raises the SCHEDULE request, and the run keeps what the
computation wrote. -/
theorem settle_computed {q : Operation} {n : Run} (op : s.op = some q) (run : s.run = some n)
    (unasked : q.askReading = false) (underway : q.phase.isUnderway = true)
    (here : s.lending.port.hostSide = false) :
    (settle s).op = some q ∧ (settle s).journal = s.journal ∧
      ∃ limit, (settle s).run = some { n with lateLimit := limit } := by
  rw [settle_busy op unasked (waking_of_underway underway) here]
  refine ⟨(raiseSchedule_op s).trans op, raiseSchedule_journal s, ?_⟩
  obtain ⟨limit, slot, raised⟩ := raiseSchedule_eq run
  exact ⟨limit, by rw [raised]⟩

theorem settle_leaveWaking_waits (source : o.source = .schedule) (unasked : o.askReading = false)
    (here : s.lending.port.hostSide = false) (ahead : ∀ r ∈ s.run, s.now < r.nextDue) :
    settle (leaveWaking o s) = raiseSchedule { s with op := some { o with phase := .waiting } } := by
  rw [leaveWaking_waits source ahead]
  exact settle_busy rfl unasked rfl here

theorem settle_leaveWaking_computes (source : o.source = .schedule) (unasked : o.askReading = false)
    (here : s.lending.port.hostSide = false) (run : s.run = some r) (due : r.nextDue ≤ s.now)
    (plan : s.planAt r.plan = some p) :
    ∃ (q : Operation) (c : Computation) (n : Run), (settle (leaveWaking o s)).op = some q ∧
      q.comp = some c ∧ q.phase.isUnderway = true ∧ (settle (leaveWaking o s)).run = some n ∧
      DueComputation o r p s q c n ∧ n.nextDue = r.nextDue := by
  obtain ⟨q, c, n, camera, leaves, comp, fixed, underway, computed, kept⟩ :=
    leaveWaking_computes source run due plan
  have quiet : q.askReading = false := (congrArg Operation.askReading fixed :).trans unasked
  obtain ⟨op, -, limit, ran⟩ := settle_computed
    (s := { s with op := some q, run := some n, camera := camera }) rfl rfl quiet underway here
  rw [leaves]
  exact ⟨q, c, { n with lateLimit := limit }, op, comp, underway, ran, computed,
    (congrArg Run.nextDue kept :)⟩

theorem settle_leaveWaking_held (source : o.source ≠ .schedule) (unasked : o.askReading = false)
    (here : s.lending.port.hostSide = false) (plan : o.plan? = some p) :
    ∃ (q : Operation) (c : Computation), (settle (leaveWaking o s)).op = some q ∧
      q.comp = some c ∧ q.phase.isUnderway = true ∧ HeldComputation o p s c ∧
      (settle (leaveWaking o s)).journal = s.journal ∧
      ∀ r, s.run = some r → ∃ limit, (settle (leaveWaking o s)).run = some { r with lateLimit := limit } := by
  obtain ⟨q, c, camera, leaves, comp, fixed, underway, held⟩ := leaveWaking_held (s := s) source plan
  have quiet : q.askReading = false := (congrArg Operation.askReading fixed :).trans unasked
  have busy : settle (leaveWaking o s) = raiseSchedule { s with op := some q, camera := camera } := by
    rw [leaves]
    exact settle_busy rfl quiet (waking_of_underway underway) here
  rw [busy]
  refine ⟨q, c, raiseSchedule_op _, comp, underway, held, raiseSchedule_journal _, fun r run => ?_⟩
  obtain ⟨limit, slot, raised⟩ := raiseSchedule_eq (s := { s with op := some q, camera := camera }) run
  exact ⟨limit, by rw [raised]⟩

end

/-- Settles O37: a SCHEDULE operation waits or makes the due's computation, another makes its own, and the
tail after it only raises the SCHEDULE request. -/
theorem wakingEnds : Obligations.WakingEnds := by
  intro s o d awake op phase unasked here
  dsimp only
  have after : ∀ (c : Instr) (camera : CameraPort),
      exec c s = .next (s.put (settle (leaveWaking o { s.part with camera := camera }))) →
      (o.source = .schedule → (∀ r ∈ s.part.run, s.part.now < r.nextDue) →
        exec c s = .next (s.put (raiseSchedule
          { s.part with camera := camera, op := some { o with phase := .waiting } }))) ∧
      (∀ r stored, o.source = .schedule → s.part.run = some r → r.nextDue ≤ s.part.now →
        s.part.planAt r.plan = some stored →
        ∃ (t : State) (q : Operation) (x : Computation) (n : Run), exec c s = .next t ∧
          t.pending = s.pending ∧ Kept false { s.part with camera := camera } t.part ∧
          t.part.op = some q ∧ q.comp = some x ∧
          q.phase.isUnderway = true ∧ t.part.run = some n ∧
          DueComputation o r stored s.part q x n ∧ n.nextDue = r.nextDue) ∧
      (∀ plan, o.source ≠ .schedule → o.plan? = some plan →
        ∃ (t : State) (q : Operation) (x : Computation), exec c s = .next t ∧
          t.pending = s.pending ∧ Kept false { s.part with camera := camera } t.part ∧
          t.part.op = some q ∧
          q.comp = some x ∧ q.phase.isUnderway = true ∧ HeldComputation o plan s.part x ∧
          t.part.journal = s.part.journal ∧
          ∀ r, s.part.run = some r → ∃ n, t.part.run = some n ∧ n.eBase = r.eBase ∧
            n.aPrev = r.aPrev ∧ n.bLast = r.bLast ∧ n.ring = r.ring) := by
    intro c camera acts
    have kept := (leaveWaking_kept (b := false) o { s.part with camera := camera }).trans (settle_kept _)
    refine ⟨fun source ahead => ?_, fun r stored source run due plan => ?_, fun plan source held => ?_⟩
    · rw [acts, settle_leaveWaking_waits (s := { s.part with camera := camera }) source unasked here ahead]
    · obtain ⟨q, x, n, op', comp, underway, run', computed, due'⟩ := settle_leaveWaking_computes
        (s := { s.part with camera := camera }) source unasked here run due plan
      exact ⟨_, q, x, n, acts, rfl, kept, op', comp, underway, run', computed, due'⟩
    · obtain ⟨q, x, op', comp, underway, computed, journal, runs⟩ := settle_leaveWaking_held
        (s := { s.part with camera := camera }) source unasked here held
      refine ⟨_, q, x, acts, rfl, kept, op', comp, underway, computed, journal, fun r run => ?_⟩
      obtain ⟨limit, run'⟩ := runs r run
      exact ⟨_, run', rfl, rfl, rfl, rfl⟩
  refine ⟨timedWake_iff o, fun timed out => ?_, fun ready out => ?_, fun fixed lead out => ?_⟩
  · have ends : endWaking s.part = leaveWaking o s.part := by simp only [endWaking, op, phase]
    exact after .wakeLeadElapsed s.part.camera
      ((exec_expiry (f := fun _ => endWaking) rfl awake (wakeEnds_eq op phase timed) out).trans
        (congrArg (fun p => Host.Outcome.next (s.put (settle p))) ends))
  · refine after .ready _ ((exec_message awake (f := takeReady) rfl out).trans ?_)
    simp [takeReady, cameraIdle, op, phase, ready]
  · refine (exec_message awake (f := takeReady) rfl out).trans ?_
    have ignored : takeReady (cameraIdle s.part) = cameraIdle s.part := by
      simp [takeReady, cameraIdle, op, phase, fixed]
    rw [ignored]
    exact congrArg (fun p => Host.Outcome.next (s.put p))
      (settle_waking (o := o) op unasked (fun h => absurd h.2 (by omega)) here)

end Sys2Proof.Machine


/-! PROOFS. How a frame moves on from phase to phase (R91, R94 to R96, R99), and the bytes of a SET
(R108). -/

namespace Sys2Proof.Machine

/-! ### The bytes of a frame on a wire -/

theorem putNat_word (w : BitVec 16) : putNat 2 w.toNat = [w.extractLsb' 8 8, w.extractLsb' 0 8] := by
  simp only [putNat, List.cons.injEq, and_true]
  constructor <;> refine BitVec.eq_of_toNat_eq ?_ <;>
    simp [byte_toNat, BitVec.extractLsb', Nat.shiftRight_eq_div_pow]

theorem byte_boolCode (b : Bool) : byte (boolCode b) = if b then 1#8 else 0#8 := by cases b <;> rfl

theorem setWire_eq (m : SetMessage) : m.wire =
    0xC3#8 :: ([4#8, 0x51#8, m.tag, if m.bulb then 1#8 else 0#8, BitVec.ofInt 8 m.s, BitVec.ofInt 8 m.g] ++
      putNat 2 (crc16 [4#8, 0x51#8, m.tag, if m.bulb then 1#8 else 0#8, BitVec.ofInt 8 m.s,
        BitVec.ofInt 8 m.g]).toNat) := by
  unfold SetMessage.wire
  rw [putInt_one, putInt_one, byte_boolCode]
  rfl

/-! ### Phases -/

section
variable {s : Part} {o : Operation}

theorem endFocus_eq (op : s.op = some o) : endFocus s = enterExposing o s := by simp [endFocus, op]

theorem takeAck_own {d : Option Elapsed} {tag : Byte} (op : s.op = some o) (phase : o.phase = .setting d)
    (own : o.tag = some tag) : takeAck tag s = enterFocusing { o with acked := true } s := by
  simp [takeAck, op, Operation.setsTag, phase, own]

theorem takeAck_other {tag : Byte} (op : s.op = some o) (other : o.tag ≠ some tag) :
    takeAck tag s = s := by
  have ignores : o.setsTag tag = false := by
    unfold Operation.setsTag
    split
    · simpa using other
    all_goals rfl
  simp [takeAck, op, ignores]

theorem takeReady_waiting (op : s.op = some o) (phase : o.phase = .waiting) : takeReady s = s := by
  simp [takeReady, op, phase]

theorem enterFocusing_none (none : o.profile.prefocus = 0) : enterFocusing o s = enterExposing o s :=
  if_pos none

theorem enterFocusing_timed (timed : 0 < o.profile.prefocus) : enterFocusing o s =
    { s with
      op := some { o with phase := .focusing (s.after o.profile.prefocus) }
      camera := { s.camera with focus := !o.rehearsal } } :=
  if_neg (by omega)

theorem takeCamAct_notes {d : Elapsed} (op : s.op = some o) (phase : o.phase = .exposing d) :
    takeCamAct true s = { s with op := some { o with camActSeen := true } } := by
  simp only [takeCamAct, op, phase]

theorem takeCamAct_starts {d : Elapsed} (op : s.op = some o) (phase : o.phase = .writing (.activity d)) :
    takeCamAct true s =
      { s with op := some { o with phase := .writing (.write (s.after (eighths o.profile.writeTimeout))) } } := by
  simp only [takeCamAct, op, phase]

theorem setGone_own {msg : SetMessage} (op : s.op = some o) (phase : o.phase = .setting none)
    (sends : s.camera.tx = some msg) (own : o.tag = some msg.tag) : setGone s =
    { s with
      camera := { s.camera with tx := none }
      op := some { o with phase := .setting (some (s.after o.profile.settingTimeout)) } } := by
  simp only [setGone, op, phase, sends, own]
  exact if_pos rfl

end

/-- A change of CAM_ACT in rehearsal is a level alone (R121). -/
theorem exec_camAct_rehearsal {s : State} (on : s.part.rehearsal = true) (active : Bool) :
    exec (.camActChange active) s =
      .next (s.put { s.part with pins := { s.part.pins with camAct := active } }) := by
  have acts : camActBecomes active s.part =
      { s.part with pins := { s.part.pins with camAct := active } } :=
    if_neg (by simp [on])
  rw [← acts]
  rfl

/-- The operation as a frame of it begins, before its first phase. -/
def Operation.fresh (o : Operation) : Operation :=
  { o with tag := none, acked := false, heldB := none, startAt := none, camActSeen := false }

section
variable {s : Part} {o : Operation}

theorem beginFrame_sets (op : s.op = some o) (settings : o.profile.lineMode = .settings)
    (out : o.rehearsal = false) : beginFrame s = enterSetting o.fresh s := by
  simp only [beginFrame, op]
  exact if_pos ⟨settings, out⟩

theorem beginFrame_unset (op : s.op = some o)
    (unset : o.profile.lineMode = .noSettings ∨ o.rehearsal = true) :
    beginFrame s = enterFocusing o.fresh s := by
  simp only [beginFrame, op]
  refine if_neg fun sets => ?_
  obtain none | on := unset
  · exact absurd (sets.1.symm.trans none) (by decide)
  · simp [on] at sets

end

/-- Settles O38: each event moves the frame to its next phase, and the tail only raises the SCHEDULE
request. -/
theorem framePhasesFollow : Obligations.FramePhasesFollow := by
  refine ⟨fun m => ?_, fun s o awake op unasked here same => ?_⟩
  · dsimp only
    rw [setWire_eq, putNat_word]
    rfl
  intro quiet exposing
  have goes {c : Instr} {p p' : Part} {q : Operation} (taken : exec c s = .next (s.put (settle p')))
      (enters : p' = p) (op : p.op = some q) (unasked : q.askReading = false)
      (phase : q.phase.isWaking = false) (here : p.lending.port.hostSide = false) :
      exec c s = .next (s.put (raiseSchedule p)) := by
    rw [taken, enters, settle_busy op unasked phase here]
  have opQuiet : (cameraIdle s.part).op = some o := op
  refine ⟨fun d phase out => ?_, fun d tag phase out => ⟨fun own none => ?_, fun own timed => ?_, fun other => ?_⟩,
    fun phase => ?_, ⟨fun d phase out => ?_, fun d phase out => ?_, fun rehearsal => ?_⟩,
    fun msg phase sends own out => ?_, fun d f phase out frame settings real => ?_,
    fun d phase out unset => ⟨fun none => ?_, fun timed => ?_⟩⟩
  · exact goes (exec_expiry (f := fun _ => endFocus) rfl awake (focusEnds_eq op phase) out)
      (endFocus_eq op) rfl unasked rfl here
  · exact goes (exec_message awake (f := takeAck tag) rfl (same.trans out))
      ((takeAck_own opQuiet phase own).trans (enterFocusing_none (o := { o with acked := true }) none))
      rfl unasked rfl here
  · refine (goes (exec_message awake (f := takeAck tag) rfl (same.trans out))
      ((takeAck_own opQuiet phase own).trans (enterFocusing_timed (o := { o with acked := true }) timed))
      rfl unasked rfl here).trans ?_
    rw [out]
    rfl
  · exact goes (exec_message awake (f := takeAck tag) rfl (same.trans out)) (takeAck_other opQuiet other)
      op unasked (by rw [phase]; rfl) here
  · cases on : s.part.rehearsal with
    | true =>
      exact goes (exec_message_ignored awake (f := takeReady) rfl on) rfl op unasked (by rw [phase]; rfl) here
    | false =>
      exact goes (exec_message awake (f := takeReady) rfl on) (takeReady_waiting opQuiet phase) op unasked
        (by rw [phase]; rfl) here
  · exact goes (exec_camAct awake true (same.trans out)) (takeCamAct_notes (o := o) op phase) rfl unasked
      (by dsimp only; rw [phase]; rfl) here
  · refine (goes (exec_camAct awake true (same.trans out)) (takeCamAct_starts (o := o) op phase) rfl unasked
      rfl here).trans ?_
    rfl
  · exact exec_camAct_rehearsal (same.trans rehearsal) true
  · exact goes (exec_expiry (f := fun _ => setGone) (due := Part.setSentAt) (d := s.part.camera.txEnds) rfl awake
      (by simp [Part.setSentAt, sends]) out) (setGone_own op phase sends own) rfl unasked rfl here
  · refine goes (exec_expiry (f := fun _ => beginFrame) rfl awake (spacingEnds_eq op phase) out)
      ((beginFrame_sets op settings real).trans ?_) rfl unasked rfl here
    have held : o.fresh.frame = some f := frame
    simp only [enterSetting, held]
    rfl
  · exact goes (exec_expiry (f := fun _ => beginFrame) rfl awake (spacingEnds_eq op phase) out)
      ((beginFrame_unset op unset).trans (enterFocusing_none (o := o.fresh) none)) rfl unasked rfl here
  · exact goes (exec_expiry (f := fun _ => beginFrame) rfl awake (spacingEnds_eq op phase) out)
      ((beginFrame_unset op unset).trans (enterFocusing_timed (o := o.fresh) timed)) rfl unasked rfl here

end Sys2Proof.Machine


/-! PROOFS. The arbiter: which request a grant takes, the operation that it fixes, and the decision to keep
the camera warm (R89, R90, R92, R104). -/

namespace Sys2Proof.Machine

/-! ### Which request is taken (R89, R90) -/

/-- The request of a source is pending, and the port admits it (R89). -/
def Part.admits (s : Part) (src : Source) : Prop :=
  (s.arbiter.slot src).isSome = true ∧
    (s.lending.port = .owned ∨ s.lending.port = .yielding ∧ src = .schedule)

/-- The best of the admitted sources that `seen` names (R90). -/
def Part.Best (s : Part) (seen : Source → Prop) : Option Source → Prop
  | none => ∀ src, seen src → ¬ s.admits src
  | some b => s.admits b ∧ ∀ src, seen src → s.admits src →
      s.tables.general.levelOf src ≤ s.tables.general.levelOf b ∧
      (s.tables.general.levelOf src = s.tables.general.levelOf b → b.code ≤ src.code)

section
variable {s : Part} {src : Source} {q : Request}

theorem admits_iff : ((s.arbiter.slot src).isSome && s.portAdmits src) = true ↔ s.admits src := by
  unfold Part.admits Part.portAdmits
  rw [Bool.and_eq_true]
  cases s.lending.port <;> simp

/-- A further source is picked over the best so far only where it is admitted at a higher level. -/
theorem pick_best {seen : Source → Prop} {best : Option Source} (h : s.Best seen best)
    (later : ∀ b, best = some b → b.code ≤ src.code) :
    s.Best (fun x => seen x ∨ x = src) (s.pick best src) := by
  unfold Part.pick
  split
  · next pending =>
    have admitted := admits_iff.mp pending
    cases best with
    | none =>
      refine ⟨admitted, fun x known ok => ?_⟩
      obtain old | rfl := known
      · exact absurd ok (h x old)
      · exact ⟨le_rfl, fun _ => le_rfl⟩
    | some b =>
      obtain ⟨ok, most⟩ := h
      have code := later b rfl
      dsimp only
      split
      · next higher =>
        refine ⟨admitted, fun x known fine => ?_⟩
        obtain old | rfl := known
        · obtain ⟨below, -⟩ := most x old fine
          exact ⟨by omega, by omega⟩
        · exact ⟨le_rfl, fun _ => le_rfl⟩
      · next lower =>
        refine ⟨ok, fun x known fine => ?_⟩
        obtain old | rfl := known
        · exact most x old fine
        · exact ⟨by omega, fun _ => code⟩
  · next refused =>
    have out : ¬ s.admits src := fun ok => refused (admits_iff.mpr ok)
    cases best with
    | none =>
      intro x known
      obtain old | rfl := known
      · exact h x old
      · exact out
    | some b =>
      obtain ⟨ok, most⟩ := h
      refine ⟨ok, fun x known fine => ?_⟩
      obtain old | rfl := known
      · exact most x old fine
      · exact absurd fine out

theorem pick_code {best : Option Source} {n : Nat} (h : ∀ b, best = some b → b.code ≤ n)
    (here : src.code ≤ n) : ∀ b, s.pick best src = some b → b.code ≤ n := by
  intro b picked
  unfold Part.pick at picked
  split at picked
  · split at picked
    · cases picked; exact here
    · split at picked
      · cases picked; exact here
      · cases picked; exact h _ rfl
  · exact h b picked

/-- The candidate is the best of all the sources (R90). -/
theorem candidate_best (s : Part) : s.Best (fun _ => True) s.candidate := by
  have first : s.Best (fun x => False ∨ x = .schedule) (s.pick none .schedule) :=
    pick_best (fun _ no => no.elim) (by simp)
  have least := pick_code (s := s) (src := .schedule) (best := none) (n := 0) (by simp) le_rfl
  have second := pick_best first (src := .external) (fun b h => (least b h).trans (Nat.zero_le _))
  have middle := pick_code (s := s) (src := .external) (n := 1)
    (fun b h => (least b h).trans (Nat.zero_le _)) le_rfl
  have third := pick_best second (src := .manual) (fun b h => (middle b h).trans (Nat.le_succ 1))
  have all (x : Source) : ((False ∨ x = .schedule) ∨ x = .external) ∨ x = .manual := by
    cases x <;> simp
  have candidate : s.pick (s.pick (s.pick none .schedule) .external) .manual = s.candidate := rfl
  rw [candidate] at third
  cases h : s.candidate with
  | none =>
    rw [h] at third
    exact fun x _ => third x (all x)
  | some b =>
    rw [h] at third
    exact ⟨third.1, fun x _ => third.2 x (all x)⟩

theorem candidate_none_iff : s.candidate = none ↔ ∀ src, ¬ s.admits src := by
  have best := candidate_best s
  cases h : s.candidate with
  | none =>
    rw [h] at best
    exact iff_of_true rfl (fun x => best x trivial)
  | some b =>
    rw [h] at best
    exact iff_of_false (by simp) (fun none => none b best.1)

/-- A source that alone is admitted is the candidate. -/
theorem candidate_of_only (ok : s.admits src) (only : ∀ x, s.admits x → x = src) :
    s.candidate = some src := by
  have best := candidate_best s
  cases h : s.candidate with
  | none => exact absurd ok (candidate_none_iff.mp h src)
  | some b =>
    rw [h] at best
    rw [only b best.1]

theorem arbiterTest_noCandidate (h : s.candidate = none) : arbiterTest s = s := by
  simp [arbiterTest, h]

theorem arbiterTest_barred (h : s.mayGrant = false) : arbiterTest s = s := by
  simp [arbiterTest, h]

theorem arbiterTest_hostSide (h : s.lending.port.hostSide = true) : arbiterTest s = s := by
  refine arbiterTest_noCandidate (candidate_none_iff.mpr fun src ok => ?_)
  obtain owned | ⟨yielding, -⟩ := ok.2
  · simp [owned, PortState.hostSide] at h
  · simp [yielding, PortState.hostSide] at h

theorem isHealthy_iff (h : Health) : h.isHealthy = true ↔ h = .healthy := by
  cases h <;> simp [Health.isHealthy]

theorem mayGrant_iff : s.mayGrant = true ↔ s.op = none ∧ s.health = .healthy ∧
    s.battery.level ≠ .critical ∧ s.awake = true ∧ s.hold = false := by
  simp only [Part.mayGrant, Bool.and_eq_true, Option.isNone_iff_eq_none, isHealthy_iff, bne_iff_ne,
    Bool.not_eq_true', and_assoc]

/-! ### The operation of a grant (R51, R90, R92) -/

/-- The operation of a grant in any later phase. -/
theorem formOperation_forms (s : Part) (src : Source) (q : Request) (phase : Phase) (asks : Bool) :
    GrantForms src q s { s.formOperation src q with phase := phase, askReading := asks } where
  source := rfl
  request := rfl
  profile := rfl
  plan := rfl
  window := rfl
  level := rfl
  rehearsal := rfl
  volts := rfl
  reduced := by
    simp only [Part.formOperation, reducesBurst_eq, Bool.and_eq_true, bne_iff_ne, Bool.or_eq_true,
      beq_iff_eq, Option.any_eq_true]
    tauto
  unasked := ⟨rfl, rfl, rfl⟩

/-- Passing on from WAKING changes the operation, the run and the camera's lines alone. -/
theorem beginFrame_eq (s : Part) : ∃ (op : Option Operation) (camera : CameraPort),
    beginFrame s = { s with op := op, camera := camera } := by
  cases h : s.op with
  | none =>
    have idle : beginFrame s = s := by simp [beginFrame, h]
    exact ⟨s.op, s.camera, idle⟩
  | some o =>
    obtain ⟨q, camera, begun, -⟩ := beginFrame_begins h
    exact ⟨_, _, begun⟩

theorem endWaiting_eq (s : Part) : ∃ (op : Option Operation) (run : Option Run) (camera : CameraPort),
    endWaiting s = { s with op := op, run := run, camera := camera } := by
  unfold endWaiting
  split
  · split
    · next p _ _ =>
      obtain ⟨op, camera, begun⟩ := beginFrame_eq (computeDue _ _ p s)
      exact ⟨op, _, camera, begun⟩
    · exact ⟨s.op, s.run, s.camera, rfl⟩
  · exact ⟨s.op, s.run, s.camera, rfl⟩

theorem leaveWaking_eq (o : Operation) (s : Part) :
    ∃ (op : Option Operation) (run : Option Run) (camera : CameraPort),
      leaveWaking o s = { s with op := op, run := run, camera := camera } := by
  have held (p : Plan) : ∃ (op : Option Operation) (run : Option Run) (camera : CameraPort),
      beginFrame (computeOperation o p s) = { s with op := op, run := run, camera := camera } := by
    obtain ⟨op, camera, begun⟩ := beginFrame_eq (computeOperation o p s)
    exact ⟨op, s.run, camera, begun⟩
  unfold leaveWaking
  split
  · unfold enterWaiting
    dsimp only
    split
    · split
      · obtain ⟨op, run, camera, ends⟩ :=
          endWaiting_eq { s with op := some { o with phase := .waiting } }
        exact ⟨op, run, camera, ends⟩
      · exact ⟨_, s.run, s.camera, rfl⟩
    · exact ⟨_, s.run, s.camera, rfl⟩
  · exact held _
  · exact held _
  · exact ⟨s.op, s.run, s.camera, rfl⟩
  · exact ⟨s.op, s.run, s.camera, rfl⟩

/-- A grant changes the slots, the holders, the wake period of a lend, the operation, the run and the
camera's lines alone (R90). -/
theorem grant_eq (slot : s.arbiter.slot src = some q) :
    ∃ (op : Option Operation) (run : Option Run) (camera : CameraPort),
      grant src s = { s.granted src with op := op, run := run, camera := camera } := by
  cases power : s.camPwr with
  | false => exact ⟨_, s.run, s.camera, grant_off slot power⟩
  | true =>
    obtain ⟨op, run, camera, leaves⟩ := leaveWaking_eq (s.formOperation src q)
      { s.granted src with op := some (s.formOperation src q) }
    exact ⟨op, run, camera, (grant_on slot power).trans leaves⟩

theorem granted_slot (s : Part) (src : Source) : (s.granted src).arbiter.slot src = none := by
  cases src <;> rfl

theorem granted_otherSlot {other : Source} (h : other ≠ src) :
    (s.granted src).arbiter.slot other = s.arbiter.slot other := by
  cases src <;> cases other <;> simp_all [Part.granted, Arbiter.clear, Arbiter.slot]

theorem granted_lastExternal (s : Part) (src : Source) : (s.granted src).arbiter.lastExternal =
    if src = .external then some s.time.elapsed else s.arbiter.lastExternal := by
  cases src <;> rfl

end

/-! ### Keep warm (R104, R105, R149) -/

theorem keepsWarm_iff (s : Part) (prof : Profile) : s.keepsWarm prof = true ↔
    s.battery.level = .normal ∧ s.health = .healthy ∧ s.engine = .armed ∧
      ∃ r, s.run = some r ∧ r.state = .active ∧
        (r.nextDue : Int) - 4096 * prof.wakeLead - s.now ≤ 4096 * prof.keepWarmLimit := by
  unfold Part.keepsWarm
  cases s.run with
  | none => simp
  | some r =>
    simp only [Bool.and_eq_true, beq_iff_eq, isHealthy_iff, Part.serves, decide_eq_true_eq, eighths_eq,
      Option.some.injEq, exists_eq_left', and_assoc]
    have near : r.nextDue ≤ s.now + 4096 * prof.wakeLead + 4096 * prof.keepWarmLimit ↔
        (r.nextDue : Int) - 4096 * prof.wakeLead - s.now ≤ 4096 * prof.keepWarmLimit := by omega
    rw [near]

theorem endRun_run {s : Part} {r : Run} (run : s.run = some r) :
    (endRun s).run = none ∨ ∃ n, (endRun s).run = some n ∧ n.state = .ending := by
  unfold endRun
  split
  · rw [enterEnding_eq run]
    exact .inr ⟨_, rfl, rfl⟩
  · rw [finishRun_eq run, raiseNotice_run]
    exact .inl rfl

theorem setEngine_cools {e : EngineState} (h : e ≠ .armed) (s : Part) :
    (setEngine e s).engine = e ∧ (setEngine e s).holders = { s.holders with keepWarm := false } := by
  unfold setEngine
  rw [if_neg h]
  exact ⟨rfl, rfl⟩

/-- A level that falls from NORMAL lets the camera cool (R104, R149). -/
theorem changeLevel_cools {s : Part} {new : Level} (normal : s.battery.level = .normal)
    (worse : new ≠ .normal) : (changeLevel new s).holders.keepWarm = false := by
  have excluded (t : Part) : (excludeHolders .normal new t).holders.keepWarm = false := by
    unfold excludeHolders
    extract_lets dropped entered
    have cool : dropped.holders.keepWarm = false := by
      have drops : dropped = dropKeepWarm t := if_pos ⟨rfl, worse⟩
      rw [drops]
      rfl
    have stays : entered.holders.keepWarm = false := by
      unfold entered
      split
      · exact (criticalEntry_regrading _).1.warm cool
      · exact cool
    exact (raiseAndGrant_granting _).warm stays
  unfold changeLevel
  dsimp only
  rw [normal, if_neg (by decide)]
  exact (reEvaluate_regrading _).warm (excluded _)

/-- Settles O35. -/
theorem grantAndKeepWarm : Obligations.GrantAndKeepWarm := by
  refine ⟨fun s => ?_, fun s => ?_, fun o s => ⟨keepsWarm_iff s o.profile, rfl⟩, fun s => ⟨fun some => ?_,
    fun e leaves => setEngine_cools leaves s, fun new normal worse =>
      ⟨congrArg Battery.level (changeLevel_regrading new s).2, changeLevel_cools normal worse⟩⟩⟩
  · refine ⟨rfl, rfl, rfl, rfl, rfl, rfl, fun plan => ⟨rfl, fun p held => ?_⟩⟩
    simp [Part.profileOfPlan, held]
  · intro admits
    refine ⟨arbiterTest_barred, candidate_none_iff, arbiterTest_noCandidate, mayGrant_iff,
      arbiterTest_hostSide, fun src takes => ?_, fun src q may takes slot => ?_⟩
    · have best := candidate_best s
      rw [takes] at best
      exact ⟨best.1, fun other ok => best.2 other trivial ok⟩
    have grants := arbiterTest_grants may takes
    obtain ⟨op, run, camera, same⟩ := grant_eq slot
    rw [grants]
    refine ⟨?_, fun other differs => ?_, ?_, ?_, ?_, ?_, fun off => ?_, fun on => ?_⟩
    · rw [same]; exact granted_slot s src
    · rw [same]; exact granted_otherSlot differs
    · rw [same]; exact granted_lastExternal s src
    · rw [same]; rfl
    · rw [same]; rfl
    · rw [same]; rfl
    · refine ⟨_, congrArg Part.op (grant_off slot off), formOperation_forms s src q _ _, ?_, ?_⟩
      · simp [Part.formOperation, eighths_eq]
      · simp
    · refine ⟨s.formOperation src q, formOperation_forms s src q _ _, fun schedule ahead => ?_,
        fun r p schedule run due plan => ?_, fun p held plan => ?_⟩
      · refine ⟨_, ?_, formOperation_forms s src q .waiting false, rfl, rfl⟩
        have waits := leaveWaking_waits (o := s.formOperation src q)
          (s := { s.granted src with op := some (s.formOperation src q) }) schedule ahead
        exact congrArg Part.op ((grant_on slot on).trans waits)
      · obtain ⟨x, c, n, camera, leaves, comp, fixed, underway, due, -⟩ := leaveWaking_computes
          (s := { s.granted src with op := some (s.formOperation src q) })
          (o := s.formOperation src q) schedule run due plan
        rw [grant_on slot on, leaves]
        exact ⟨x, c, n, rfl, (congrArg Operation.source fixed :), (congrArg Operation.request fixed :),
          (congrArg Operation.askReading fixed :), comp, underway, rfl, due⟩
      · obtain ⟨x, c, camera, leaves, comp, fixed, underway, computed⟩ := leaveWaking_held
          (s := { s.granted src with op := some (s.formOperation src q) })
          (o := s.formOperation src q) held ((if_neg held).trans plan)
        rw [grant_on slot on, leaves]
        exact ⟨x, c, rfl, (congrArg Operation.source fixed :), (congrArg Operation.request fixed :),
          (congrArg Operation.askReading fixed :), comp, underway, computed⟩
  · obtain ⟨r, run⟩ := Option.isSome_iff_exists.mp some
    exact ⟨(endRun_slots run).2, endRun_run run⟩

end Sys2Proof.Machine


/-! PROOFS. Wake times and dues (R75, R84, R85, R93): when the SCHEDULE request is raised and granted, and
what a wake time and a due that are reached do. -/

namespace Sys2Proof.Machine

/-! ### The raising rule (R84, R85) -/

/-- The SCHEDULE request may be raised for the run's next due (R85). -/
def Part.Opens (s : Part) (r : Run) : Prop :=
  s.awake = true ∧ s.hold = false ∧ s.engine = .armed ∧ r.state = .active ∧
    r.wakeReached = true ∧ s.arbiter.schedule = none ∧
    (∀ o ∈ s.op, o.source = .schedule → o.settled = true) ∧
    s.now ≤ r.nextDue + 4096 * s.tables.general.lateLimit

/-- The request that is raised for the run's next due (R84). -/
def Part.dueRequest (s : Part) (r : Run) : Request :=
  ⟨r.plan, some r.nextDue, s.now, s.time.elapsed, none, s.tables.general.lateLimit⟩

/-- What forbids every grant (R89). -/
def Part.Barred (s : Part) : Prop :=
  s.health ≠ .healthy ∨ s.battery.level = .critical ∨ s.lending.port.hostSide = true

section
variable {s : Part} {r : Run}

theorem raisable_iff : (s.raisable r && r.wakeReached) = true ↔ s.Opens r := by
  have held : s.dueGranted = false ↔ ∀ o ∈ s.op, o.source = .schedule → o.settled = true := by
    unfold Part.dueGranted
    cases s.op with
    | none => simp
    | some o => simp [← Bool.not_eq_true]
  simp only [Part.raisable, Part.serves, Bool.and_eq_true, Bool.not_eq_true', beq_iff_eq,
    Option.isNone_iff_eq_none, decide_eq_false_iff_not, eighths_eq, held, Nat.not_lt, Part.Opens]
  tauto

theorem raiseSchedule_raises (run : s.run = some r) (may : s.Opens r)
    (called : s.camPwr = false ∨ r.nextDue ≤ s.now) : raiseSchedule s =
      { s with
        run := some { r with lateLimit := s.tables.general.lateLimit }
        arbiter := { s.arbiter with schedule := some (s.dueRequest r) } } := by
  unfold raiseSchedule
  rw [run]
  refine if_pos ?_
  rw [raisable_iff.mpr may]
  simpa using called

theorem raiseSchedule_silent (run : s.run = some r)
    (not : ¬ (s.Opens r ∧ (s.camPwr = false ∨ r.nextDue ≤ s.now))) : raiseSchedule s = s := by
  unfold raiseSchedule
  rw [run]
  refine if_neg fun raises => not ?_
  rw [Bool.and_eq_true, raisable_iff] at raises
  exact ⟨raises.1, by simpa using raises.2⟩

end

/-! ### The request in the tail of its step (R85, R89) -/

section
variable {s : Part}

theorem reclaimTest_slots (s : Part) :
    (reclaimTest s).op = s.op ∧ (reclaimTest s).arbiter = s.arbiter := by
  unfold reclaimTest reclaim
  split
  · rw [raiseNotice_eq]
    exact ⟨rfl, rfl⟩
  · exact ⟨rfl, rfl⟩

/-- A pending SCHEDULE request that is not granted waits in its slot through the tail of the step. -/
theorem settle_waits (op : s.op = none)
    (pending : (raiseSchedule s).arbiter.schedule.isSome = true)
    (idle : arbiterTest (raiseSchedule s) = raiseSchedule s) :
    (settle s).op = none ∧ (settle s).arbiter = (raiseSchedule s).arbiter := by
  have loaded : takeLoaded (raiseSchedule s) = raiseSchedule s := by simp [takeLoaded, op]
  have waking : endZeroWake (raiseSchedule s) = raiseSchedule s := by simp [endZeroWake, op]
  have unlent : lendTest (raiseSchedule s) = raiseSchedule s := by
    unfold lendTest Part.lendable
    refine if_neg ?_
    cases slot : (raiseSchedule s).arbiter.schedule with
    | none => simp [slot] at pending
    | some q => simp
  have tail : settle s = reclaimTest (raiseSchedule s) := by
    simp only [settle, raiseAndGrant, idle, loaded, waking, raiseSchedule_twice, unlent]
  obtain ⟨op', arbiter⟩ := reclaimTest_slots (raiseSchedule s)
  rw [tail]
  exact ⟨op'.trans ((raiseSchedule_op s).trans op), arbiter⟩

/-- A loaded reading leaves the operation its request, and an emptied SCHEDULE slot empty. -/
theorem takeLoaded_keeps {o : Operation} (op : s.op = some o) :
    (∃ x, (takeLoaded s).op = some x ∧ x.source = o.source ∧ x.request = o.request ∧ x.settled = o.settled) ∧
      (s.dueGranted = true → s.arbiter.schedule = none → (takeLoaded s).arbiter.schedule = none) := by
  cases asks : o.askReading with
  | false =>
    have same : takeLoaded s = s := by simp [takeLoaded, op, asks]
    rw [same]
    exact ⟨⟨o, op, rfl, rfl, rfl⟩, fun _ none => none⟩
  | true =>
    rw [takeLoaded_asked op asks]
    have regrading := judgeReading_regrading (s.sample .loaded)
      { s with op := some { o with askReading := false, volts := some (s.sample .loaded).volts } }
    obtain ⟨x, held, fixed⟩ := regrading.op _ rfl
    refine ⟨⟨x, held, (congrArg Operation.source fixed :), (congrArg Operation.request fixed :),
      (congrArg Operation.settled fixed :)⟩, fun granted none => regrading.schedule ?_ none⟩
    simpa only [Part.dueGranted, op] using granted

/-- A request that the tail of a step grants goes on as its operation. -/
theorem settle_grants {src : Source} {q : Request} (may : (raiseSchedule s).mayGrant = true)
    (takes : (raiseSchedule s).candidate = some src)
    (slot : (raiseSchedule s).arbiter.slot src = some q) :
    ∃ o, (settle s).op = some o ∧ o.source = src ∧ o.request = q ∧
      (src = .schedule → (settle s).arbiter.schedule = none) := by
  have grants : raiseAndGrant s = grant src (raiseSchedule s) := arbiterTest_grants may takes
  obtain ⟨o, op, source, request, settled⟩ : ∃ o, (raiseAndGrant s).op = some o ∧ o.source = src ∧
      o.request = q ∧ o.settled = false := by
    rw [grants]
    cases power : (raiseSchedule s).camPwr with
    | false => exact ⟨_, congrArg Part.op (grant_off slot power), rfl, rfl, rfl⟩
    | true =>
      rw [grant_on slot power]
      obtain ⟨x, held, fixed⟩ := (leaveWaking_granting (s := { (raiseSchedule s).granted src with
        op := some ((raiseSchedule s).formOperation src q) }) rfl).op _ rfl
      exact ⟨x, held, (congrArg Operation.source fixed :), (congrArg Operation.request fixed :),
        (congrArg Operation.settled fixed :)⟩
  obtain ⟨⟨x, held, source', request', settled'⟩, empties⟩ := takeLoaded_keeps op
  have rest := restOfTail_granting (takeLoaded (raiseAndGrant s))
  obtain ⟨y, held', fixed⟩ := rest.op x held
  refine ⟨y, held', ((congrArg Operation.source fixed :).trans source').trans source,
    ((congrArg Operation.request fixed :).trans request').trans request, fun schedule => ?_⟩
  have emptied : (raiseAndGrant s).arbiter.schedule = none := by
    obtain ⟨op', run, camera, same⟩ := grant_eq slot
    rw [grants, same, schedule]
    rfl
  refine rest.schedule ?_ (empties ?_ emptied)
  · simp [Part.dueGranted, held, source', source, schedule, settled', settled]
  · simp [Part.dueGranted, op, source, schedule, settled]

section
variable {r : Run} (run : s.run = some r) (may : s.Opens r) (called : s.camPwr = false ∨ r.nextDue ≤ s.now)
  (op : s.op = none)

include run may called op

/-- A request that is raised where no grant may be made waits in its slot (R85, R89). -/
theorem settle_raises_barred (barred : s.Barred) :
    (settle s).op = none ∧ (settle s).arbiter.schedule = some (s.dueRequest r) := by
  have raises := raiseSchedule_raises run may called
  have idle : arbiterTest (raiseSchedule s) = raiseSchedule s := by
    rw [raises]
    obtain health | critical | lent := barred
    · exact arbiterTest_barred (Bool.eq_false_iff.mpr fun ok => health (mayGrant_iff.mp ok).2.1)
    · exact arbiterTest_barred (Bool.eq_false_iff.mpr fun ok => (mayGrant_iff.mp ok).2.2.1 critical)
    · exact arbiterTest_hostSide lent
  obtain ⟨none, slots⟩ := settle_waits op (by rw [raises]; rfl) idle
  exact ⟨none, by rw [slots, raises]⟩

/-- A request that is raised where nothing else is pending and nothing forbids it is granted at once
(R85, R89). -/
theorem settle_raises_granted (external : s.arbiter.external = none) (manual : s.arbiter.manual = none)
    (free : ¬ s.Barred) :
    ∃ o, (settle s).op = some o ∧ o.source = .schedule ∧ o.request = s.dueRequest r ∧
      (settle s).arbiter.schedule = none := by
  have raises := raiseSchedule_raises run may called
  obtain ⟨health, critical, here⟩ : s.health = .healthy ∧ s.battery.level ≠ .critical ∧
      s.lending.port.hostSide = false := by
    simpa [Part.Barred, not_or] using free
  obtain ⟨awake, hold, -⟩ := may
  have allowed : (raiseSchedule s).mayGrant = true := by
    rw [raises]
    exact mayGrant_iff.mpr ⟨op, health, critical, awake, hold⟩
  have admits : (raiseSchedule s).admits .schedule := by
    rw [raises]
    refine ⟨rfl, ?_⟩
    show s.lending.port = .owned ∨ s.lending.port = .yielding ∧ _
    cases port : s.lending.port <;> simp_all [PortState.hostSide]
  have takes : (raiseSchedule s).candidate = some .schedule := by
    refine candidate_of_only admits fun x ok => ?_
    rw [raises] at ok
    cases x with
    | schedule => rfl
    | external => exact absurd ok.1 (by simp [Arbiter.slot, external])
    | manual => exact absurd ok.1 (by simp [Arbiter.slot, manual])
  obtain ⟨o, held, source, request, emptied⟩ :=
    settle_grants allowed takes (q := s.dueRequest r) (by rw [raises]; rfl)
  exact ⟨o, held, source, request, emptied rfl⟩

end

/-! ### A wake time and a due that are reached (R75, R93) -/

variable {r : Run}

theorem takeWake_eq (run : s.run = some r) :
    takeWake s = readIfIdle { s with run := some { r with wakeReached := true } } := by
  simp only [takeWake, run]
  rfl

theorem readIfIdle_idle (idle : s.meter.state = .idle) : readIfIdle s =
    { s with meter := { s.meter with
        state := .measuring ⟨s.meter.startGate, 0, s.after (gateTicks s.meter.startGate)⟩, count := 0 } } := by
  simp only [readIfIdle, idle]
  rfl

theorem readIfIdle_busy (busy : s.meter.state ≠ .idle) : readIfIdle s = s := by
  unfold readIfIdle
  split
  · next idle => exact absurd idle busy
  · rfl
  · rfl

theorem readIfIdle_running (s : Part) : (readIfIdle s).meter.state ≠ .idle := by
  by_cases idle : s.meter.state = .idle
  · rw [readIfIdle_idle idle]
    simp
  · rw [readIfIdle_busy idle]
    exact idle

/-- A reading that begins changes the meter alone. -/
theorem readIfIdle_eq (s : Part) : readIfIdle s = { s with meter := (readIfIdle s).meter } := by
  by_cases idle : s.meter.state = .idle
  · rw [readIfIdle_idle idle]
  · rw [readIfIdle_busy idle]

/-- The look at a next due changes whether its wake time is taken, and the meter's reading (R75). -/
theorem noteNextDue_eq (run : s.run = some r) : ∃ (wake : Bool) (meter : Meter),
    noteNextDue s = { s with run := some { r with wakeReached := wake }, meter := meter } ∧
      meter.latest = s.meter.latest := by
  unfold noteNextDue
  rw [run]
  dsimp only
  split
  · split
    · exact ⟨false, s.meter, rfl, rfl⟩
    · split
      · exact ⟨r.wakeReached, s.meter, by rw [← run], rfl⟩
      · refine ⟨true, _, readIfIdle_eq _, ?_⟩
        by_cases idle : s.meter.state = .idle
        · rw [readIfIdle_idle (by exact idle)]
        · rw [readIfIdle_busy (by exact idle)]
  · exact ⟨r.wakeReached, s.meter, by rw [← run], rfl⟩

theorem noteNextDue_lending (s : Part) : (noteNextDue s).lending = s.lending := by
  cases run : s.run with
  | none => simp [noteNextDue, run]
  | some r =>
    obtain ⟨_, _, same, -⟩ := noteNextDue_eq run
    rw [same]

theorem endWaiting_noOp (none : ∀ o ∈ s.op, o.phase ≠ .waiting) : endWaiting s = s := by
  unfold endWaiting
  split
  · next o _ held _ =>
    split
    · next waiting _ => exact absurd waiting (none o held)
    · rfl
  · rfl

theorem takeDue_kept {b : Bool} (unclaimed : s.lending.port ≠ .reclaiming) : Kept b s (takeDue s) := by
  unfold takeDue
  split
  · exact .refl s
  · next r _ =>
    have noted := noteNextDue_kept (b := b) { s with run := some { r with dueReached := true } }
    dsimp only
    rw [if_neg (fun h => unclaimed (by rw [← h.1, noteNextDue_lending]))]
    exact ((kept_edit s).trans noted).trans (endWaiting_kept _)

/-- A due that is reached with no operation in WAITING, its wake time taken, is only marked (R93). -/
theorem takeDue_marks (run : s.run = some r) (wake : r.wakeReached = true) (past : r.nextDue ≤ s.now)
    (unclaimed : s.lending.port ≠ .reclaiming) (none : ∀ o ∈ s.op, o.phase ≠ .waiting) :
    takeDue s = { s with run := some { r with dueReached := true } } := by
  have noted : noteNextDue { s with run := some { r with dueReached := true } } =
      { s with run := some { r with dueReached := true } } := by
    unfold noteNextDue
    dsimp only
    split
    · have taken : ¬ s.now < s.wakeTime r := by unfold Part.wakeTime; omega
      exact if_neg taken
    · rfl
  simp only [takeDue, run]
  rw [noted, if_neg (fun h => unclaimed h.1)]
  exact endWaiting_noOp none

/-- A due that is reached ends WAITING with its computation and the first frame (R54, R93). -/
theorem takeDue_computes {o : Operation} {p : Plan} (run : s.run = some r) (op : s.op = some o)
    (phase : o.phase = .waiting) (unclaimed : s.lending.port ≠ .reclaiming)
    (plan : s.planAt r.plan = some p) :
    ∃ (q : Operation) (c : Computation) (n : Run) (meter : Meter) (camera : CameraPort),
      takeDue s = { s with op := some q, run := some n, meter := meter, camera := camera } ∧
      q.comp = some c ∧ q.fixed = o.fixed ∧ q.phase.isUnderway = true ∧ DueComputation o r p s q c n ∧
      n.nextDue = r.nextDue ∧ n.k = r.k ∧ n.dueReached = true ∧ n.state = r.state := by
  obtain ⟨wake, meter, noted, latest⟩ :=
    noteNextDue_eq (s := { s with run := some { r with dueReached := true } }) rfl
  obtain ⟨q, c, n, camera, ends, comp, fixed, underway, computed, kept⟩ := endWaiting_computes
    (s := { s with run := some { r with dueReached := true, wakeReached := wake }, meter := meter })
    op phase rfl plan
  refine ⟨q, c, n, meter, camera, ?_, comp, fixed, underway, computed.congr rfl latest.symm rfl rfl,
    (congrArg Run.nextDue kept :), (congrArg Run.k kept :), (congrArg Run.dueReached kept :),
    (congrArg Run.state kept :)⟩
  simp only [takeDue, run]
  rw [noted, if_neg (fun h => unclaimed h.1)]
  exact ends

end

/-- Settles O25: the raising rule is split by whether the due is open and called for; the tail grants the
request or leaves it in its slot. -/
theorem wakeTimesAndDuesActOnce : Obligations.WakeTimesAndDuesActOnce := by
  refine ⟨fun s m => ⟨?_, ?_⟩, fun s none => raiseSchedule_noRun none, fun s r run => ?_, ?_, ?_, ?_, ?_⟩
  · unfold Part.wakeMoment
    cases s.run with
    | none => simp
    | some r =>
      simp only [Part.serves, Part.wakeTime, Part.wakeLead, eighths_eq, Option.some.injEq, exists_eq_left']
      by_cases may : (s.engine == .armed && r.state == .active && !r.wakeReached) = true
      · rw [if_pos may]
        simp only [Bool.and_eq_true, beq_iff_eq, Bool.not_eq_true'] at may
        obtain ⟨⟨armed, active⟩, untaken⟩ := may
        simp [armed, active, untaken, eq_comm (a := m)]
      · rw [if_neg may]
        simp only [Bool.and_eq_true, beq_iff_eq, Bool.not_eq_true'] at may
        exact iff_of_false (by simp) fun ⟨armed, active, untaken, _⟩ => may ⟨⟨armed, active⟩, untaken⟩
  · unfold Part.dueMoment
    cases s.run with
    | none => simp
    | some r =>
      simp only [Option.some.injEq, exists_eq_left']
      cases r.dueReached <;> simp [eq_comm]
  · intro limit q opens called barred
    refine ⟨fun may calls => raiseSchedule_raises run may calls, fun not => raiseSchedule_silent run not,
      fun may calls op external manual => ⟨fun h => settle_raises_barred run may calls op h,
        fun h => settle_raises_granted run may calls op external manual h⟩,
      fun o op unasked phase here => settle_busy op unasked phase here⟩
  · intro s r b awake empty hold run engine active wake op schedule external manual health level port
      holders past value
    obtain ⟨on, switched, keeps⟩ : ∃ on, fieldNat 0 1 [b] ≤ 1 ∧ (fieldNat 0 1 [b] == 1) = on :=
      ⟨_, (beNat_singleton b).le.trans value, rfl⟩
    have handled : handleRehearsal [b] s.part = done (.ok [byte (boolCode s.part.rehearsal)])
        (dropKeepWarm (putRehearsal on s.part)) := by
      unfold handleRehearsal
      dsimp only
      rw [if_neg (by simp), if_neg (by omega), if_neg (by simp [op, port, health, Health.isRecovering]), keeps]
    have cold : (dropKeepWarm (putRehearsal on s.part)).camPwr = false := by
      simp [Part.camPwr, dropKeepWarm, holders, Holders.any]
    have opens : (dropKeepWarm (putRehearsal on s.part)).Opens r := by
      refine ⟨?_, ?_, ?_, active, wake, ?_, ?_, ?_⟩
      · simpa [dropKeepWarm, Part.awake] using awake
      · simpa [dropKeepWarm] using hold
      · simpa [dropKeepWarm] using engine
      · simpa [dropKeepWarm] using schedule
      · simp [dropKeepWarm, op]
      · simpa [dropKeepWarm, Part.now] using past
    have free : ¬ (dropKeepWarm (putRehearsal on s.part)).Barred := by
      simp [Part.Barred, dropKeepWarm, health, level, port, PortState.hostSide]
    obtain ⟨o, held, source, request, -⟩ := settle_raises_granted
      (s := dropKeepWarm (putRehearsal on s.part)) (r := r) (by simp [dropKeepWarm, run]) opens (.inl cold)
      (by simp [dropKeepWarm, op]) (by simp [dropKeepWarm, external]) (by simp [dropKeepWarm, manual]) free
    refine ⟨_, o, exec_done (f := handleRehearsal [b]) rfl awake empty handled, rfl, ?_, source, ?_⟩
    · simpa [State.put] using held
    · rw [request]
      simp [Part.dueRequest, dropKeepWarm, Part.now]
  · intro s r awake run unreached past range engine active wake unclaimed none
    have stands : s.part.dueMoment = some r.nextDue := by simp [Part.dueMoment, run, unreached]
    rw [exec_arrival (f := takeDue) (moment := Part.dueMoment) (c := .dueReached) rfl awake stands past range,
      takeDue_marks run wake past unclaimed none]
  · intro s m awake moment past range
    obtain ⟨r, run⟩ : ∃ r, s.part.run = some r := by
      cases run : s.part.run with
      | none => simp [Part.wakeMoment, run] at moment
      | some r => exact ⟨r, rfl⟩
    have takes := takeWake_eq run
    have runs : (takeWake s.part).run = some { r with wakeReached := true } := by
      rw [takes, readIfIdle_eq]
    have meter : (settle (takeWake s.part)).meter = (takeWake s.part).meter :=
      settle_meter (.inl (by rw [takes]; exact readIfIdle_running _))
    refine ⟨_, exec_arrival (f := takeWake) (moment := Part.wakeMoment) rfl awake moment past range, rfl, ?_,
      fun idle => ?_, fun busy => ?_, fun x held => ?_, fun unasked quiet => ?_⟩
    · rw [takes]
      exact ((kept_edit s.part).trans (readIfIdle_kept _)).trans (settle_kept _)
    · refine meter.trans ?_
      rw [takes, readIfIdle_idle (by exact idle)]
      rfl
    · refine meter.trans ?_
      rw [takes, readIfIdle_busy (by exact busy)]
    · obtain rfl : r = x := Option.some.inj (run.symm.trans held)
      have shape : takeWake s.part =
          { s.part with run := some { r with wakeReached := true }, meter := (takeWake s.part).meter } := by
        rw [takes]
        exact readIfIdle_eq _
      exact congrArg settle (shape.trans (congrArg (fun meter => ({ s.part with
        run := some { r with wakeReached := true }, meter := meter } : Part)) meter.symm))
    · have kept : Kept false s.part (takeWake s.part) := by
        rw [takes]
        exact (kept_edit s.part).trans (readIfIdle_kept _)
      have same : (takeWake s.part).op = s.part.op ∧ (takeWake s.part).holders = s.part.holders := by
        rw [takes, readIfIdle_eq]
        exact ⟨rfl, rfl⟩
      have granting := settle_granting_of_quiet (s := takeWake s.part) (by rw [same.1]; exact unasked) (by
        rw [kept.rehearsal, kept.monitor, Part.camPwr, same.2, (kept.health rfl).1]
        exact quiet.imp_right (Or.imp_right fun riding => by simp [riding]))
      obtain ⟨n, run', fixed⟩ := granting.someRun runs
      have taken : n.wakeReached = true := (congrArg Run.wakeReached fixed :)
      simp [Part.wakeMoment, State.put, run', taken]
  · intro s r o p awake run unreached past range op phase unasked here plan
    have stands : s.part.dueMoment = some r.nextDue := by simp [Part.dueMoment, run, unreached]
    have unclaimed : s.part.lending.port ≠ .reclaiming := fun h => by simp [h, PortState.hostSide] at here
    obtain ⟨q, c, n, meter, camera, takes, comp, fixed, underway, computed, due, k, reached, -⟩ :=
      takeDue_computes run op phase unclaimed plan
    have quiet : q.askReading = false := (congrArg Operation.askReading fixed :).trans unasked
    obtain ⟨op', journal, limit, run'⟩ := settle_computed
      (s := { s.part with op := some q, run := some n, meter := meter, camera := camera }) rfl rfl quiet
      underway here
    have same : (takeDue s.part).journal = s.part.journal := by rw [takes]
    rw [← takes] at op' journal run'
    refine ⟨_, q, c, _, exec_arrival (f := takeDue) (moment := Part.dueMoment) rfl awake stands past range,
      rfl, (takeDue_kept (b := false) unclaimed).trans (settle_kept _), op', comp, underway, run', computed, due, k,
      reached, ?_, journal.trans same⟩
    simp only [Part.dueMoment, State.put, run', reached]
    rfl

end Sys2Proof.Machine


/-! PROOFS. Camera health, rehearsal and recovery (R114 to R121). -/

namespace Sys2Proof.Machine

/-! ### No SET in rehearsal (R121) -/

/-- In rehearsal no SET is sent, and an operation is one of rehearsal that asks for no reading. -/
def Part.Silent (s : Part) : Prop :=
  s.rehearsal = true ∧ s.camera.tx = none ∧ ∀ o ∈ s.op, o.rehearsal = true ∧ o.askReading = false

section
variable {s t : Part} {o : Operation}

theorem Part.Silent.edit (h : s.Silent) (rehearsal : t.rehearsal = s.rehearsal) (camera : t.camera.tx = s.camera.tx)
    (op : t.op = s.op) : t.Silent := by
  unfold Part.Silent
  rw [rehearsal, camera, op]
  exact h

theorem enterFocusing_silent (h : s.Silent) (rehearses : o.rehearsal = true) (unasked : o.askReading = false) :
    (enterFocusing o s).Silent := by
  obtain ⟨on, quiet, -⟩ := h
  unfold enterFocusing enterExposing
  split
  all_goals
    refine ⟨on, quiet, ?_⟩
    rintro _ ⟨⟩
    exact ⟨rehearses, unasked⟩

theorem beginFrame_silent (h : s.Silent) : (beginFrame s).Silent := by
  cases op : s.op with
  | none =>
    have idle : beginFrame s = s := by simp [beginFrame, op]
    rwa [idle]
  | some o =>
    obtain ⟨rehearses, unasked⟩ := h.2.2 o op
    rw [beginFrame_unset op (.inr rehearses)]
    exact enterFocusing_silent (o := o.fresh) h rehearses unasked

theorem Part.Silent.put (h : s.Silent) (op : t.op = some o) (rehearses : o.rehearsal = true)
    (unasked : o.askReading = false) (rehearsal : t.rehearsal = s.rehearsal)
    (camera : t.camera.tx = s.camera.tx) : t.Silent := by
  refine ⟨rehearsal.trans h.1, camera.trans h.2.1, fun q held => ?_⟩
  cases op.symm.trans held
  exact ⟨rehearses, unasked⟩

theorem endWaiting_silent (h : s.Silent) : (endWaiting s).Silent := by
  unfold endWaiting
  split
  · next o r op run =>
    obtain ⟨rehearses, unasked⟩ := h.2.2 o op
    split
    · exact beginFrame_silent (h.put rfl (by exact rehearses) (by exact unasked) rfl rfl)
    · exact h
  · exact h

theorem leaveWaking_silent (h : s.Silent) (rehearses : o.rehearsal = true) (unasked : o.askReading = false) :
    (leaveWaking o s).Silent := by
  have waiting : ({ s with op := some { o with phase := .waiting } } : Part).Silent :=
    h.put rfl (by exact rehearses) (by exact unasked) rfl rfl
  unfold leaveWaking
  split
  · unfold enterWaiting
    dsimp only
    split
    · split
      · exact endWaiting_silent waiting
      · exact waiting
    · exact waiting
  · exact beginFrame_silent (h.put rfl (by exact rehearses) (by exact unasked) rfl rfl)
  · exact beginFrame_silent (h.put rfl (by exact rehearses) (by exact unasked) rfl rfl)
  · exact h
  · exact h

theorem raiseAndGrant_silent (h : s.Silent) : (raiseAndGrant s).Silent := by
  have raised : (raiseSchedule s).Silent := by
    unfold raiseSchedule
    split
    · exact h
    · split
      · exact h.edit rfl rfl rfl
      · exact h
  unfold raiseAndGrant
  obtain same | ⟨src, q, -, -, slot, grants⟩ := arbiterTest_cases (raiseSchedule s)
  · rwa [same]
  · rw [grants]
    have forms : ((raiseSchedule s).formOperation src q).rehearsal = true := raised.1
    cases power : (raiseSchedule s).camPwr with
    | false =>
      rw [grant_off slot power, raised.1]
      refine ⟨raised.1, raised.2.1, ?_⟩
      rintro _ ⟨⟩
      exact ⟨forms, rfl⟩
    | true =>
      rw [grant_on slot power]
      refine leaveWaking_silent ⟨raised.1, raised.2.1, ?_⟩ forms rfl
      rintro _ ⟨⟩
      exact ⟨forms, rfl⟩

theorem endZeroWake_silent (h : s.Silent) : (endZeroWake s).Silent := by
  unfold endZeroWake
  split
  · next o op =>
    obtain ⟨rehearses, unasked⟩ := h.2.2 o op
    split
    · split
      · exact leaveWaking_silent h rehearses unasked
      · exact h
    · exact h
  · exact h

theorem reclaimTest_silent (h : s.Silent) : (reclaimTest s).Silent := by
  unfold reclaimTest reclaim
  split
  · rw [raiseNotice_eq]
    exact h.edit rfl rfl rfl
  · exact h

theorem lendTest_silent (h : s.Silent) : (lendTest s).Silent := by
  unfold lendTest lendGrant becomeLent
  split
  · dsimp only
    split
    · refine reclaimTest_silent ?_
      rw [raiseNotice_eq]
      exact h.edit rfl rfl rfl
    · exact h.edit rfl rfl rfl
  · exact h

/-- The tail of a step sends no SET in rehearsal (R121). -/
theorem settle_silent (h : s.Silent) : (settle s).Silent := by
  have granted := raiseAndGrant_silent h
  rw [settle_eq, takeLoaded_unasked fun o op => (granted.2.2 o op).2]
  exact reclaimTest_silent (lendTest_silent (raiseAndGrant_silent (endZeroWake_silent granted)))

end

/-! ### The requests of camera health (R118, R120) -/

theorem camPwrLine_iff (s : Part) : s.camPwrLine = true ↔ s.rehearsal = false ∧
    (s.holders.operation = true ∨ s.holders.keepWarm = true ∨ s.holders.lend = true ∨
      s.holders.recovery = true) ∧
    ¬ ∃ r d, s.health = .recovering r ∧ r.phase = .off d := by
  have offPhase : s.health.inOffPhase = true ↔ ∃ r d, s.health = .recovering r ∧ r.phase = .off d := by
    unfold Health.inOffPhase
    cases s.health with
    | recovering r => cases h : r.phase <;> simp [h]
    | _ => simp
  rw [← offPhase]
  simp [Part.camPwrLine, Part.camPwr, Holders.any, and_comm, or_assoc]

theorem rearmEngine_kept {b : Bool} (s : Part) : Kept b
    { s with engine := if s.engine = .suspended then .armed else s.engine } (rearmEngine s) := by
  by_cases suspended : s.engine = .suspended
  · rw [if_pos suspended]
    simp only [rearmEngine, suspended]
    exact setEngine_kept _ s
  · have same : rearmEngine s = s := by
      unfold rearmEngine
      split
      · contradiction
      all_goals rfl
    rw [if_neg suspended, same]
    exact .refl s

/-- Settles O42. -/
theorem cameraResetAndRehearsal : Obligations.CameraResetAndRehearsal := by
  refine ⟨fun p => ⟨camPwrLine_iff p, fun on lines => ?_⟩, fun s awake empty => ?_⟩
  · obtain ⟨shutter, focus, -, -, sends⟩ := lines
    have dark {x : Bool} {P : Prop} (h : x = true → P ∧ p.rehearsal = false) : x = false :=
      Bool.eq_false_iff.mpr fun active => by simpa [on] using (h active).2
    refine ⟨dark focus, dark shutter, ?_⟩
    simp [Part.cameraWire, sends (.inl on)]
  intro answer
  refine ⟨fun recovering => ?_, fun settled => ?_, fun b => ⟨fun above => ?_, fun value busy => ?_,
    fun value op port settled => ?_⟩⟩
  · refine exec_answered (f := whenEmpty [] handleCameraReset) rfl awake empty ?_
    cases health : s.part.health with
    | recovering r => simp [whenEmpty, handleCameraReset, health, refuse]
    | healthy => simp [health, Health.isRecovering] at recovering
    | faulted => simp [health, Health.isRecovering] at recovering
  · cases health : s.part.health with
    | recovering r => simp [health, Health.isRecovering] at settled
    | healthy =>
      have handled : whenEmpty [] handleCameraReset s.part = done (.ok []) (healCamera s.part) := by
        simp [whenEmpty, handleCameraReset, health]
      refine ⟨_, exec_done (f := whenEmpty [] handleCameraReset) rfl awake empty handled, rfl, ?_⟩
      rw [if_neg (by simp)]
      exact (settle_kept (b := false) (healCamera s.part)).startReply _ _
    | faulted =>
      have handled : whenEmpty [] handleCameraReset s.part =
          done (.ok []) (noteNextDue (rearmEngine (healCamera s.part))) := by
        simp [whenEmpty, handleCameraReset, health]
      refine ⟨_, exec_done (f := whenEmpty [] handleCameraReset) rfl awake empty handled, rfl, ?_⟩
      have kept := (rearmEngine_kept (b := false) (healCamera s.part)).trans
        ((noteNextDue_kept _).trans (settle_kept _))
      simp only [true_and]
      exact kept.startReply _ _
  · refine exec_answered (f := handleRehearsal [b]) rfl awake empty ?_
    have code : 1 < fieldNat 0 1 [b] := above.trans_le (beNat_singleton b).ge
    unfold handleRehearsal
    dsimp only
    rw [if_neg (by simp), if_pos code]
  · refine exec_answered (f := handleRehearsal [b]) rfl awake empty ?_
    have code : ¬ 1 < fieldNat 0 1 [b] := Nat.not_lt.mpr ((beNat_singleton b).le.trans value)
    unfold handleRehearsal
    dsimp only
    rw [if_neg (by simp), if_neg code, if_pos busy]
    rfl
  · have code : ¬ 1 < fieldNat 0 1 [b] := Nat.not_lt.mpr ((beNat_singleton b).le.trans value)
    have on : (fieldNat 0 1 [b] == 1) = (b == 1) := by
      rw [show fieldNat 0 1 [b] = b.toNat from beNat_singleton b, Bool.eq_iff_iff, beq_iff_eq, beq_iff_eq]
      exact ⟨fun h => BitVec.eq_of_toNat_eq h, fun h => by rw [h]; rfl⟩
    have handled : handleRehearsal [b] s.part = done (.ok [byte (boolCode s.part.rehearsal)])
        (dropKeepWarm (putRehearsal (b == 1) s.part)) := by
      unfold handleRehearsal
      dsimp only
      rw [if_neg (by simp), if_neg code, if_neg (by simp [op, port, settled]), on]
    have kept : Kept false { s.part with rehearsal := b == 1 }
        (dropKeepWarm (putRehearsal (b == 1) s.part)) := by
      unfold putRehearsal
      split
      · next yes => rw [yes]; exact kept_edit { s.part with rehearsal := true }
      · next no => rw [Bool.eq_false_iff.mpr no]; exact kept_edit { s.part with rehearsal := false }
    refine ⟨_, exec_done (f := handleRehearsal [b]) rfl awake empty handled, rfl,
      (kept.trans (settle_kept _)).startReply _ _, fun yes => ?_, fun alone => ?_⟩
    · have silent : (dropKeepWarm (putRehearsal (b == 1) s.part)).Silent := by
        rw [yes]
        refine ⟨rfl, rfl, fun o held => ?_⟩
        exact absurd (op.symm.trans held) (by simp)
      simpa [State.put] using (settle_silent silent).2.1
    · have still : settle (dropKeepWarm (putRehearsal (b == 1) s.part)) =
          dropKeepWarm (putRehearsal (b == 1) s.part) :=
        settle_alone (by simpa [Part.Alone, dropKeepWarm] using alone) (by simp [dropKeepWarm, op])
      rw [still]
      simp [State.put, dropKeepWarm]

/-! ### Recovery attempts (R114 to R116) -/

section
variable {s : Part} {r : Recovery}

/-- With no operation, no request to raise and none to grant, and the port OWNED, the tail of a step does
nothing. -/
theorem settle_nothing (op : s.op = none) (raises : raiseSchedule s = s) (grants : arbiterTest s = s)
    (owned : s.lending.port = .owned) : settle s = s := by
  have loaded : takeLoaded s = s := by simp [takeLoaded, op]
  have waking : endZeroWake s = s := by simp [endZeroWake, op]
  simp only [settle, raiseAndGrant, raises, grants, loaded, waking]
  rw [lendTest_idle (.inl (by simp [owned])), reclaimTest_idle (by simp [owned])]

/-- What the success of an attempt leaves, with nothing else going on (R115). -/
def Part.healed (s : Part) (r : Recovery) : Part :=
  raiseNotice .cameraRecovered (some r.plan.val)
    { s with health := .healthy, failCount := 0, holders := { s.holders with recovery := false } }

/-- The success of an attempt makes the camera HEALTHY with count 0 (R115). -/
theorem attemptSucceeds_heals (r : Recovery) (s : Part) :
    (settle (attemptSucceeds r s)).health = .healthy ∧ (settle (attemptSucceeds r s)).failCount = 0 := by
  have tail := settle_kept (b := false) (attemptSucceeds r s)
  obtain ⟨health, count⟩ := tail.health rfl
  rw [health, count]
  unfold attemptSucceeds
  extract_lets raised granted
  have start : raised.health = .healthy ∧ raised.failCount = 0 := by
    unfold raised
    rw [raiseNotice_eq]
    exact ⟨rfl, rfl⟩
  have first := (arbiterTest_kept (b := false) raised).health rfl
  have second : (if granted.op.isSome then granted else lendTest granted).health = granted.health ∧
      (if granted.op.isSome then granted else lendTest granted).failCount = granted.failCount := by
    split
    · exact ⟨rfl, rfl⟩
    · exact (lendTest_kept (b := false) granted).health rfl
  exact ⟨second.1.trans (first.1.trans start.1), second.2.trans (first.2.trans start.2)⟩

theorem attemptSucceeds_alone (alone : s.Alone) (op : s.op = none) :
    settle (attemptSucceeds r s) = s.healed r := by
  obtain ⟨run, schedule, external, manual, owned⟩ := alone
  have succeeds : attemptSucceeds r s = s.healed r := by
    unfold attemptSucceeds
    extract_lets raised granted
    have noticed := raiseNotice_eq .cameraRecovered (some r.plan.val)
      { s with failCount := 0, health := .healthy }
    have idle : granted = raised := by
      refine arbiterTest_empty ?_ ?_ ?_
      all_goals
        unfold raised
        rw [noticed]
        assumption
    have unlent : (if granted.op.isSome then granted else lendTest granted) = raised := by
      rw [idle, lendTest_idle (.inl (by unfold raised; rw [noticed]; simp [owned])), ite_self]
    rw [unlent]
    unfold raised Part.healed
    rw [noticed, raiseNotice_eq]
    rfl
  rw [succeeds]
  unfold Part.healed
  rw [raiseNotice_eq]
  exact settle_alone ⟨run, schedule, external, manual, owned⟩ op

theorem startAttempt_settles (n : Nat) (r : Recovery) (s : Part) :
    (settle (startAttempt n r s)).health =
        .recovering { r with attempt := n, phase := .off (s.after (eighths r.off)) } ∧
      (settle (startAttempt n r s)).failCount = s.failCount ∧
      (settle (startAttempt n r s)).engine = s.engine := by
  have tail := settle_kept (b := false) (startAttempt n r s)
  obtain ⟨health, count⟩ := tail.health rfl
  exact ⟨health, count, tail.engine⟩

/-- A recovery as its on phase begins (R114). -/
def Recovery.inOnPhase (r : Recovery) (s : Part) : Recovery :=
  { r with phase := .on (s.after (eighths (match r.wakeMode with
      | .waitReady => r.readyTimeout
      | .fixedTime => r.wakeLead))) }

/-- The part as the on phase of a recovery begins, with RECOVERY held (R114). -/
def Part.inOnPhase (s : Part) (r : Recovery) : Part :=
  holdRecovery true { s with health := .recovering (r.inOnPhase s) }

theorem inOnPhase_healed (r : Recovery) (s : Part) :
    (s.inOnPhase r).healed (r.inOnPhase s) = s.healed r := by
  unfold Part.healed
  rw [raiseNotice_eq, raiseNotice_eq]
  rfl

theorem beginOnPhase_eq (r : Recovery) (s : Part) : beginOnPhase r s =
    if r.wakeMode = .fixedTime ∧ r.wakeLead = 0 then attemptSucceeds (r.inOnPhase s) (s.inOnPhase r)
    else s.inOnPhase r := by
  unfold beginOnPhase Part.inOnPhase Recovery.inOnPhase
  cases r.wakeMode <;> rfl

theorem takeReady_recovers {d : Elapsed} (op : s.op = none) (health : s.health = .recovering r)
    (phase : r.phase = .on d) (mode : r.wakeMode = .waitReady) :
    takeReady s = attemptSucceeds r s := by
  simp [takeReady, op, readyInRecovery, health, phase, mode]

/-- The camera FAULTED: no holder, an ARMED engine SUSPENDED, and CAMERA_FAULT (R116). -/
theorem becomeFaulted_eq (r : Recovery) (s : Part) : becomeFaulted r s =
    raiseNotice .cameraFault (some r.plan.val) (if s.engine = .armed then
      setEngine .suspended { s with health := .faulted, holders := ⟨false, false, false, false⟩ }
    else { s with health := .faulted, holders := ⟨false, false, false, false⟩ }) := rfl

theorem becomeFaulted_fields (r : Recovery) (s : Part) :
    (becomeFaulted r s).health = .faulted ∧ (becomeFaulted r s).failCount = s.failCount ∧
      (becomeFaulted r s).engine = (if s.engine = .armed then .suspended else s.engine) ∧
      (becomeFaulted r s).holders = ⟨false, false, false, false⟩ ∧ (becomeFaulted r s).op = s.op ∧
      (becomeFaulted r s).lending = s.lending := by
  rw [becomeFaulted_eq, raiseNotice_eq]
  by_cases armed : s.engine = .armed
  · rw [if_pos armed, if_pos armed]
    exact ⟨rfl, rfl, rfl, rfl, rfl, rfl⟩
  · rw [if_neg armed, if_neg armed]
    exact ⟨rfl, rfl, rfl, rfl, rfl, rfl⟩

theorem becomeFaulted_shows (unmasked : s.tables.general.mask.getLsbD NoticeKind.cameraFault.index = true)
    (r : Recovery) : ∃ n, entryOf .cameraFault (becomeFaulted r s).notices = some n ∧
      n.detail = some r.plan.val ∧ n.last = s.now := by
  rw [becomeFaulted_eq]
  by_cases armed : s.engine = .armed
  · rw [if_pos armed]
    exact raiseNotice_shows (by exact unmasked) _
  · rw [if_neg armed]
    exact raiseNotice_shows (by exact unmasked) _

/-- A FAULTED camera is granted nothing and lent nothing. -/
theorem settle_becomeFaulted (still : s.Still) (r : Recovery) :
    settle (becomeFaulted r s) = becomeFaulted r s := by
  obtain ⟨op, -, -, owned⟩ := still
  obtain ⟨health, -, engine, -, op', lending⟩ := becomeFaulted_fields r s
  refine settle_nothing (op'.trans op) (raiseSchedule_notArmed ?_) (arbiterTest_barred ?_)
    (by rw [lending]; exact owned)
  · rw [engine]
    split
    · decide
    · assumption
  · simp [Part.mayGrant, health, Health.isHealthy]

end

/-- Settles O43. -/
theorem recoveryAttemptsRunTheirPhases : Obligations.RecoveryAttemptsRunTheirPhases := by
  intro s r d awake health quiet healed attempt
  have succeeds {c : Instr} {r' : Recovery} {p q : Part} (same : p.healed r' = q.healed r)
      (taken : exec c s = .next (s.put (settle (attemptSucceeds r' p))))
      (alone : s.part.Alone → p.Alone) (op : s.part.op = none → p.op = none) : healed c q := by
    obtain ⟨healthy, count⟩ := attemptSucceeds_heals r' p
    refine ⟨_, taken, rfl, healthy, count, fun still none => ?_⟩
    exact (attemptSucceeds_alone (alone still) (op none)).trans same
  refine ⟨fun phase out => ?_, fun phase => ⟨fun mode op real => ?_, fun mode out => ?_,
    fun mode out further => ?_, fun mode out last unmasked => ?_⟩⟩
  · have runs : s.part.offEnds = some d := by simp [Part.offEnds, Part.attempt, health, phase]
    have begins : endOffPhase s.part = beginOnPhase r s.part := by simp [endOffPhase, health]
    have taken := exec_expiry (f := fun _ => endOffPhase) (c := .recoveryOffEnd) rfl awake runs out
    rw [begins] at taken
    refine ⟨fun waits => ?_, fun mode lead => ?_⟩
    · have entered : beginOnPhase r s.part = s.part.inOnPhase r := by
        refine (beginOnPhase_eq r s.part).trans (if_neg ?_)
        rintro ⟨fixed, zero⟩
        obtain mode | lead := waits
        · exact absurd (mode.symm.trans fixed) (by decide)
        · omega
      rw [entered] at taken
      obtain ⟨recovers, -⟩ := (settle_kept (b := false) (s.part.inOnPhase r)).health rfl
      refine ⟨_, taken, rfl, ?_, fun alone op => ?_⟩
      · refine recovers.trans ?_
        unfold Part.inOnPhase Recovery.inOnPhase
        cases r.wakeMode <;> rfl
      · rw [settle_alone (s := s.part.inOnPhase r) alone op]
        rfl
    · have zero : beginOnPhase r s.part = attemptSucceeds (r.inOnPhase s.part) (s.part.inOnPhase r) :=
        (beginOnPhase_eq r s.part).trans (if_pos ⟨mode, lead⟩)
      rw [zero] at taken
      exact succeeds (inOnPhase_healed _ _) taken id id
  · have idle : takeReady (cameraIdle s.part) = attemptSucceeds r (cameraIdle s.part) :=
      takeReady_recovers op health phase mode
    refine succeeds (p := cameraIdle s.part) rfl ?_ id id
    rw [← idle]
    exact exec_message awake rfl real
  · have runs : s.part.attemptWakeEnds = some d := by
      simp [Part.attemptWakeEnds, Part.attempt, health, phase, mode]
    have ends : endOnPhase true s.part = attemptSucceeds r s.part := by simp [endOnPhase, health]
    refine succeeds (p := s.part) rfl ?_ id id
    rw [← ends]
    exact exec_expiry (f := fun _ => endOnPhase true) rfl awake runs out
  all_goals
    have runs : s.part.attemptReadyEnds = some d := by
      simp [Part.attemptReadyEnds, Part.attempt, health, phase, mode]
    have ends : endOnPhase false s.part = attemptFails r s.part := by simp [endOnPhase, health]
    have taken := exec_expiry (f := fun _ => endOnPhase false) (c := .recoveryReadyTimeout) rfl awake runs out
    rw [ends] at taken
  · have further' : attemptFails r s.part = startAttempt (r.attempt + 1) r s.part := if_pos further
    rw [further'] at taken
    exact ⟨_, taken, rfl, startAttempt_settles _ r s.part⟩
  · have faults : attemptFails r s.part = becomeFaulted r s.part := if_neg (by omega)
    rw [faults] at taken
    obtain ⟨faulted, count, engine, holders, -⟩ := becomeFaulted_fields r s.part
    have tail := settle_kept (b := false) (becomeFaulted r s.part)
    obtain ⟨health', count'⟩ := tail.health rfl
    obtain ⟨n, shows, detail, at'⟩ := becomeFaulted_shows unmasked r
    refine ⟨_, taken, rfl, health'.trans faulted, count'.trans count, tail.engine.trans engine,
      ⟨n, (tail.rare .cameraFault rfl).trans shows, detail, at'⟩, fun still => ?_⟩
    rw [settle_becomeFaulted still]
    exact holders

end Sys2Proof.Machine


/-! PROOFS. Port lending (R125 to R135): the notices and the port through the parts of a step, and the
requests and events of a lend. -/

namespace Sys2Proof.Machine

/-! ### Notices that the run does not raise -/

/-- The kinds that the sequence raises (R37, R44). -/
def NoticeKind.ofRun : NoticeKind → Bool
  | .planDone | .runStarted | .runEnded => true
  | _ => false

section
variable {k : NoticeKind} (other : k.ofRun = false)

include other

theorem raiseNotice_ofRun {kind : NoticeKind} (run : kind.ofRun = true) (d : Option Nat) (s : Part) :
    entryOf k (raiseNotice kind d s).notices = entryOf k s.notices :=
  raiseNotice_silent (fun same => by simp [same, run] at other) d s

theorem startSelected_entry (sel : Option (Fin 8)) (s : Part) :
    entryOf k (startSelected sel s).notices = entryOf k s.notices := by
  unfold startSelected
  split
  · rfl
  · split
    · rfl
    · split
      · unfold startRun
        dsimp only
        split
        · rfl
        · rw [noteNextDue_notices]
          exact raiseNotice_ofRun other rfl _ _
      · rfl

theorem finishRun_entry (s : Part) : entryOf k (finishRun s).notices = entryOf k s.notices := by
  cases run : s.run with
  | none => simp [finishRun, run]
  | some r =>
    rw [finishRun_eq run]
    exact raiseNotice_ofRun other rfl _ _

omit other in
theorem enterEnding_entry (s : Part) : entryOf k (enterEnding s).notices = entryOf k s.notices := by
  unfold enterEnding
  split
  · rfl
  · rfl

theorem endRun_entry (s : Part) : entryOf k (endRun s).notices = entryOf k s.notices := by
  unfold endRun
  split
  · exact enterEnding_entry s
  · exact finishRun_entry other s

theorem reEvaluate_entry (s : Part) : entryOf k (reEvaluate s).notices = entryOf k s.notices := by
  unfold reEvaluate
  extract_lets sel marked
  split
  · rfl
  · split
    · exact startSelected_entry other sel marked
    · split
      · rfl
      · split
        · rfl
        · split
          · exact (startSelected_entry other sel _).trans (endRun_entry other marked)
          · exact endRun_entry other marked

theorem finishByAction_entry (s : Part) : entryOf k (finishByAction s).notices = entryOf k s.notices := by
  unfold finishByAction
  dsimp only
  split
  · split
    · exact finishRun_entry other _
    · exact enterEnding_entry _
  · exact finishRun_entry other _

theorem endAction_entry (p : Plan) (due : Nat) (r : Run) (s : Part) :
    entryOf k (endAction p due r s).notices = entryOf k s.notices := by
  unfold endAction
  extract_lets target here
  split
  · split
    all_goals first
      | rfl
      | exact raiseNotice_ofRun other rfl _ _
  · split
    all_goals first
      | rfl
      | exact finishByAction_entry other _
      | exact raiseNotice_ofRun other rfl _ _
      | exact (raiseNotice_ofRun other rfl _ _).trans (finishByAction_entry other _)

theorem stepDue_entry (feedback : Option (Int × Int)) (s : Part) :
    entryOf k (stepDue feedback s).notices = entryOf k s.notices := by
  unfold stepDue
  split
  · rfl
  · split
    · rfl
    · extract_lets left next
      split
      · exact endAction_entry other _ _ _ s
      · rfl

theorem consumeDue_entry (c : Consumption) (s : Part) :
    entryOf k (consumeDue c s).notices = entryOf k s.notices := by
  unfold consumeDue
  split
  · rfl
  · split
    · exact stepDue_entry other _ s
    · exact stepDue_entry other _ _

theorem afterConsumption_entry (s : Part) :
    entryOf k (afterConsumption s).notices = entryOf k s.notices := by
  unfold afterConsumption
  generalize s.dueFuel = fuel
  induction fuel generalizing s with
  | zero => rfl
  | succ n ih =>
    unfold missPassed
    dsimp only
    have noted : entryOf k (noteNextDue s).notices = entryOf k s.notices := by rw [noteNextDue_notices]
    split
    · exact ((ih _).trans (consumeDue_entry other _ _)).trans noted
    · exact noted

end

/-! ### An OWNED port through a step -/

/-- The port OWNED with no wake period of a lend. -/
def Part.Owned (s : Part) : Prop := s.lending.port = .owned ∧ s.lending.wake = none

/-- What the parts of a step leave of an OWNED port: its record, no LEND holder where there was none, and
CAMERA_TAKEN as it was. -/
structure OwnedKept (s t : Part) : Prop where
  lending : t.lending = s.lending
  lend : s.holders.lend = false → t.holders.lend = false
  taken : entryOf .cameraTaken t.notices = entryOf .cameraTaken s.notices

namespace OwnedKept

variable {s t u : Part}

theorem refl (s : Part) : OwnedKept s s := ⟨rfl, id, rfl⟩

theorem trans (h : OwnedKept s t) (h' : OwnedKept t u) : OwnedKept s u :=
  ⟨h'.lending.trans h.lending, h'.lend ∘ h.lend, h'.taken.trans h.taken⟩

theorem via (h' : OwnedKept t u) (h : OwnedKept s t) : OwnedKept s u := h.trans h'

theorem owned (h : OwnedKept s t) (o : s.Owned) : t.Owned := by
  unfold Part.Owned
  rw [h.lending]
  exact o

end OwnedKept

section
variable {s : Part}

theorem raiseSchedule_ownedKept (s : Part) : OwnedKept s (raiseSchedule s) := by
  unfold raiseSchedule
  split
  · exact .refl s
  · split
    · exact ⟨rfl, id, rfl⟩
    · exact .refl s

theorem leaveWaking_ownedKept (o : Operation) (s : Part) : OwnedKept s (leaveWaking o s) := by
  obtain ⟨op, run, camera, same⟩ := leaveWaking_eq o s
  rw [same]
  exact ⟨rfl, id, rfl⟩

theorem arbiterTest_ownedKept (owned : s.Owned) : OwnedKept s (arbiterTest s) := by
  obtain same | ⟨src, q, -, -, slot, grants⟩ := arbiterTest_cases s
  · rw [same]
    exact .refl s
  · obtain ⟨op, run, camera, same⟩ := grant_eq slot
    rw [grants, same]
    obtain ⟨-, unwaked⟩ := owned
    refine ⟨?_, fun lend => ?_, rfl⟩
    · show { s.lending with wake := none } = s.lending
      rw [← unwaked]
    · show (s.holders.lend && s.lending.wake.isNone) = false
      rw [lend]
      rfl

theorem raiseAndGrant_ownedKept (owned : s.Owned) : OwnedKept s (raiseAndGrant s) :=
  (raiseSchedule_ownedKept s).trans (arbiterTest_ownedKept ((raiseSchedule_ownedKept s).owned owned))

theorem endZeroWake_ownedKept (s : Part) : OwnedKept s (endZeroWake s) := by
  unfold endZeroWake
  split
  · split
    · split
      · exact leaveWaking_ownedKept _ s
      · exact .refl s
    · exact .refl s
  · exact .refl s

theorem reEvaluate_ownedKept (s : Part) : OwnedKept s (reEvaluate s) := by
  have frame := reEvaluate_frame (fed := none) s
  exact ⟨frame.lending, fun lend => by rw [frame.holders]; exact lend, reEvaluate_entry rfl s⟩

theorem lendTest_owned (owned : s.Owned) : lendTest s = s := lendTest_idle (.inl (by simp [owned.1]))

theorem reclaimTest_owned (owned : s.Owned) : reclaimTest s = s := reclaimTest_idle (by simp [owned.1])

theorem excludeHolders_ownedKept (owned : s.Owned) (old new : Level) :
    OwnedKept s (excludeHolders old new s) := by
  unfold excludeHolders
  extract_lets dropped entered
  have first : OwnedKept s dropped := by
    unfold dropped
    split
    · exact ⟨rfl, id, rfl⟩
    · exact .refl s
  have second : OwnedKept s entered := by
    unfold entered criticalEntry
    split
    · have port : (dropLend (dropKeepWarm dropped)).lending.port = .owned := (first.owned owned).1
      simp only [port]
      exact first.trans ⟨rfl, fun _ => rfl, rfl⟩
    · exact first
  split
  · exact second
  · exact second.trans (raiseAndGrant_ownedKept (second.owned owned))

theorem changeLevel_ownedKept (owned : s.Owned) (new : Level) : OwnedKept s (changeLevel new s) := by
  unfold changeLevel
  extract_lets old battery graded t
  have raised : OwnedKept s (raiseNotice .levelChanged (some new.rank) graded) := by
    refine ⟨?_, ?_, (raiseNotice_silent (by decide) _ _).trans rfl⟩
    all_goals rw [raiseNotice_eq]
    exact id
  have excluded := raised.trans (excludeHolders_ownedKept (raised.owned owned) old new)
  have evaluated : OwnedKept s t := excluded.trans (reEvaluate_ownedKept _)
  split
  · have granted := evaluated.trans (raiseAndGrant_ownedKept (evaluated.owned owned))
    show OwnedKept s (lendTest (raiseAndGrant t))
    rw [lendTest_owned (granted.owned owned)]
    exact granted
  · exact evaluated

theorem judgeReading_ownedKept (owned : s.Owned) (r : BatteryReading) : OwnedKept s (judgeReading r s) := by
  unfold judgeReading
  extract_lets j battery read
  have edit : OwnedKept s read := ⟨rfl, id, rfl⟩
  split
  · exact edit.trans (changeLevel_ownedKept (edit.owned owned) _)
  · exact edit

theorem takeLoaded_ownedKept (owned : s.Owned) : OwnedKept s (takeLoaded s) := by
  cases op : s.op with
  | none =>
    have idle : takeLoaded s = s := by simp [takeLoaded, op]
    rw [idle]
    exact .refl s
  | some o =>
    cases asks : o.askReading with
    | false =>
      have idle : takeLoaded s = s := by simp [takeLoaded, op, asks]
      rw [idle]
      exact .refl s
    | true =>
      rw [takeLoaded_asked op asks]
      have edit : OwnedKept s { s with op := some { o with
          askReading := false, volts := some (s.sample .loaded).volts } } := ⟨rfl, id, rfl⟩
      exact edit.trans (judgeReading_ownedKept (edit.owned owned) _)

theorem settle_ownedKept (owned : s.Owned) : OwnedKept s (settle s) := by
  have granted := raiseAndGrant_ownedKept owned
  have loaded := granted.trans (takeLoaded_ownedKept (granted.owned owned))
  have waking := loaded.trans (endZeroWake_ownedKept _)
  have all := waking.trans (raiseAndGrant_ownedKept (waking.owned owned))
  rw [settle_eq, lendTest_owned (all.owned owned), reclaimTest_owned (all.owned owned)]
  exact all

/-! ### A port on the host's side through the tail (R130) -/

theorem reclaimable_iff : s.reclaimable = true ↔ ∃ r, s.run = some r ∧ s.lending.port = .lent ∧
    s.awake = true ∧ s.engine = .armed ∧ r.state = .active ∧ s.reclaimMoment r ≤ s.now := by
  unfold Part.reclaimable
  cases s.run with
  | none => simp
  | some r => simp [Part.serves, and_assoc]

theorem raiseSchedule_reclaimable (s : Part) : (raiseSchedule s).reclaimable = s.reclaimable := by
  cases run : s.run with
  | none => rw [raiseSchedule_noRun run]
  | some r =>
    obtain ⟨limit, slot, raised⟩ := raiseSchedule_eq run
    rw [raised]
    simp only [Part.reclaimable, run]
    rfl

/-- With no operation and the port on the host's side, the tail raises the SCHEDULE request and takes a
reclaim moment that has been reached. -/
theorem settle_hostSide (op : s.op = none) (host : s.lending.port.hostSide = true) :
    settle s = reclaimTest (raiseSchedule s) := by
  have grants : arbiterTest (raiseSchedule s) = raiseSchedule s :=
    arbiterTest_hostSide (by rw [raiseSchedule_lending]; exact host)
  have loaded : takeLoaded (raiseSchedule s) = raiseSchedule s := by simp [takeLoaded, op]
  have waking : endZeroWake (raiseSchedule s) = raiseSchedule s := by simp [endZeroWake, op]
  have unyielding : (raiseSchedule s).lending.port ≠ .yielding := by
    rw [raiseSchedule_lending]
    rintro yields
    simp [yields, PortState.hostSide] at host
  simp only [settle, raiseAndGrant, grants, loaded, waking, raiseSchedule_twice]
  rw [lendTest_idle (.inl unyielding)]

/-- A reclaim: the port RECLAIMING, and CAMERA_WANTED with the run's plan (R130). -/
theorem reclaim_reclaims (s : Part) : (reclaim s).lending = { s.lending with port := .reclaiming } ∧
    (s.tables.general.mask.getLsbD NoticeKind.cameraWanted.index = true →
      ∃ n, entryOf .cameraWanted (reclaim s).notices = some n ∧ n.detail = s.run.map (·.plan.val) ∧
        n.last = s.now) ∧
    (∀ k, k ≠ .cameraWanted → entryOf k (reclaim s).notices = entryOf k s.notices) := by
  unfold reclaim
  refine ⟨by rw [raiseNotice_eq], fun unmasked => ?_, fun k other => raiseNotice_silent other _ _⟩
  exact raiseNotice_shows (s := { s with lending := { s.lending with port := .reclaiming } }) unmasked _

theorem raiseSchedule_notices (s : Part) : (raiseSchedule s).notices = s.notices := by
  unfold raiseSchedule fillSchedule
  repeat' split
  all_goals rfl

theorem raiseSchedule_plan (s : Part) :
    (raiseSchedule s).run.map (·.plan.val) = s.run.map (·.plan.val) := by
  cases run : s.run with
  | none => rw [raiseSchedule_noRun run, run]
  | some r =>
    obtain ⟨limit, slot, raised⟩ := raiseSchedule_eq run
    rw [raised]
    rfl

section
variable (op : s.op = none) (host : s.lending.port.hostSide = true)

include op host

theorem settle_reclaims (takes : s.reclaimable = true) : settle s = reclaim (raiseSchedule s) :=
  (settle_hostSide op host).trans (if_pos ((raiseSchedule_reclaimable s).trans takes))

theorem settle_unreclaimed (idle : s.reclaimable = false) : settle s = raiseSchedule s :=
  (settle_hostSide op host).trans (if_neg (by rw [raiseSchedule_reclaimable, idle]; decide))

/-- A reclaim moment that has been reached is taken in the tail (R130). -/
theorem settle_wants (takes : s.reclaimable = true) :
    (settle s).lending = { s.lending with port := .reclaiming } ∧
      (s.tables.general.mask.getLsbD NoticeKind.cameraWanted.index = true →
        ∃ n, entryOf .cameraWanted (settle s).notices = some n ∧ n.detail = s.run.map (·.plan.val) ∧
          n.last = s.now) := by
  have raised := raiseSchedule_kept (b := false) s
  obtain ⟨lending, shows, -⟩ := reclaim_reclaims (raiseSchedule s)
  rw [raiseSchedule_lending] at lending
  rw [raised.tables, raised.now, raiseSchedule_plan] at shows
  rw [settle_reclaims op host takes]
  exact ⟨lending, shows⟩

theorem settle_hostSide_entry {k : NoticeKind} (other : k ≠ .cameraWanted) :
    entryOf k (settle s).notices = entryOf k s.notices := by
  have same : entryOf k (raiseSchedule s).notices = entryOf k s.notices := by rw [raiseSchedule_notices]
  cases takes : s.reclaimable with
  | true =>
    rw [settle_reclaims op host takes]
    exact ((reclaim_reclaims (raiseSchedule s)).2.2 k other).trans same
  | false =>
    rw [settle_unreclaimed op host takes]
    exact same

end

/-! ### The lend (R128, R133, R135) -/

/-- The port as the wake period of a lend ends, before the reclaim moment is looked at (R128). -/
def Part.lent (s : Part) : Part :=
  raiseNotice .cameraLent (s.run.map (·.plan.val)) { s with lending := { s.lending with
    port := .lent, busHost := true, wake := none
    timer := some (s.after (s.tables.general.lendLimit * (60 * Config.ticksPerSecond))) } }

theorem becomeLent_eq (s : Part) : becomeLent s = reclaimTest s.lent := by
  refine congrArg reclaimTest ?_
  unfold Part.lent
  rw [raiseNotice_eq, raiseNotice_eq]
  rfl

theorem lent_fields (s : Part) : s.lent.op = s.op ∧ s.lent.run = s.run ∧ s.lent.tables = s.tables ∧
    s.lent.time = s.time ∧ s.lent.lending = { s.lending with
      port := .lent, busHost := true, wake := none
      timer := some (s.after (s.tables.general.lendLimit * (60 * Config.ticksPerSecond))) } ∧
    (s.lent.reclaimable = true ↔ s.awake = true ∧ ∃ r, s.run = some r ∧ s.engine = .armed ∧
      r.state = .active ∧ s.reclaimMoment r ≤ s.now) := by
  unfold Part.lent
  rw [raiseNotice_eq]
  refine ⟨rfl, rfl, rfl, rfl, rfl, reclaimable_iff.trans ?_⟩
  constructor
  · rintro ⟨r, run, -, awake, armed, active, moment⟩
    exact ⟨awake, r, run, armed, active, moment⟩
  · rintro ⟨awake, r, run, armed, active, moment⟩
    exact ⟨r, run, rfl, awake, armed, active, moment⟩

theorem lent_shows (unmasked : s.tables.general.mask.getLsbD NoticeKind.cameraLent.index = true) :
    ∃ n, entryOf .cameraLent s.lent.notices = some n ∧ n.detail = s.run.map (·.plan.val) ∧
      n.last = s.now := by
  unfold Part.lent
  exact raiseNotice_shows (by exact unmasked) _

end

end Sys2Proof.Machine


/-! PROOFS. LEND, the lend itself, the reclaim moment, RETURN and the lend timer (R125 to R135). -/

namespace Sys2Proof.Machine

section
variable {s : Part}

/-! ### The port taken back (R133, R134, R135) -/

theorem raiseAtHandover_ownedKept (s : Part) : OwnedKept s (raiseAtHandover s) := by
  unfold raiseAtHandover
  split
  · split
    · exact ⟨rfl, id, rfl⟩
    · exact .refl s
  · exact .refl s

theorem handover_ownedKept (owned : s.Owned) : OwnedKept s (handover s) := by
  have raised := raiseAtHandover_ownedKept s
  have granted := raised.trans (arbiterTest_ownedKept (raised.owned owned))
  exact ⟨granted.lending, fun _ => rfl, granted.taken⟩

theorem handover_lend (s : Part) : (handover s).holders.lend = false := rfl

/-- What the port taken back leaves, with the tail of the step (R131, R135, R136). -/
theorem takeBack_takes (reason : TakenReason) (s : Part) :
    (settle (takeBack reason s)).lending = ⟨.owned, false, none, none, false⟩ ∧
      (settle (takeBack reason s)).holders.lend = false ∧
      (s.tables.general.mask.getLsbD NoticeKind.cameraTaken.index = true →
        ∃ n, entryOf .cameraTaken (settle (takeBack reason s)).notices = some n ∧
          n.detail = some reason.code ∧ n.last = s.now) := by
  have same : (raiseTaken reason (ownPort false s)).lending = ⟨.owned, false, none, none, false⟩ := by
    unfold raiseTaken
    rw [raiseNotice_eq]
    rfl
  have owned : (raiseTaken reason (ownPort false s)).Owned := by
    unfold Part.Owned
    rw [same]
    exact ⟨rfl, rfl⟩
  have handed := handover_ownedKept owned
  have tail := settle_ownedKept (handed.owned owned)
  refine ⟨(tail.lending.trans handed.lending).trans same, tail.lend rfl, fun unmasked => ?_⟩
  obtain ⟨n, held, shows⟩ := raiseNotice_shows (k := .cameraTaken) (s := ownPort false s) unmasked
    (some reason.code)
  exact ⟨n, (tail.taken.trans handed.taken).trans held, shows⟩

/-! ### A lend that is granted (R126, R128) -/

/-- A lend whose wake period begins: LEND joins, and the period is timed (R128). -/
theorem settle_beginYield (op : s.op = none) (run : s.run = none) (schedule : s.arbiter.schedule = none)
    (allowed : s.lending.allowed = true) (off : s.camPwr = false) (hold : s.hold = false)
    (lead : 0 < (s.tables.profiles.get 0).wakeLead) (unwaked : s.lending.wake = none)
    (level : s.battery.level ≠ .critical) (settled : s.health.isRecovering = false)
    (awake : s.awake = true) :
    settle (beginYield s) =
      { s with
        lending := { s.lending with
          port := .yielding, wake := some (s.after (eighths (s.tables.profiles.get 0).wakeLead)) }
        holders := { s.holders with lend := true } } := by
  have raises : raiseSchedule (beginYield s) = beginYield s := raiseSchedule_noRun run
  have none : (beginYield s).candidate = none := by
    refine candidate_none_iff.mpr ?_
    rintro src ⟨pending, owned | ⟨-, rfl⟩⟩
    · cases owned
    · have empty : s.arbiter.schedule.isSome = true := pending
      simp [schedule] at empty
  have lendable : (beginYield s).lendable = true := by
    have far : (beginYield s).dueFarEnough = true := by simp [Part.dueFarEnough, beginYield, run]
    have up : (beginYield s).awake = true := awake
    unfold Part.lendable
    rw [far, up]
    simp [beginYield, op, schedule, allowed, hold, unwaked, level, settled]
  have grants : lendTest (beginYield s) = lendGrant (beginYield s) := if_pos lendable
  have period : lendGrant (beginYield s) =
      { s with
        lending := { s.lending with
          port := .yielding, wake := some (s.after (eighths (s.tables.profiles.get 0).wakeLead)) }
        holders := { s.holders with lend := true } } := by
    have cold : (beginYield s).camPwr = false := off
    have prof : (beginYield s).lendProfile = s.tables.profiles.get 0 := by
      simp [Part.lendProfile, beginYield, run]
    unfold lendGrant
    rw [cold, prof]
    refine if_neg ?_
    simp [eighths_eq]
    omega
  have loaded : takeLoaded (beginYield s) = beginYield s := by simp [takeLoaded, beginYield, op]
  have waking : endZeroWake (beginYield s) = beginYield s := by simp [endZeroWake, beginYield, op]
  simp only [settle, raiseAndGrant, raises, arbiterTest_noCandidate none, loaded, waking]
  rw [grants, period]
  exact reclaimTest_idle (by simp)

end

theorem handleLend_accepts {s : Part} (level : s.battery.level ≠ .critical) (real : s.rehearsal = false)
    (settled : s.health.isRecovering = false) (port : s.lending.port = .owned) :
    handleLend s = done .pending (beginYield s) := by
  simp [handleLend, level, real, settled, port]

/-- A port that has been reclaimed stays so through the tail (R130). -/
theorem settle_reclaim {s : Part} (op : s.op = none) :
    (settle (reclaim s)).lending = { s.lending with port := .reclaiming } ∧
    (s.tables.general.mask.getLsbD NoticeKind.cameraWanted.index = true →
      ∃ n, entryOf .cameraWanted (settle (reclaim s)).notices = some n ∧
        n.detail = s.run.map (·.plan.val) ∧ n.last = s.now) ∧
    (∀ k, k ≠ .cameraWanted → entryOf k (settle (reclaim s)).notices = entryOf k s.notices) := by
  obtain ⟨lending, shows, others⟩ := reclaim_reclaims s
  have none : (reclaim s).op = none := by
    unfold reclaim
    rw [raiseNotice_eq]
    exact op
  have tail : settle (reclaim s) = raiseSchedule (reclaim s) := by
    refine settle_unreclaimed none (by rw [lending]; rfl) (Bool.eq_false_iff.mpr fun takes => ?_)
    obtain ⟨r, -, port, -⟩ := reclaimable_iff.mp takes
    simp [lending] at port
  rw [tail, raiseSchedule_lending, raiseSchedule_notices]
  exact ⟨lending, shows, others⟩

/-- The end of the wake period of a lend (R128, R130). -/
theorem lendWakeEnd_lends {s : State} {d : Elapsed} (awake : s.part.awake = true)
    (port : s.part.lending.port = .yielding) (wake : s.part.lending.wake = some d)
    (out : s.part.reached d = true) (op : s.part.op = none) :
    let shows (k : NoticeKind) (detail : Option Nat) (t : Part) : Prop :=
      s.part.tables.general.mask.getLsbD k.index = true →
        ∃ n, entryOf k t.notices = some n ∧ n.detail = detail ∧ n.last = s.part.now
    let taken : Prop := ∃ r, s.part.run = some r ∧ s.part.engine = .armed ∧ r.state = .active ∧
      s.part.reclaimMoment r ≤ s.part.now
    ∃ t : State, exec .lendWakeEnd s = .next t ∧ t.pending = s.pending ∧
      Kept false s.part t.part ∧ t.part.lending.busHost = true ∧ t.part.lending.wake = none ∧
      t.part.lending.timer = some (s.part.after
        (s.part.tables.general.lendLimit * (60 * Config.ticksPerSecond))) ∧
      shows .cameraLent (s.part.run.map (·.plan.val)) t.part ∧
      (taken → shows .cameraWanted (s.part.run.map (·.plan.val)) t.part) ∧
      (taken → t.part.lending.port = .reclaiming) ∧ (¬ taken → t.part.lending.port = .lent) := by
  intro shows taken
  have runs : s.part.lendWakeEnds = some d := (if_pos port).trans wake
  have kept := (becomeLent_kept (b := false) s.part).trans (settle_kept _)
  obtain ⟨none, run, tables, time, lending, reclaims⟩ := lent_fields s.part
  have here := lent_shows (s := s.part)
  have moment : s.part.lent.reclaimable = true ↔ taken := reclaims.trans (and_iff_right awake)
  refine ⟨_, exec_expiry (f := fun _ => becomeLent) rfl awake runs out, rfl, kept, ?_⟩
  rw [becomeLent_eq]
  by_cases takes : taken
  · have reclaimed : reclaimTest s.part.lent = reclaim s.part.lent := if_pos (moment.mpr takes)
    rw [reclaimed]
    obtain ⟨lending', wants, others⟩ := settle_reclaim (none.trans op)
    rw [lending] at lending'
    rw [tables, run, Part.now, time] at wants
    refine ⟨congrArg Lending.busHost lending', congrArg Lending.wake lending',
      congrArg Lending.timer lending', fun unmasked => ?_, fun _ => wants,
      fun _ => congrArg Lending.port lending', fun not => absurd takes not⟩
    obtain ⟨n, held, rest⟩ := here unmasked
    exact ⟨n, (others .cameraLent (by decide)).trans held, rest⟩
  · have idle : s.part.lent.reclaimable = false := Bool.eq_false_iff.mpr fun h => takes (moment.mp h)
    have stays : reclaimTest s.part.lent = s.part.lent := if_neg (by rw [idle]; decide)
    rw [stays, settle_unreclaimed (none.trans op) (by rw [lending]; rfl) idle]
    have lending' := (raiseSchedule_lending s.part.lent).trans lending
    refine ⟨congrArg Lending.busHost lending', congrArg Lending.wake lending',
      congrArg Lending.timer lending', fun unmasked => ?_, fun h => absurd h takes,
      fun h => absurd h takes, fun _ => congrArg Lending.port lending'⟩
    obtain ⟨n, held, rest⟩ := here unmasked
    exact ⟨n, (congrArg (entryOf .cameraLent) (raiseSchedule_notices s.part.lent)).trans held, rest⟩

/-- Settles O44. -/
theorem lendingFollowsItsTables : Obligations.LendingFollowsItsTables := by
  refine ⟨fun s awake empty => ?_, fun s r => ?_, fun s awake => ?_⟩
  · intro answer
    have refuses {reason : RefuseReason} (h : handleLend s.part = refuse reason s.part) :
        answer (.refused reason) :=
      exec_answered (f := whenEmpty [] handleLend) rfl awake empty h
    refine ⟨fun level => refuses (by simp [handleLend, level]), fun level =>
      ⟨fun on => refuses (by simp [handleLend, level, on]), fun real =>
        ⟨fun recovers => refuses (by simp [handleLend, level, real, recovers]), fun settled =>
          ⟨fun port => refuses (by simp [handleLend, level, real, settled, port]), fun port => ?_⟩⟩⟩⟩
    have accepts := handleLend_accepts level real settled port
    refine ⟨_, exec_done (f := whenEmpty [] handleLend) rfl awake empty accepts, rfl, ?_,
      fun o op unasked phase => ?_, fun op run schedule allowed off hold lead unwaked => ?_⟩
    · exact ((kept_edit s.part).trans (settle_kept (beginYield s.part))).startReply _ _
    · have busy := settle_busy (s := beginYield s.part) op unasked phase rfl
      rw [busy]
      exact ⟨raiseSchedule_lending _, (raiseSchedule_op _).trans op⟩
    · rw [settle_beginYield op run schedule allowed off hold lead unwaked level settled awake]
      exact ⟨rfl, rfl⟩
  · simp only [Part.reclaimMoment, Part.wakeLead, eighths_eq, Nat.mul_add]
  intro shows
  refine ⟨fun d port wake out op => ?_, fun r run port armed active moment range op => ?_,
    fun host => ⟨fun empty => ?_, fun d timer out => ?_⟩, fun empty here => ?_⟩
  · exact lendWakeEnd_lends awake port wake out op
  · have stands : s.part.reclaimDue = some (s.part.reclaimMoment r) := by
      simp [Part.reclaimDue, run, port, Part.serves, armed, active]
    have takes : reclaimTest s.part = reclaim s.part :=
      if_pos (reclaimable_iff.mpr ⟨r, run, port, awake, armed, active, moment⟩)
    have kept := (reclaimTest_kept (b := false) s.part).trans (settle_kept _)
    refine ⟨_, exec_arrival (f := reclaimTest) (moment := Part.reclaimDue) rfl awake stands moment range,
      rfl, kept, ?_⟩
    rw [takes]
    obtain ⟨lending, wants, tail⟩ := settle_reclaim op
    refine ⟨lending, fun unmasked => ?_⟩
    obtain ⟨n, held, detail, last⟩ := wants unmasked
    exact ⟨n, held, by rw [detail, run]; rfl, last⟩
  · have returns : handleReturn s.part = done (.ok []) (handover (ownPort false s.part)) := by
      unfold handleReturn
      cases port : s.part.lending.port <;> simp [port, PortState.hostSide] at host ⊢
    have owned : (ownPort false s.part).Owned := ⟨rfl, rfl⟩
    have handed := handover_ownedKept owned
    have tail := settle_ownedKept (handed.owned owned)
    exact ⟨_, exec_done (f := whenEmpty [] handleReturn) rfl awake empty returns, rfl,
      ((ownPort_kept false s.part).trans ((handover_kept _).trans (settle_kept _))).startReply _ _,
      tail.lending.trans handed.lending⟩
  · have runs : s.part.reportedTimer = some d := by
      unfold Part.reportedTimer
      cases port : s.part.lending.port <;> simp [port, PortState.hostSide, timer] at host ⊢
    obtain ⟨lending, -, taken⟩ := takeBack_takes .limit s.part
    exact ⟨_, exec_expiry (f := fun _ => takeBack .limit) rfl awake runs out, rfl,
      (takeBack_kept .limit s.part).trans (settle_kept _), lending, fun _ _ unmasked => taken unmasked⟩
  · refine exec_answered (f := whenEmpty [] handleReturn) rfl awake empty ?_
    show handleReturn s.part = _
    unfold handleReturn
    cases port : s.part.lending.port <;> simp [port, PortState.hostSide, refuse] at here ⊢

end Sys2Proof.Machine


/-! PROOFS. The port at a due reached while RECLAIMING, and at CRITICAL entry (R131, R132, R136, R147,
R150). -/

namespace Sys2Proof.Machine

/-! ### CRITICAL entry with no operation in flight (R136, R147, R150) -/

/-- What CRITICAL entry leaves where no operation exists: no grant, the journal, the requests held, and the
run but for its late limit. -/
structure Shut (s t : Part) : Prop where
  op : t.op = s.op
  battery : t.battery = s.battery
  engine : t.engine = s.engine
  journal : t.journal = s.journal
  held : t.arbiter = { s.arbiter with schedule := t.arbiter.schedule }
  run : t.run.map Run.fixed = s.run.map Run.fixed
  unrun : s.run = none → t.arbiter.schedule = s.arbiter.schedule

namespace Shut

variable {s t u : Part}

theorem refl (s : Part) : Shut s s := ⟨rfl, rfl, rfl, rfl, rfl, rfl, fun _ => rfl⟩

theorem trans (h : Shut s t) (h' : Shut t u) : Shut s u where
  op := h'.op.trans h.op
  battery := h'.battery.trans h.battery
  engine := h'.engine.trans h.engine
  journal := h'.journal.trans h.journal
  held := by rw [h'.held, h.held]
  run := h'.run.trans h.run
  unrun none := by
    refine (h'.unrun ?_).trans (h.unrun none)
    have same := h.run
    rw [none] at same
    exact Option.map_eq_none_iff.mp same

end Shut

section
variable {s : Part}

theorem fillSchedule_shut {r : Run} (run : s.run = some r) : Shut s (fillSchedule r s) :=
  ⟨rfl, rfl, rfl, rfl, rfl, by rw [run]; rfl, fun none => by rw [run] at none; cases none⟩

theorem raiseSchedule_shut (s : Part) : Shut s (raiseSchedule s) := by
  unfold raiseSchedule
  split
  · exact .refl s
  · next r run =>
    split
    · exact fillSchedule_shut run
    · exact .refl s

theorem raiseAtHandover_shut (s : Part) : Shut s (raiseAtHandover s) := by
  unfold raiseAtHandover
  split
  · next r run =>
    split
    · exact fillSchedule_shut run
    · exact .refl s
  · exact .refl s

theorem raiseNotice_shut (k : NoticeKind) (d : Option Nat) (s : Part) : Shut s (raiseNotice k d s) := by
  rw [raiseNotice_eq]
  exact ⟨rfl, rfl, rfl, rfl, rfl, rfl, fun _ => rfl⟩

theorem mayGrant_critical (level : s.battery.level = .critical) : s.mayGrant = false :=
  Bool.eq_false_iff.mpr fun may => (mayGrant_iff.mp may).2.2.1 level

theorem handover_critical (level : s.battery.level = .critical) :
    handover s = dropLend (raiseAtHandover s) := by
  unfold handover
  rw [arbiterTest_barred (mayGrant_critical ((congrArg Battery.level (raiseAtHandover_shut s).battery).trans level))]

theorem takeBack_critical_shut (level : s.battery.level = .critical) (reason : TakenReason) :
    Shut s (takeBack reason s) := by
  have own : Shut s (ownPort false s) := ⟨rfl, rfl, rfl, rfl, rfl, rfl, fun _ => rfl⟩
  have taken := own.trans (raiseNotice_shut .cameraTaken (some reason.code) (ownPort false s))
  unfold takeBack raiseTaken
  rw [handover_critical ((congrArg Battery.level taken.battery).trans level)]
  exact (taken.trans (raiseAtHandover_shut _)).trans ⟨rfl, rfl, rfl, rfl, rfl, rfl, fun _ => rfl⟩

/-- CRITICAL entry grants nothing (R89, R150). -/
theorem criticalEntry_shut (level : s.battery.level = .critical) : Shut s (criticalEntry s) := by
  have dropped : Shut s (dropLend (dropKeepWarm s)) := ⟨rfl, rfl, rfl, rfl, rfl, rfl, fun _ => rfl⟩
  unfold criticalEntry
  dsimp only
  split
  · exact dropped
  · have own : Shut s (ownPort (dropLend (dropKeepWarm s)).lending.allowed (dropLend (dropKeepWarm s))) :=
      ⟨rfl, rfl, rfl, rfl, rfl, rfl, fun _ => rfl⟩
    exact own.trans (raiseNotice_shut _ _ _)
  all_goals exact dropped.trans (takeBack_critical_shut (s := dropLend (dropKeepWarm s)) level _)

/-- What CRITICAL entry makes of the port and of its holders (R136, R150). -/
structure EntersCritical (s t : Part) : Prop where
  lend : t.holders.lend = false
  keepWarm : t.holders.keepWarm = false
  port : t.lending.port = .owned
  owned : s.lending.port = .owned → t.lending = s.lending
  yielding : s.lending.port = .yielding → t.lending = ⟨.owned, false, none, none, s.lending.allowed⟩
  host : s.lending.port.hostSide = true → t.lending = ⟨.owned, false, none, none, false⟩
  taken : s.lending.port ≠ .owned → s.tables.general.mask.getLsbD NoticeKind.cameraTaken.index = true →
    ∃ n, entryOf .cameraTaken t.notices = some n ∧ n.detail = some 3 ∧ n.last = s.now

theorem takeBack_critical_fields (level : s.battery.level = .critical) :
    (takeBack .critical s).holders = { s.holders with lend := false } ∧
      (takeBack .critical s).lending = ⟨.owned, false, none, none, false⟩ ∧
      (takeBack .critical s).notices = (raiseNotice .cameraTaken (some 3) (ownPort false s)).notices := by
  have raised (t : Part) : (dropLend (raiseAtHandover t)).holders = { t.holders with lend := false } ∧
      (dropLend (raiseAtHandover t)).lending = t.lending ∧
      (dropLend (raiseAtHandover t)).notices = t.notices := by
    unfold raiseAtHandover fillSchedule
    repeat' split
    all_goals exact ⟨rfl, rfl, rfl⟩
  have taken := raiseNotice_shut .cameraTaken (some 3) (ownPort false s)
  have entry : takeBack .critical s =
      dropLend (raiseAtHandover (raiseNotice .cameraTaken (some 3) (ownPort false s))) :=
    handover_critical ((congrArg Battery.level taken.battery).trans level)
  obtain ⟨holders, lending, notices⟩ := raised (raiseNotice .cameraTaken (some 3) (ownPort false s))
  rw [entry, holders, lending, notices]
  rw [raiseNotice_eq]
  exact ⟨rfl, rfl, rfl⟩

theorem criticalEntry_host (host : s.lending.port.hostSide = true) :
    criticalEntry s = takeBack .critical (dropLend (dropKeepWarm s)) := by
  unfold criticalEntry
  cases port : s.lending.port with
  | owned => simp [port, PortState.hostSide] at host
  | yielding => simp [port, PortState.hostSide] at host
  | lent =>
    have same : (dropLend (dropKeepWarm s)).lending.port = .lent := port
    simp only [same]
  | reclaiming =>
    have same : (dropLend (dropKeepWarm s)).lending.port = .reclaiming := port
    simp only [same]

theorem criticalEntry_yielding (port : s.lending.port = .yielding) : criticalEntry s =
    raiseNotice .cameraTaken (some 3) (ownPort s.lending.allowed (dropLend (dropKeepWarm s))) := by
  have same : (dropLend (dropKeepWarm s)).lending.port = .yielding := port
  unfold criticalEntry
  simp only [same]
  rfl

theorem criticalEntry_owned (port : s.lending.port = .owned) :
    criticalEntry s = dropLend (dropKeepWarm s) := by
  have same : (dropLend (dropKeepWarm s)).lending.port = .owned := port
  unfold criticalEntry
  simp only [same]

theorem criticalEntry_enters (level : s.battery.level = .critical) : EntersCritical s (criticalEntry s) := by
  have hosted (host : s.lending.port.hostSide = true) : EntersCritical s (criticalEntry s) := by
    obtain ⟨holders, lending, notices⟩ := takeBack_critical_fields (s := dropLend (dropKeepWarm s)) level
    rw [criticalEntry_host host]
    refine ⟨by rw [holders], by rw [holders]; rfl, by rw [lending], fun port => ?_, fun port => ?_,
      fun _ => lending, fun _ unmasked => ?_⟩
    · simp [port, PortState.hostSide] at host
    · simp [port, PortState.hostSide] at host
    · rw [notices]
      exact raiseNotice_shows (s := ownPort false (dropLend (dropKeepWarm s))) unmasked _
  cases port : s.lending.port with
  | owned =>
    rw [criticalEntry_owned port]
    exact ⟨rfl, rfl, port, fun _ => rfl, fun h => by simp [port] at h,
      fun h => by simp [port, PortState.hostSide] at h, fun h => absurd port h⟩
  | yielding =>
    have shows := raiseNotice_shows (k := .cameraTaken)
      (s := ownPort s.lending.allowed (dropLend (dropKeepWarm s)))
    rw [criticalEntry_yielding port]
    have fields := raiseNotice_eq .cameraTaken (some 3) (ownPort s.lending.allowed (dropLend (dropKeepWarm s)))
    refine ⟨by rw [fields]; rfl, by rw [fields]; rfl, by rw [fields]; rfl, fun h => by simp [port] at h,
      fun _ => by rw [fields]; rfl, fun h => by simp [port, PortState.hostSide] at h,
      fun _ unmasked => shows unmasked _⟩
  | lent => exact hosted (by rw [port]; rfl)
  | reclaiming => exact hosted (by rw [port]; rfl)

/-- At CRITICAL no window is selected (R34). -/
theorem selectedWindow_critical (level : s.battery.level = .critical) : s.selectedWindow = none := by
  have inactive (i : Fin 8) : s.windowActive i = false := by simp [Part.windowActive, level, levelAdmits]
  exact List.find?_eq_none.mpr fun i _ => by simp [inactive i]

/-- At CRITICAL a re-evaluation starts no run, and ends the one that stands (R35, R150). -/
theorem reEvaluate_critical (level : s.battery.level = .critical) (op : s.op = none) :
    (reEvaluate s).journal = s.journal ∧
      (s.engine ≠ .disarmed → (∀ r ∈ s.run, r.state = .active) →
        (reEvaluate s).run = none ∧
          (reEvaluate s).arbiter.schedule = s.run.elim s.arbiter.schedule (fun _ => none)) := by
  have unselected := selectedWindow_critical level
  by_cases engine : s.engine = .disarmed
  · rw [reEvaluate_disarmed engine]
    exact ⟨rfl, fun h => absurd engine h⟩
  cases run : s.run with
  | none =>
    rw [reEvaluate_noRun engine run, unselected, startSelected_none]
    exact ⟨rfl, fun _ _ => ⟨run, rfl⟩⟩
  | some r =>
    cases state : r.state with
    | ending =>
      rw [reEvaluate_keeps engine run (.inl state)]
      exact ⟨rfl, fun _ active => absurd (active r rfl) (by simp [state])⟩
    | active =>
      rw [reEvaluate_ends_still engine run state (.inl (by simp [unselected])) op, unselected,
        startSelected_none, raiseNotice_eq]
      exact ⟨rfl, fun _ _ => ⟨rfl, rfl⟩⟩

/-- The part that a change of level to CRITICAL re-evaluates (R147, R149, R150). -/
def Part.excluded (s : Part) (level : Level) : Part :=
  excludeHolders s.battery.level level (raiseNotice .levelChanged (some level.rank)
    { s with battery := { s.battery with level := level, worse := 0, better := 0 } })

theorem changeLevel_worse (level : s.battery.level ≠ .critical) (new : Level) :
    changeLevel new s = reEvaluate (s.excluded new) := if_neg level

theorem excludeHolders_critical {old : Level} (better : old ≠ .critical)
    (level : s.battery.level = .critical) :
    Shut s (excludeHolders old .critical s) ∧ EntersCritical s (excludeHolders old .critical s) := by
  unfold excludeHolders
  extract_lets dropped entered
  have first : Shut s dropped ∧ dropped.lending = s.lending ∧ dropped.tables = s.tables ∧
      dropped.now = s.now := by
    unfold dropped
    split
    · exact ⟨⟨rfl, rfl, rfl, rfl, rfl, rfl, fun _ => rfl⟩, rfl, rfl, rfl⟩
    · exact ⟨.refl s, rfl, rfl, rfl⟩
  have graded : dropped.battery.level = .critical := (congrArg Battery.level first.1.battery).trans level
  have second : Shut dropped entered ∧ EntersCritical dropped entered := by
    unfold entered
    rw [if_pos rfl]
    exact ⟨criticalEntry_shut graded, criticalEntry_enters graded⟩
  rw [if_neg better]
  have raised := raiseSchedule_shut entered
  have last : (raiseSchedule entered).battery.level = .critical :=
    (congrArg Battery.level (raised.battery.trans second.1.battery)).trans graded
  rw [arbiterTest_barred (mayGrant_critical last)]
  refine ⟨(first.1.trans second.1).trans raised, ?_⟩
  obtain ⟨lend, keepWarm, port, owned, yielding, host, taken⟩ := second.2
  rw [first.2.1] at owned yielding host taken
  rw [first.2.2.1, first.2.2.2] at taken
  have lending := raiseSchedule_lending entered
  have holders : (raiseSchedule entered).holders = entered.holders := by
    unfold raiseSchedule fillSchedule
    repeat' split
    all_goals rfl
  exact ⟨by rw [holders]; exact lend, by rw [holders]; exact keepWarm, by rw [lending]; exact port,
    fun h => lending.trans (owned h), fun h => lending.trans (yielding h), fun h => lending.trans (host h),
    fun h unmasked => by rw [raiseSchedule_notices]; exact taken h unmasked⟩

/-- What a change of level to CRITICAL leaves where no operation exists, with the tail of its step (R136,
R147, R150). -/
structure TurnsCritical (s t : Part) : Prop where
  op : t.op = none
  level : t.battery.level = .critical
  journal : t.journal = s.journal
  held : t.arbiter.external = s.arbiter.external ∧ t.arbiter.manual = s.arbiter.manual
  run : s.engine ≠ .disarmed → (∀ r ∈ s.run, r.state = .active) →
    t.run = none ∧ t.arbiter.schedule = s.run.elim s.arbiter.schedule (fun _ => none)
  enters : EntersCritical s t

theorem EntersCritical.congr {t u : Part} (h : EntersCritical s t) (lending : u.lending = t.lending)
    (lend : u.holders.lend = false) (warm : u.holders.keepWarm = false)
    (taken : entryOf .cameraTaken u.notices = entryOf .cameraTaken t.notices) : EntersCritical s u := by
  obtain ⟨-, -, port, owned, yielding, host, shows⟩ := h
  exact ⟨lend, warm, by rw [lending]; exact port, fun h => lending.trans (owned h),
    fun h => lending.trans (yielding h), fun h => lending.trans (host h),
    fun h unmasked => by rw [taken]; exact shows h unmasked⟩

theorem EntersCritical.ofStart {p t : Part} (h : EntersCritical p t) (lending : p.lending = s.lending)
    (tables : p.tables = s.tables) (now : p.now = s.now) : EntersCritical s t := by
  obtain ⟨lend, warm, port, owned, yielding, host, shows⟩ := h
  rw [lending] at owned yielding host shows
  rw [tables, now] at shows
  exact ⟨lend, warm, port, owned, yielding, host, shows⟩

/-- At CRITICAL the tail of a step grants and lends nothing. -/
theorem settle_critical (op : s.op = none) (level : s.battery.level = .critical)
    (owned : s.lending.port = .owned) : settle s = raiseSchedule s := by
  have none : (raiseSchedule s).op = none := (raiseSchedule_op s).trans op
  have grants : arbiterTest (raiseSchedule s) = raiseSchedule s :=
    arbiterTest_barred (mayGrant_critical ((congrArg Battery.level (raiseSchedule_shut s).battery).trans level))
  have here : (raiseSchedule s).lending.port = .owned := by rw [raiseSchedule_lending]; exact owned
  have still := settle_nothing none (raiseSchedule_twice s) grants here
  simp only [settle, raiseAndGrant, raiseSchedule_twice] at still ⊢
  exact still

theorem levelShown_shut (s : Part) (level : Level) :
    Shut { s with battery := { s.battery with level := level, worse := 0, better := 0 } }
        (raiseNotice .levelChanged (some level.rank)
          { s with battery := { s.battery with level := level, worse := 0, better := 0 } }) ∧
      (raiseNotice .levelChanged (some level.rank)
        { s with battery := { s.battery with level := level, worse := 0, better := 0 } }).lending =
          s.lending ∧
      (raiseNotice .levelChanged (some level.rank)
        { s with battery := { s.battery with level := level, worse := 0, better := 0 } }).tables = s.tables ∧
      (raiseNotice .levelChanged (some level.rank)
        { s with battery := { s.battery with level := level, worse := 0, better := 0 } }).now = s.now := by
  refine ⟨raiseNotice_shut _ _ _, ?_⟩
  rw [raiseNotice_eq]
  exact ⟨rfl, rfl, rfl⟩

theorem excluded_critical (better : s.battery.level ≠ .critical) :
    Shut { s with battery := { s.battery with level := .critical, worse := 0, better := 0 } }
        (s.excluded .critical) ∧ EntersCritical s (s.excluded .critical) := by
  obtain ⟨graded, lending, tables, now⟩ := levelShown_shut s .critical
  obtain ⟨shut, enters⟩ := excludeHolders_critical better (congrArg Battery.level graded.battery)
  exact ⟨graded.trans shut, enters.ofStart lending tables now⟩

theorem changeLevel_critical (better : s.battery.level ≠ .critical) (op : s.op = none) :
    TurnsCritical s (settle (changeLevel .critical s)) := by
  obtain ⟨shut, enters⟩ := excluded_critical better
  have level : (s.excluded .critical).battery.level = .critical := congrArg Battery.level shut.battery
  have still : (s.excluded .critical).op = none := shut.op.trans op
  obtain ⟨journal, ends⟩ := reEvaluate_critical level still
  have frame := reEvaluate_frame (fed := none) (s.excluded .critical)
  have kept := reEvaluate_ownedKept (s.excluded .critical)
  rw [changeLevel_worse better]
  have tail := settle_critical (frame.op.trans still) ((congrArg Battery.level frame.battery).trans level)
    ((congrArg Lending.port frame.lending).trans enters.port)
  have raised := raiseSchedule_shut (reEvaluate (s.excluded .critical))
  have holders : (raiseSchedule (reEvaluate (s.excluded .critical))).holders =
      (reEvaluate (s.excluded .critical)).holders := by
    unfold raiseSchedule fillSchedule
    repeat' split
    all_goals rfl
  have slots : (settle (reEvaluate (s.excluded .critical))).arbiter.external = s.arbiter.external ∧
      (settle (reEvaluate (s.excluded .critical))).arbiter.manual = s.arbiter.manual := by
    rw [tail, raised.held, frame.arbiter, shut.held]
    exact ⟨rfl, rfl⟩
  refine ⟨?_, ?_, ?_, slots, fun engine active => ?_, enters.congr ?_ ?_ ?_ ?_⟩
  · rw [tail, raised.op]
    exact frame.op.trans still
  · rw [tail, raised.battery]
    exact (congrArg Battery.level frame.battery).trans level
  · rw [tail, raised.journal]
    exact journal.trans shut.journal
  · have allActive : ∀ r ∈ (s.excluded .critical).run, r.state = .active := by
      intro r held
      have fixed := shut.run
      rw [show (s.excluded .critical).run = some r from held] at fixed
      obtain ⟨x, run, same⟩ := Option.map_eq_some_iff.mp fixed.symm
      have state : x.state = r.state := (congrArg Run.state same :)
      exact state ▸ active x run
    obtain ⟨gone, slot⟩ := ends (fun disarmed => engine (shut.engine.symm.trans disarmed)) allActive
    rw [tail, raiseSchedule_noRun gone]
    refine ⟨gone, slot.trans ?_⟩
    have fixed := shut.run
    cases run : s.run with
    | none =>
      have gone' : (s.excluded .critical).run = none := by
        rw [show ({ s with battery := { s.battery with level := .critical, worse := 0, better := 0 } } : Part).run
          = none from run] at fixed
        exact Option.map_eq_none_iff.mp fixed
      rw [gone']
      exact shut.unrun run
    | some r =>
      rw [show ({ s with battery := { s.battery with level := .critical, worse := 0, better := 0 } } : Part).run
        = some r from run] at fixed
      obtain ⟨x, run', -⟩ := Option.map_eq_some_iff.mp fixed
      rw [run']
      rfl
  · rw [tail, raiseSchedule_lending]
    exact frame.lending
  · rw [tail, holders]
    exact kept.lend enters.lend
  · rw [tail, holders]
    exact (reEvaluate_regrading _).warm enters.keepWarm
  · rw [tail, raiseSchedule_notices]
    exact kept.taken

end

end Sys2Proof.Machine


/-! PROOFS. A due that is reached while the port is RECLAIMING (R131, R132). -/

namespace Sys2Proof.Machine

theorem DueComputation.ofGrant {o o' : Operation} {r : Run} {p : Plan} {s : Part} {q : Operation}
    {c : Computation} {n : Run} (h : DueComputation o r p s q c n) (profile : o'.profile = o.profile)
    (level : o'.level = o.level) : DueComputation o' r p s q c n := by
  unfold DueComputation at h ⊢
  rw [profile, level]
  exact h

section
variable {s : Part} {r : Run} {p : Plan}

theorem takeDue_reclaiming (run : s.run = some r) (armed : s.engine = .armed) (active : r.state = .active)
    (port : s.lending.port = .reclaiming) :
    takeDue s = settleReclaim (noteNextDue { s with run := some { r with dueReached := true } }) := by
  have serves : (noteNextDue { s with run := some { r with dueReached := true } }).serves r = true := by
    have engine := (noteNextDue_kept (b := true) { s with run := some { r with dueReached := true } }).engine
    rw [Part.serves, engine, active]
    show (s.engine == .armed && _) = true
    rw [armed]
    rfl
  have stays : (noteNextDue { s with run := some { r with dueReached := true } }).lending.port =
      .reclaiming := by
    rw [noteNextDue_lending]
    exact port
  simp only [takeDue, run]
  exact if_pos ⟨stays, serves⟩

/-! ### PART_FIRST (R131, R134) -/

/-- The handover raises the due's request and grants it, and the operation makes its computation at once
(R131, R134). -/
theorem handover_computes (owned : s.Owned) (run : s.run = some r) (armed : s.engine = .armed)
    (active : r.state = .active) (awake : s.awake = true) (hold : s.hold = false) (op : s.op = none)
    (schedule : s.arbiter.schedule = none) (external : s.arbiter.external = none)
    (manual : s.arbiter.manual = none) (health : s.health = .healthy) (level : s.battery.level ≠ .critical)
    (warm : s.holders.lend = true) (due : r.nextDue ≤ s.now)
    (onTime : s.now ≤ r.nextDue + eighths s.tables.general.lateLimit) (plan : s.planAt r.plan = some p) :
    ∃ (o : Operation) (c : Computation) (n : Run), (settle (handover s)).op = some o ∧
      o.source = .schedule ∧ o.request.due = some r.nextDue ∧ o.comp = some c ∧
      o.phase.isUnderway = true ∧ o.profile = s.tables.profiles.get p.profile ∧
      DueComputation o r p s o c n ∧ (settle (handover s)).run = some n ∧ n.nextDue = r.nextDue := by
  have raisable : s.raisable r = true := by
    have fresh : s.dueGranted = false := dueGranted_noOp op
    have late : ¬ r.nextDue + eighths s.tables.general.lateLimit < s.now := by omega
    simp [Part.raisable, Part.serves, awake, hold, armed, active, schedule, fresh, late]
  have raises : raiseAtHandover s = fillSchedule r s := by
    have woken : s.wakeTime r ≤ s.now := (Nat.sub_le _ _).trans due
    unfold raiseAtHandover
    rw [run]
    exact if_pos (by rw [raisable, decide_eq_true woken]; rfl)
  have may : (fillSchedule r s).mayGrant = true := mayGrant_iff.mpr ⟨op, health, level, awake, hold⟩
  have takes : (fillSchedule r s).candidate = some .schedule := by
    refine candidate_of_only ⟨rfl, .inl owned.1⟩ fun x ok => ?_
    have pending := ok.1
    cases x with
    | schedule => rfl
    | external =>
      have none : (fillSchedule r s).arbiter.slot .external = none := external
      simp [none] at pending
    | manual =>
      have none : (fillSchedule r s).arbiter.slot .manual = none := manual
      simp [none] at pending
  have slot : (fillSchedule r s).arbiter.slot .schedule = some (s.dueRequest r) := rfl
  have on : (fillSchedule r s).camPwr = true := by
    have lend : (fillSchedule r s).holders.lend = true := warm
    have sound : (fillSchedule r s).health = .healthy := health
    simp [Part.camPwr, Holders.any, lend, sound, Health.inOffPhase]
  obtain ⟨o, c, n, camera, leaves, comp, fixed, underway, computed, kept⟩ := leaveWaking_computes
    (o := (fillSchedule r s).formOperation .schedule (s.dueRequest r))
    (s := { (fillSchedule r s).granted .schedule with
      op := some ((fillSchedule r s).formOperation .schedule (s.dueRequest r)) }) rfl rfl due plan
  have hands : handover s = dropLend { (fillSchedule r s).granted .schedule with
      op := some o, run := some n, camera := camera } := by
    unfold handover
    rw [raises, arbiterTest_grants may takes, grant_on slot on, leaves]
  have here : (dropLend { (fillSchedule r s).granted .schedule with
      op := some o, run := some n, camera := camera }).lending.port.hostSide = false := by
    show s.lending.port.hostSide = false
    rw [owned.1]
    rfl
  obtain ⟨op', -, limit, run'⟩ := settle_computed (q := o) (n := n) rfl rfl
    ((congrArg Operation.askReading fixed :)) underway here
  rw [← hands] at op' run'
  have profile : o.profile = s.profileOfPlan r.plan := (congrArg Operation.profile fixed :)
  refine ⟨o, c, { n with lateLimit := limit }, op', (congrArg Operation.source fixed :),
    (congrArg (fun q => q.request.due) fixed :), comp, underway, ?_,
    (computed.congr rfl rfl rfl rfl).ofGrant profile (congrArg Operation.level fixed :), run',
    (congrArg Run.nextDue kept :)⟩
  simp [profile, Part.profileOfPlan, plan]

/-! ### HOST_FIRST (R132) -/

theorem reclaim_fields (s : Part) : (reclaim s).op = s.op ∧ (reclaim s).holders = s.holders ∧
    (reclaim s).run = s.run ∧ (reclaim s).journal = s.journal := by
  unfold reclaim
  rw [raiseNotice_eq]
  exact ⟨rfl, rfl, rfl, rfl⟩

theorem raiseSchedule_holders (s : Part) : (raiseSchedule s).holders = s.holders := by
  unfold raiseSchedule fillSchedule
  repeat' split
  all_goals rfl

/-- What the tail leaves of a part with the port on the host's side and no operation. -/
theorem settle_hostSide_fields (op : s.op = none) (host : s.lending.port.hostSide = true) :
    (settle s).op = none ∧ (settle s).holders = s.holders ∧ (settle s).journal = s.journal ∧
      (settle s).lending = { s.lending with port := (settle s).lending.port } ∧
      (settle s).lending.port = (if s.reclaimable then .reclaiming else s.lending.port) ∧
      (∀ n, s.run = some n → ∃ limit, (settle s).run = some { n with lateLimit := limit }) := by
  have raisedRun (n : Run) (run : s.run = some n) :
      ∃ limit, (raiseSchedule s).run = some { n with lateLimit := limit } := by
    obtain ⟨limit, slot, raised⟩ := raiseSchedule_eq run
    exact ⟨limit, by rw [raised]⟩
  cases takes : s.reclaimable with
  | true =>
    obtain ⟨none, holders, run, journal⟩ := reclaim_fields (raiseSchedule s)
    obtain ⟨lending, -⟩ := reclaim_reclaims (raiseSchedule s)
    rw [raiseSchedule_lending] at lending
    rw [settle_reclaims op host takes, none, holders, run, journal, lending]
    exact ⟨(raiseSchedule_op s).trans op, raiseSchedule_holders s, raiseSchedule_journal s, rfl, rfl, raisedRun⟩
  | false =>
    rw [settle_unreclaimed op host takes, raiseSchedule_lending]
    exact ⟨(raiseSchedule_op s).trans op, raiseSchedule_holders s, raiseSchedule_journal s, rfl, rfl, raisedRun⟩

/-- A due that is missed for the host: the record of the miss, and the port LENT again (R132). -/
theorem hostKeeps_misses (run : s.run = some r) (op : s.op = none) :
    (hostKeeps s).op = none ∧ (hostKeeps s).lending = { s.lending with port := .lent } ∧
      (hostKeeps s).holders.lend = s.holders.lend ∧
      entryOf .cameraTaken (hostKeeps s).notices = entryOf .cameraTaken s.notices ∧
      (s.journal.miss r r.nextDue .lent).Grows (hostKeeps s).journal := by
  have missed := consumeMissed_frame (fed := none) .lent s
  have rest := afterConsumption_frame (fed := none)
    { consumeDue (.missed .lent) s with lending := { (consumeDue (.missed .lent) s).lending with port := .lent } }
  have records : (s.journal.miss r r.nextDue .lent).Grows (consumeDue (.missed .lent) s).journal := by
    rw [consumeDue_missed run]
    exact (stepDue_kept (b := true) none (s.afterMiss r .lent)).journal
  unfold hostKeeps
  dsimp only
  refine ⟨rest.op.trans (missed.op.trans op), ?_, ?_, ?_, ?_⟩
  · rw [rest.lending, missed.lending]
  · rw [rest.holders]
    show (consumeDue (.missed .lent) s).holders.lend = _
    rw [missed.holders]
  · exact (afterConsumption_entry rfl _).trans (consumeDue_entry rfl _ _)
  · exact records.trans (afterConsumption_kept (b := true)
      { consumeDue (.missed .lent) s with lending := { (consumeDue (.missed .lent) s).lending with port := .lent } }).journal

/-- Where the next due lies ahead, one due is missed and no more (R132). -/
theorem hostKeeps_ahead (run : s.run = some r) (plan : s.planAt r.plan = some p)
    (count : p.frameLimit = 0 ∨ 2 ≤ r.remaining)
    (ahead : s.now < r.nextDue + eighths (s.effectiveInterval p r.k)) :
    hostKeeps s = noteNextDue
      { s.afterMiss r .lent with
        run := some (s.consumed r p none), lending := { s.lending with port := .lent } } := by
  have missed : consumeDue (.missed .lent) s =
      { s.afterMiss r .lent with run := some (s.consumed r p none) } := by
    rw [consumeDue_missed run]
    exact stepDue_goesOn (s := s.afterMiss r .lent) run plan count none
  unfold hostKeeps
  dsimp only
  rw [missed]
  refine afterConsumption_ahead rfl ?_
  exact ahead.trans_le (Nat.le_add_right _ _)

/-- What one missed due leaves where the next lies ahead (R44, R132). -/
theorem hostKeeps_goesOn (run : s.run = some r) (plan : s.planAt r.plan = some p)
    (count : p.frameLimit = 0 ∨ 2 ≤ r.remaining)
    (ahead : s.now < r.nextDue + eighths (s.effectiveInterval p r.k)) :
    (hostKeeps s).journal = s.journal.miss r r.nextDue .lent ∧
      (∃ n, (hostKeeps s).run = some n ∧ n.nextDue = r.nextDue + eighths (s.effectiveInterval p r.k) ∧
        n.bLast = none) ∧
      ((hostKeeps s).reclaimable = true ↔ s.awake = true ∧ s.engine = .armed ∧ r.state = .active ∧
        r.nextDue + eighths (s.effectiveInterval p r.k) -
          (eighths s.tables.general.reclaimLead + s.wakeLead r) ≤ s.now) := by
  obtain ⟨wake, meter, noted, -⟩ := noteNextDue_eq (s := { s.afterMiss r .lent with
    run := some (s.consumed r p none), lending := { s.lending with port := .lent } }) rfl
  rw [hostKeeps_ahead run plan count ahead, noted]
  refine ⟨rfl, ⟨_, rfl, rfl, rfl⟩, reclaimable_iff.trans ?_⟩
  constructor
  · rintro ⟨n, ⟨⟩, -, awake, armed, active, moment⟩
    exact ⟨awake, armed, active, moment⟩
  · rintro ⟨awake, armed, active, moment⟩
    exact ⟨_, rfl, rfl, awake, armed, active, moment⟩

end

/-- Settles O45: by the lend policy at the due, and by the change of level of the reading. -/
theorem thePortIsTakenForTheDueAndAtCritical : Obligations.ThePortIsTakenForTheDueAndAtCritical := by
  refine ⟨fun s r q awake run active armed port unreached past range op plan lend health => ?_,
    fun s d mv celsius awake deadline out supplied op => ?_⟩
  · have stands : s.part.dueMoment = some r.nextDue := by simp [Part.dueMoment, run, unreached]
    have taken := exec_arrival (c := .dueReached) (f := takeDue) (moment := Part.dueMoment) rfl awake stands
      past range
    rw [takeDue_reclaiming run armed active port] at taken
    obtain ⟨wake, meter, noted, latest⟩ :=
      noteNextDue_eq (s := { s.part with run := some { r with dueReached := true } }) rfl
    have kept := (kept_edit (b := false) s.part (run := some { r with dueReached := true })
      (runCount := s.part.runCount) (lastBase := s.part.lastBase) (doneMark := s.part.doneMark)
      (arbiter := s.part.arbiter) (op := s.part.op) (holders := s.part.holders) (camera := s.part.camera)
      (lending := s.part.lending)).trans (noteNextDue_kept _)
    have notices := noteNextDue_notices { s.part with run := some { r with dueReached := true } }
    generalize noteNextDue { s.part with run := some { r with dueReached := true } } = m at *
    refine ⟨fun policy => ?_, fun policy => ?_⟩
    · have settles : settleReclaim m = takeBack .due m := by
        have first : m.tables.general.lendPolicy = .partFirst := by rw [kept.tables]; exact policy
        simp [settleReclaim, first]
      rw [settles] at taken
      obtain ⟨lending, unlent, shows⟩ := takeBack_takes .due m
      rw [kept.tables, kept.now] at shows
      refine ⟨_, taken, rfl, kept.trans ((takeBack_kept .due m).trans (settle_kept _)), lending, unlent,
        shows, fun empty level hold late => ?_⟩
      obtain ⟨set, shown⟩ : ∃ set, raiseTaken .due (ownPort false m) = { ownPort false m with notices := set } :=
        ⟨_, raiseNotice_eq _ _ _⟩
      have hands : takeBack .due m = handover { ownPort false m with notices := set } := congrArg handover shown
      rw [hands]
      subst noted
      obtain ⟨o, c, n, op', source, due, comp, underway, profile, computed, run', next⟩ := handover_computes
        (s := { ownPort false { s.part with
            run := some { r with dueReached := true, wakeReached := wake }, meter := meter } with
          notices := set })
        ⟨rfl, rfl⟩ rfl armed active awake hold op (congrArg Arbiter.schedule empty)
        (congrArg Arbiter.external empty) (congrArg Arbiter.manual empty) health level lend past late plan
      exact ⟨o, c, n, op', source, due, comp, underway, profile, computed.congr rfl latest.symm rfl rfl, run',
        next⟩
    · have settles : settleReclaim m = hostKeeps m := by
        have first : m.tables.general.lendPolicy = .hostFirst := by rw [kept.tables]; exact policy
        simp [settleReclaim, first]
      rw [settles] at taken
      have keepsAll := kept.trans ((hostKeeps_kept (b := false) m).trans (settle_kept _))
      subst noted
      obtain ⟨idle, lending, holders, entry, grows⟩ := hostKeeps_misses
        (s := { s.part with run := some { r with dueReached := true, wakeReached := wake }, meter := meter })
        rfl op
      have host : (hostKeeps { s.part with
          run := some { r with dueReached := true, wakeReached := wake }, meter := meter }).lending.port.hostSide =
          true := by rw [lending]; rfl
      obtain ⟨none', holders', journal', lending', port', run'⟩ := settle_hostSide_fields idle host
      refine ⟨_, taken, rfl, keepsAll, none', ?_, ?_, ?_, ?_, ?_, fun count ahead => ?_⟩
      · refine lending'.trans ?_
        rw [lending]
        rfl
      · show (settle _).lending.port.hostSide = true
        rw [port', lending]
        split <;> rfl
      · show (settle _).holders.lend = true
        rw [holders', holders]
        exact lend
      · exact (settle_hostSide_entry idle host (by decide)).trans entry
      · show Journal.Grows _ (settle _).journal
        rw [journal']
        exact grows
      · obtain ⟨records, ⟨n, ran, next, unfed⟩, reclaims⟩ := hostKeeps_goesOn
          (s := { s.part with run := some { r with dueReached := true, wakeReached := wake }, meter := meter })
          rfl plan count ahead
        obtain ⟨limit, ran'⟩ := run' n ran
        refine ⟨journal'.trans records, ⟨_, ran', next, unfed⟩, port'.trans ?_⟩
        rw [lending]
        refine if_congr (reclaims.trans ?_) rfl rfl
        have moment : r.nextDue + eighths (s.part.effectiveInterval q r.k) -
              (eighths s.part.tables.general.reclaimLead + s.part.wakeLead r) ≤ s.part.now ↔
            r.nextDue + eighths (s.part.effectiveInterval q r.k) ≤
              s.part.now + eighths s.part.tables.general.reclaimLead + s.part.wakeLead r := by omega
        rw [← moment]
        exact ⟨fun h => h.2.2.2, fun h => ⟨awake, armed, active, h⟩⟩
  · intro e confirmed level
    have taken : exec (.batteryPeriodicDeadline mv celsius) s =
        .next (s.put (settle (periodicDue d (putSense mv celsius s.part)))) :=
      exec_expiry (due := fun p => p.battery.deadline)
        (f := fun d p => periodicDue d (putSense mv celsius p)) rfl awake deadline out
    have awakeNow : ¬ s.part.monitor.state = .riding := by simp [supplied]
    have reads : periodicDue d (putSense mv celsius s.part) =
        takePeriodic ((putSense mv celsius s.part).rechecked d) :=
      (periodicDue_eq d _).trans (if_neg awakeNow)
    rw [reads] at taken
    have turns : takePeriodic ((putSense mv celsius s.part).rechecked d) = changeLevel .critical
        { (putSense mv celsius s.part).rechecked d with
          battery := { ((putSense mv celsius s.part).rechecked d).battery with
            latest := some (((putSense mv celsius s.part).rechecked d).sample .periodic), worse := 0, better := 0 } } := by
      have anew : ((putSense mv celsius s.part).rechecked d).periodicJudgement = ⟨0, 0, some .critical⟩ :=
        judge_confirmed confirmed
      unfold takePeriodic judgeReading
      rw [show judge _ _ _ _ _ = _ from anew]
    rw [turns] at taken
    obtain ⟨none, graded, journal, ⟨external, manual⟩, run, enters⟩ := changeLevel_critical
      (s := { (putSense mv celsius s.part).rechecked d with
        battery := { ((putSense mv celsius s.part).rechecked d).battery with
          latest := some (((putSense mv celsius s.part).rechecked d).sample .periodic), worse := 0, better := 0 } })
      level op
    exact ⟨_, taken, rfl, graded, none, journal, enters.lend, enters.keepWarm, external, manual, run,
      enters.owned, enters.yielding, enters.host, enters.taken⟩

end Sys2Proof.Machine

/-! PROOFS. A step of the clock and the next due (R11, R12): the dues that it passes are missed as
CLOCK_STEP, one too far ahead is moved, and one that an operation holds waits for its consumption. -/

namespace Sys2Proof.Machine

/-! ### A run and its window through a catch-up -/

/-- The run of a window goes on under its origin plan, or it has ended with the window marked done beyond
now. -/
def Part.HeldOrMarked (s : Part) (w : Fin 8) (origin : Fin 16) : Prop :=
  (∃ r, s.run = some r ∧ r.window = w ∧ r.originPlan = origin) ∨
  (s.run = none ∧ ∃ m, s.doneMark = some m ∧ m.window = w ∧ s.now < m.stop)

theorem sodOf_dayOf (t : Nat) : sodOf t < 86400 ∧
    t < (dayOf t * Config.secondsPerDay + sodOf t + 1) * Config.ticksPerSecond := by
  simp only [sodOf, dayOf, Config.secondsPerDay, Config.ticksPerSecond]
  omega

theorem occurrenceAt_ahead {w : Window} {t : Nat} {o : Occurrence} (within : occurrenceAt w t = some o) :
    t < o.stop := by
  have day := sodOf_dayOf t
  unfold occurrenceAt at within
  dsimp only at within
  repeat' split at within
  all_goals first
    | exact absurd within.symm (Option.some_ne_none o)
    | obtain rfl := Option.some.inj within
      simp only [instantOf, Config.secondsPerDay, Config.ticksPerSecond] at day ⊢
      omega

theorem finishByAction_marks {s : Part} {r : Run} {o : Occurrence} (run : s.run = some r)
    (op : s.op = none) (within : s.occurrenceNow r.window = some o) :
    (finishByAction s).run = none ∧ (finishByAction s).doneMark = some ⟨r.window, o.stop⟩ := by
  rw [finishByAction_own run (by simp [op]), raiseNotice_eq]
  exact ⟨rfl, endMark_action (s := s.ended r) rfl within⟩

theorem announceStop_holds {p : Plan} {i : Fin 16} {s : Part} {w : Fin 8} {origin : Fin 16}
    (held : s.HeldOrMarked w origin) : (announceStop p i s).HeldOrMarked w origin := by
  unfold announceStop
  split
  · exact held
  · rw [raiseNotice_eq]
    exact held

theorem stepDue_heldOrMarked {s : Part} {r : Run} {o : Occurrence} (run : s.run = some r)
    (active : r.state = .active) (op : s.op = none) (within : s.occurrenceNow r.window = some o)
    (feedback : Option (Int × Int)) : (stepDue feedback s).HeldOrMarked r.window r.originPlan := by
  cases plan : s.planAt r.plan with
  | none =>
    simp only [stepDue, run, plan]
    exact .inl ⟨_, rfl, rfl, rfl⟩
  | some p =>
    by_cases count : p.frameLimit = 0 ∨ 2 ≤ r.remaining
    · rw [stepDue_goesOn run plan count]
      exact .inl ⟨_, rfl, rfl, rfl⟩
    · rw [stepDue_ends run plan (by omega) (by omega)]
      by_cases stops : p.endAction.chains = false ∨ p.chainTarget.bind s.planAt = none
      · rw [endAction_stops (r := s.consumed r p feedback) active stops]
        obtain ⟨gone, mark⟩ := finishByAction_marks (s := { s with run := some (s.consumed r p feedback) })
          rfl op within
        refine announceStop_holds (.inr ⟨gone, _, mark, rfl, ?_⟩)
        have now : (finishByAction { s with run := some (s.consumed r p feedback) }).now = s.now :=
          (finishByAction_kept (b := true) _).now
        rw [now]
        exact occurrenceAt_ahead within
      · obtain ⟨chains, some_⟩ := not_or.1 stops
        obtain ⟨q, defined⟩ := Option.ne_none_iff_exists'.1 some_
        obtain ⟨t, target, defined⟩ := Option.bind_eq_some_iff.1 defined
        rw [endAction_chains (r := s.consumed r p feedback) active (by simpa using chains) target defined]
        split
        · rw [raiseNotice_eq]
          exact .inl ⟨_, rfl, rfl, rfl⟩
        · exact .inl ⟨_, rfl, rfl, rfl⟩

theorem consumePassed_heldOrMarked (reason : MissReason) (n : Nat) {s : Part} {w : Fin 8}
    {origin : Fin 16} {o : Occurrence} (held : s.HeldOrMarked w origin) (op : s.op = none)
    (within : s.occurrenceNow w = some o) : (consumePassed reason n s).HeldOrMarked w origin := by
  induction n generalizing s with
  | zero => exact held
  | succ n ih =>
    unfold consumePassed
    split
    · next passed =>
      obtain ⟨r, run, active, -⟩ :=
        (duePassed_iff (by rw [Part.dueGranted, op])).1 passed
      obtain ⟨q, run', rfl, rfl⟩ : ∃ r, s.run = some r ∧ r.window = w ∧ r.originPlan = origin := by
        obtain there | ⟨gone, -⟩ := held
        · exact there
        · cases run.symm.trans gone
      cases run.symm.trans run'
      have kept : Kept false s (consumeDue (.missed reason) s) := consumeDue_kept _ s
      refine ih ?_ ((consumeMissed_frame (fed := none) reason s).op.trans op) ?_
      · rw [consumeDue_missed run]
        exact stepDue_heldOrMarked (s := s.afterMiss r reason) run active op within none
      · rw [Part.occurrenceNow, kept.tables, kept.now]
        exact within
    · exact held

theorem catchUp_heldOrMarked (reason : MissReason) {s : Part} {r : Run} {o : Occurrence}
    (run : s.run = some r) (op : s.op = none) (within : s.occurrenceNow r.window = some o) :
    (catchUp reason s).HeldOrMarked r.window r.originPlan :=
  consumePassed_heldOrMarked reason s.dueFuel (s := withdrawSchedule s) (.inl ⟨r, run, rfl, rfl⟩) op within

/-! ### The selection after a catch-up -/

theorem selectedWindow_same {s t : Part} (tables : t.tables = s.tables) (time : t.time = s.time)
    (gates : t.gates = s.gates) (level : t.battery.level = s.battery.level) :
    t.selectedWindow = s.selectedWindow := by
  have active : t.windowActive = s.windowActive := by
    funext i
    simp only [Part.windowActive, Part.planAt, Part.now, tables, time, gates, level]
  rw [Part.selectedWindow, active, Part.selectedWindow]

theorem selectedWindow_within {s : Part} {w : Fin 8} (selected : s.selectedWindow = some w) :
    ∃ o, s.occurrenceNow w = some o := by
  obtain ⟨-, -, ⟨o, within, -⟩, -⟩ := (s.windowActive_iff w).1 (List.find?_some selected)
  exact ⟨o, within⟩

/-- A selected window whose run goes on, or has ended by its end action, starts no run. -/
theorem reEvaluate_heldOrMarked {s : Part} {w : Fin 8} (engine : s.engine ≠ .disarmed)
    (held : s.HeldOrMarked w (s.tables.windows.get w).plan) (selected : s.selectedWindow = some w) :
    reEvaluate s = s.remarked := by
  obtain ⟨r, run, rfl, origin⟩ | ⟨gone, m, mark, rfl, ahead⟩ := held
  · exact reEvaluate_keeps engine run (.inr ⟨selected, origin.symm⟩)
  · rw [reEvaluate_noRun engine gone, selected]
    have stays : s.remarked.doneMark = some m := by
      change markAfter s.selectedWindow s.now s.doneMark = _
      rw [mark, markAfter, if_pos ⟨selected, ahead⟩]
    unfold startSelected
    dsimp only
    rw [if_pos (by simp [stays])]

end Sys2Proof.Machine

/-! PROOFS. SET_CLOCK and the next due (R11, R12). -/

namespace Sys2Proof.Machine

theorem exec_setClock {s : State} {p : List Byte} (awake : s.part.awake = true)
    (empty : s.part.link.handled = none) (length : p.length = 4)
    (range : fieldNat 0 4 p ≤ Config.lastSecond) :
    exec (.setClock p) s = .next (s.put (startReply ⟨0x02#8, p⟩ (.ok (oldClockData s.part))
      (settle (stepClock (fieldNat 0 4 p) s.part)))) := by
  refine exec_done (f := handleSetClock p) rfl awake empty ?_
  simp only [handleSetClock, length, ne_eq, not_true_eq_false, if_false]
  exact if_neg (Nat.not_lt.mpr range)

/-- The part as a step of a SET clock finds the next due: the clock put, and the request withdrawn. -/
def Part.stepped (s : Part) (seconds : Nat) : Part := withdrawSchedule (putClock seconds s)

theorem stepClock_set {s : Part} (set : s.time.clock = .set) (seconds : Nat) : stepClock seconds s =
    reEvaluate (endReachedWaiting (noteNextDue (settleDue s.now (s.stepped seconds)))) := by
  unfold stepClock
  dsimp only
  rw [set]
  rfl

section

variable {s : Part} {r : Run}

theorem endReachedWaiting_run (run : s.run = some r) : endReachedWaiting s =
    if r.nextDue ≤ s.now then
      endWaiting { s with run := some { r with dueReached := decide (r.nextDue ≤ s.now) } }
    else { s with run := some { r with dueReached := decide (r.nextDue ≤ s.now) } } := by
  simp only [endReachedWaiting, run]
  rfl

/-- With no operation in WAITING the due's moment is only noted. -/
theorem endReachedWaiting_noOp (none : ∀ o ∈ s.op, o.phase ≠ .waiting) : endReachedWaiting s =
    { s with run := s.run.map fun r => { r with dueReached := decide (r.nextDue ≤ s.now) } } := by
  cases run : s.run with
  | none =>
    simp only [endReachedWaiting, run]
    rw [Option.map_none, ← run]
  | some r =>
    rw [endReachedWaiting_run run]
    split
    · rw [endWaiting_noOp]
      · rfl
      · exact none
    · rfl

/-- WAITING whose due has been reached ends with its computation (R12). -/
theorem endReachedWaiting_computes {o : Operation} {q : Plan} (op : s.op = some o)
    (waiting : o.phase = .waiting) (run : s.run = some r) (stored : s.planAt r.plan = some q)
    (due : r.nextDue ≤ s.now) :
    ∃ (x : Operation) (c : Computation) (n : Run) (camera : CameraPort),
      endReachedWaiting s = { s with op := some x, run := some n, camera := camera } ∧
      x.comp = some c ∧ x.fixed = o.fixed ∧ x.phase.isUnderway = true ∧ DueComputation o r q s x c n ∧
      n = { r with eBase := n.eBase, aPrev := n.aPrev, dueReached := decide (r.nextDue ≤ s.now) } := by
  obtain ⟨x, c, n, camera, ends, comp, fixed, underway, computed, kept⟩ := endWaiting_computes
    (s := { s with run := some { r with dueReached := decide (r.nextDue ≤ s.now) } }) op waiting rfl stored
  refine ⟨x, c, n, camera, ?_, comp, fixed, underway, computed, kept⟩
  rw [endReachedWaiting_run run, if_pos due, ends]

/-! ### A due ahead of the new clock -/

theorem settleDue_ahead {q : Plan} (run : s.run = some r) (active : r.state = .active)
    (stored : s.planAt r.plan = some q) (ahead : s.now < r.nextDue) (old : Nat) :
    ∃ (op : Option Operation) (due limit : Nat) (wake reached : Bool),
      settleDue old s = { s with
        op := op
        run := some { r with
          nextDue := due, lateLimit := limit, wakeReached := wake, dueReached := reached
          stepCatchUp := false } } ∧
      (s.op = none → op = none) ∧
      (s.now < old → s.now + eighths (s.effectiveInterval q r.k) < r.nextDue →
        due = s.now + eighths (s.effectiveInterval q r.k) ∧ limit = s.tables.general.lateLimit) ∧
      (old ≤ s.now ∨ r.nextDue ≤ s.now + eighths (s.effectiveInterval q r.k) →
        due = r.nextDue ∧ limit = r.lateLimit) := by
  have interval : Part.currentInterval { s with run := some { r with stepCatchUp := false } } r =
      some (eighths (s.effectiveInterval q r.k)) := by
    have same : Part.planAt { s with run := some { r with stepCatchUp := false } } r.plan = some q := stored
    rw [Part.currentInterval, same]
    rfl
  have goes : ¬ r.state = .ending := by simp [active]
  simp only [settleDue, run]
  rw [if_neg goes, if_neg (Nat.not_le.2 ahead), interval]
  dsimp only
  split
  · next back =>
    refine ⟨_, _, _, _, _, rfl, fun still => ?_, fun _ _ => ⟨rfl, rfl⟩, fun stays => ?_⟩
    · change Option.map _ s.op = none
      rw [still]
      rfl
    · have back : s.now < old ∧ s.now + eighths (s.effectiveInterval q r.k) < r.nextDue := back
      omega
  · next stays =>
    refine ⟨s.op, r.nextDue, r.lateLimit, r.wakeReached, r.dueReached, rfl, id, fun back far => ?_,
      fun _ => ⟨rfl, rfl⟩⟩
    exact absurd ⟨back, far⟩ stays

/-! ### A PAUSED engine -/

section Paused

variable (paused : s.engine = .paused) {n : Nat}
include paused

theorem noteNextDue_paused : noteNextDue s = s :=
  noteNextDue_unserved fun r _ => by simp [Part.serves, paused]

/-- A due that the step passes is missed as CLOCK_STEP with those that follow it, and the selection then
starts no run. -/
theorem stepClock_passes (set : s.time.clock = .set) (run : s.run = some r) (active : r.state = .active)
    (op : s.op = none) (selected : (putClock n s).selectedWindow = some r.window)
    (plan : (s.tables.windows.get r.window).plan = r.originPlan)
    (due : r.nextDue ≤ n * Config.ticksPerSecond) :
    ∃ (mark : Option DoneMark) (reached : Run → Bool), stepClock n s = { catchUp .clockStep (s.stepped n) with
      run := (catchUp .clockStep (s.stepped n)).run.map fun r => { r with dueReached := reached r }
      doneMark := mark } := by
  have settled : settleDue s.now (s.stepped n) = catchUp .clockStep (s.stepped n) := by
    have free : (s.stepped n).dueGranted = false := by
      change (match s.op with
        | some o => o.source == .schedule && !o.settled
        | none => false) = false
      rw [op]
    have held : (s.stepped n).run = some r := run
    simp only [settleDue, held, active, free]
    exact if_pos due
  have frame : RunFrame none (s.stepped n) (catchUp .clockStep (s.stepped n)) := catchUp_frame _ _
  have kept : Kept false (s.stepped n) (catchUp .clockStep (s.stepped n)) := catchUp_kept _ _
  obtain ⟨o, within⟩ := selectedWindow_within selected
  have holds := catchUp_heldOrMarked .clockStep (s := s.stepped n) run op within
  have chosen : (catchUp .clockStep (s.stepped n)).selectedWindow = some r.window :=
    (selectedWindow_same kept.tables kept.time kept.gates (congrArg Battery.level frame.battery)).trans
      selected
  rw [← plan] at holds
  rw [stepClock_set set, settled]
  generalize catchUp .clockStep (s.stepped n) = u at *
  have still : u.op = none := frame.op.trans op
  have engine : u.engine = .paused := kept.engine.trans paused
  rw [noteNextDue_paused engine,
    endReachedWaiting_noOp (by simp [still])]
  rw [reEvaluate_heldOrMarked (w := r.window)]
  · exact ⟨_, fun r => decide (r.nextDue ≤ u.now), rfl⟩
  · change u.engine ≠ _
    simp [engine]
  · change Part.HeldOrMarked _ r.window (u.tables.windows.get r.window).plan
    rw [kept.tables]
    obtain ⟨q, held, window, origin⟩ | gone := holds
    · exact .inl ⟨{ q with dueReached := decide (q.nextDue ≤ u.now) }, by rw [held]; rfl, window, origin⟩
    · refine .inr ⟨?_, gone.2⟩
      rw [gone.1]
      rfl
  · exact chosen

/-- A due ahead of the new clock stands or is moved, and the run goes on. -/
theorem stepClock_ahead {q : Plan} (set : s.time.clock = .set) (run : s.run = some r)
    (active : r.state = .active) (stored : s.planAt r.plan = some q)
    (op : s.op = none) (selected : (putClock n s).selectedWindow = some r.window)
    (plan : (s.tables.windows.get r.window).plan = r.originPlan)
    (ahead : n * Config.ticksPerSecond < r.nextDue) :
    ∃ (mark : Option DoneMark) (due limit : Nat) (wake reached : Bool),
      stepClock n s = { s.stepped n with
        run := some { r with
          nextDue := due, lateLimit := limit, wakeReached := wake, dueReached := reached
          stepCatchUp := false }
        doneMark := mark } ∧
      (n * Config.ticksPerSecond < s.now →
        n * Config.ticksPerSecond + eighths (s.effectiveInterval q r.k) < r.nextDue →
        due = n * Config.ticksPerSecond + eighths (s.effectiveInterval q r.k) ∧
          limit = s.tables.general.lateLimit) ∧
      (s.now ≤ n * Config.ticksPerSecond ∨
        r.nextDue ≤ n * Config.ticksPerSecond + eighths (s.effectiveInterval q r.k) →
        due = r.nextDue ∧ limit = r.lateLimit) := by
  obtain ⟨op', due, limit, wake, reached, settled, still, moves, stands⟩ :=
    settleDue_ahead (s := s.stepped n) run active stored ahead s.now
  have gone : op' = s.op := (still op).trans op.symm
  refine ⟨(s.stepped n).remarked.doneMark, due, limit, wake, decide (due ≤ n * Config.ticksPerSecond), ?_,
    moves, stands⟩
  rw [stepClock_set set, settled, noteNextDue_paused (by exact paused), endReachedWaiting_noOp]
  · rw [reEvaluate_keeps (r := { r with
        nextDue := due, lateLimit := limit, wakeReached := wake
        dueReached := decide (due ≤ n * Config.ticksPerSecond), stepCatchUp := false })]
    · rw [gone]
      rfl
    · change s.engine ≠ _
      simp [paused]
    · rfl
    · exact .inr ⟨selected, plan⟩
  · change ∀ o ∈ op', _
    simp [gone, op]

end Paused

/-! ### A due that an operation holds -/

/-- With an operation in flight a re-evaluation leaves the run, or brings it to ENDING (R35, R37). -/
theorem reEvaluate_inFlight (run : s.run = some r) (op : s.op.isSome = true) :
    ∃ (mark : Option DoneMark) (schedule : Option Request) (warm : Bool) (state : RunState),
      reEvaluate s = { s with
        run := some { r with state := state }
        doneMark := mark
        arbiter := { s.arbiter with schedule := schedule }
        holders := { s.holders with keepWarm := warm } } ∧
      (s.arbiter.schedule = none → schedule = none) ∧ (r.state = .ending → state = .ending) := by
  have shape : reEvaluate s = s.remarked ∨ r.state = .active ∧ reEvaluate s = s.remarked.inEnding r := by
    by_cases engine : s.engine = .disarmed
    · unfold reEvaluate
      exact .inl (if_pos engine)
    · by_cases keeps : r.state = .ending ∨
          s.selectedWindow = some r.window ∧ (s.tables.windows.get r.window).plan = r.originPlan
      · exact .inl (reEvaluate_keeps engine run keeps)
      · obtain ⟨goes, lost⟩ := not_or.1 keeps
        have active : r.state = .active := by cases h : r.state <;> simp_all
        exact .inr ⟨active, reEvaluate_ends_inFlight engine run active (by tauto) op⟩
  obtain same | ⟨-, same⟩ := shape
  · exact ⟨s.remarked.doneMark, s.arbiter.schedule, s.holders.keepWarm, r.state,
      by rw [same, Part.remarked, ← run], id, id⟩
  · exact ⟨s.remarked.doneMark, none, false, .ending, same, fun _ => rfl, fun _ => rfl⟩

/-- A due that the step passes is left to the operation that holds it, with the catch-up deferred. -/
theorem settleDue_defers (run : s.run = some r) (active : r.state = .active) (due : r.nextDue ≤ s.now)
    (held : s.dueGranted = true) (old : Nat) :
    settleDue old s = { s with run := some { r with stepCatchUp := true } } := by
  have goes : ¬ r.state = .ending := by simp [active]
  simp only [settleDue, run]
  rw [if_neg goes, if_pos due, if_pos held]

theorem settleDue_ending (run : s.run = some r) (ending : r.state = .ending) (old : Nat) :
    settleDue old s = s := by
  simp only [settleDue, run]
  exact if_pos ending

/-- An operation that holds the due keeps the tail from raising it again. -/
theorem settle_held {o : Operation} (op : s.op = some o) (source : o.source = .schedule)
    (open_ : o.settled = false) (unasked : o.askReading = false) (past : o.phase.isWaking = false)
    (here : s.lending.port.hostSide = false) : settle s = s := by
  rw [settle_busy op unasked past here]
  cases run : s.run with
  | none => exact raiseSchedule_noRun run
  | some r =>
    refine raiseSchedule_silent run fun opens => ?_
    obtain ⟨⟨-, -, -, -, -, -, free, -⟩, -⟩ := opens
    simp [free o op source] at open_

/-- What a step leaves of an operation past WAITING and of its run. -/
theorem reEvaluate_endReached {o : Operation} (op : s.op = some o) (run : s.run = some r)
    (past : o.phase ≠ .waiting) :
    ∃ (mark : Option DoneMark) (schedule : Option Request) (warm wake reached : Bool) (state : RunState)
      (meter : Meter),
      reEvaluate (endReachedWaiting (noteNextDue s)) = { s with
        run := some { r with state := state, wakeReached := wake, dueReached := reached }
        meter := meter
        doneMark := mark
        arbiter := { s.arbiter with schedule := schedule }
        holders := { s.holders with keepWarm := warm } } ∧
      (s.arbiter.schedule = none → schedule = none) ∧ (r.state = .ending → state = .ending) := by
  obtain ⟨wake, meter, noted, -⟩ := noteNextDue_eq run
  have ends := endReachedWaiting_noOp
    (s := { s with run := some { r with wakeReached := wake }, meter := meter }) (by simpa [op] using past)
  rw [noted, ends]
  obtain ⟨mark, schedule, warm, state, same, withdrawn, ending⟩ := reEvaluate_inFlight
    (s := { s with
      run := some { r with wakeReached := wake, dueReached := decide (r.nextDue ≤ s.now) }
      meter := meter }) rfl (by simp [op])
  exact ⟨mark, schedule, warm, wake, decide (r.nextDue ≤ s.now), state, meter, same, withdrawn, ending⟩

/-! ### The step with its tail -/

variable {n : Nat} {q : Plan} {o : Operation}

theorem stepped_free (op : s.op = none) : (s.stepped n).dueGranted = false := by
  unfold Part.dueGranted
  split
  · next held => cases op.symm.trans held
  · rfl

theorem stepped_granted (op : s.op = some o) (source : o.source = .schedule) (open_ : o.settled = false) :
    (s.stepped n).dueGranted = true :=
  (dueGranted_iff _).2 ⟨o, op, source, open_⟩

/-- The first due passed is the one miss where the next one lies ahead. -/
theorem catchUp_once {t : Part} (free : t.dueGranted = false) (run : t.run = some r)
    (active : r.state = .active) (stored : t.planAt r.plan = some q) (due : r.nextDue ≤ t.now)
    (count : q.frameLimit = 0 ∨ 2 ≤ r.remaining)
    (ahead : t.now < r.nextDue + eighths (t.effectiveInterval q r.k)) (reason : MissReason) :
    catchUp reason t = { t.afterMiss r reason with run := some (t.consumed r q none) } := by
  obtain ⟨fuel, first⟩ := catchUp_passed free run active due reason
  rw [first, consumeDue_missed (s := withdrawSchedule t) run,
    stepDue_goesOn (s := (withdrawSchedule t).afterMiss r reason) run stored count]
  cases fuel with
  | zero => rfl
  | succ fuel =>
    unfold consumePassed
    refine if_neg fun passed => ?_
    obtain ⟨x, ran, -, behind⟩ := (duePassed_iff (by exact free)).1 passed
    cases ran
    exact absurd ahead (Nat.not_lt.2 behind)

/-- In a PAUSED engine the dues that the step passes are missed, the first of them first (R11). -/
theorem settle_stepClock_passes (paused : s.engine = .paused) (set : s.time.clock = .set)
    (still : s.Still) (run : s.run = some r) (active : r.state = .active)
    (stored : s.planAt r.plan = some q) (selected : (putClock n s).selectedWindow = some r.window)
    (plan : (s.tables.windows.get r.window).plan = r.originPlan)
    (due : r.nextDue ≤ n * Config.ticksPerSecond) :
    let t := settle (stepClock n s)
    (s.journal.miss r r.nextDue .clockStep).Grows t.journal ∧ t.arbiter.schedule = none ∧
    (s.tables.Lawful → ∀ x ∈ t.run, x.state = .active → n * Config.ticksPerSecond < x.nextDue) ∧
    ((q.frameLimit = 0 ∨ 2 ≤ r.remaining) →
      n * Config.ticksPerSecond < r.nextDue + eighths (s.effectiveInterval q r.k) →
      t.journal = s.journal.miss r r.nextDue .clockStep ∧
      ∃ x, t.run = some x ∧ x.nextDue = r.nextDue + eighths (s.effectiveInterval q r.k) ∧
        x.k = (if r.k < 4294967295 then r.k + 1 else 4294967295) ∧ x.bLast = none) := by
  obtain ⟨op, external, manual, port⟩ := still
  obtain ⟨mark, reached, stepped⟩ := stepClock_passes paused set run active op selected plan due
  have free := stepped_free (n := n) op
  obtain ⟨fuel, first⟩ := catchUp_passed (s := s.stepped n) free run active due .clockStep
  obtain ⟨-, -, missed, gone, -⟩ :=
    consumeMissed_lapses (s := withdrawSchedule (s.stepped n)) run .clockStep
  have grows := (consumePassed_kept (b := false) .clockStep fuel
    (consumeDue (.missed .clockStep) (withdrawSchedule (s.stepped n)))).journal
  have schedule := (consumePassed_lapses .clockStep fuel gone).2.2.1
  have frame : RunFrame none (s.stepped n) (catchUp .clockStep (s.stepped n)) := catchUp_frame _ _
  have kept : Kept false (s.stepped n) (catchUp .clockStep (s.stepped n)) := catchUp_kept _ _
  rw [← first] at grows schedule
  rw [missed] at grows
  have later := fun law => catchUp_later (s := s.stepped n) law free
    (fun x h => by
      cases run.symm.trans h
      exact Option.isSome_iff_exists.2 ⟨q, stored⟩) .clockStep
  have once := fun count ahead =>
    catchUp_once (t := s.stepped n) free run active stored due count ahead .clockStep
  rw [stepped]
  clear stepped first
  generalize catchUp .clockStep (s.stepped n) = u at *
  have engine : u.engine ≠ .armed := by
    rw [show u.engine = s.engine from kept.engine, paused]
    decide
  have quiet := settle_notArmed (s := { u with
      run := u.run.map fun r => { r with dueReached := reached r }, doneMark := mark })
    ⟨frame.op.trans op, (congrArg Arbiter.external frame.arbiter).trans external,
      (congrArg Arbiter.manual frame.arbiter).trans manual,
      (congrArg Lending.port frame.lending).trans port⟩ schedule engine
  rw [quiet]
  refine ⟨grows, schedule, fun law x ran goesOn => ?_, fun count ahead => ?_⟩
  · obtain ⟨y, held, rfl⟩ := Option.map_eq_some_iff.1 ran
    exact later law y held goesOn
  · have same := once count ahead
    subst same
    exact ⟨rfl, _, rfl, rfl, rfl, rfl⟩

/-- A due held by an operation past WAITING is left to it. -/
theorem settle_stepClock_held (set : s.time.clock = .set) (run : s.run = some r)
    (active : r.state = .active) (due : r.nextDue ≤ n * Config.ticksPerSecond) (op : s.op = some o)
    (source : o.source = .schedule) (open_ : o.settled = false) (unasked : o.askReading = false)
    (here : s.lending.port.hostSide = false) (later : o.phase ≠ .waiting)
    (past : o.phase.isWaking = false) :
    let t := settle (stepClock n s)
    t.journal = s.journal ∧ t.arbiter.schedule = none ∧ t.op = some o ∧
    ∃ x, t.run = some x ∧ x.nextDue = r.nextDue ∧ x.k = r.k ∧ x.stepCatchUp = true := by
  obtain ⟨mark, schedule, warm, wake, reached, state, meter, ends, withdrawn, -⟩ := reEvaluate_endReached
    (s := { s.stepped n with run := some { r with stepCatchUp := true } }) op rfl later
  rw [stepClock_set set,
    settleDue_defers (s := s.stepped n) run active due (stepped_granted op source open_), ends,
    settle_held (o := o) ?_ source open_ unasked past ?_]
  · exact ⟨rfl, withdrawn rfl, op, _, rfl, rfl, rfl, rfl⟩
  · exact op
  · exact here

/-- A due held in WAITING ends it at once, with its computation (R12, R54). -/
theorem settle_stepClock_waiting (set : s.time.clock = .set) (run : s.run = some r)
    (active : r.state = .active) (stored : s.planAt r.plan = some q)
    (due : r.nextDue ≤ n * Config.ticksPerSecond) (op : s.op = some o)
    (source : o.source = .schedule) (open_ : o.settled = false) (unasked : o.askReading = false)
    (here : s.lending.port.hostSide = false) (waiting : o.phase = .waiting) :
    let t := settle (stepClock n s)
    t.journal = s.journal ∧
    ∃ x c y, t.op = some x ∧ x.comp = some c ∧ x.phase.isUnderway = true ∧
      DueComputation o r q s x c y ∧
      t.run = some y ∧ y.nextDue = r.nextDue ∧ y.k = r.k ∧ y.stepCatchUp = true := by
  obtain ⟨wake, meter, noted, latest⟩ := noteNextDue_eq
    (s := { s.stepped n with run := some { r with stepCatchUp := true } }) rfl
  obtain ⟨x, c, y, camera, ends, comp, fixed, underway, computed, kept⟩ := endReachedWaiting_computes
    (s := { s.stepped n with
      meter := meter, run := some { r with stepCatchUp := true, wakeReached := wake } })
    op waiting rfl stored due
  obtain ⟨mark, schedule, warm, state, settled, -, -⟩ := reEvaluate_inFlight
    (s := { s.stepped n with meter := meter, op := some x, run := some y, camera := camera }) rfl rfl
  rw [stepClock_set set,
    settleDue_defers (s := s.stepped n) run active due (stepped_granted op source open_), noted, ends,
    settled,
    settle_held (o := x) ?_ ((congrArg Operation.source fixed :).trans source)
      ((congrArg Operation.settled fixed :).trans open_)
      ((congrArg Operation.askReading fixed :).trans unasked) (waking_of_underway underway) ?_]
  · exact ⟨rfl, x, c, { y with state := state }, rfl, comp, underway,
      computed.congr rfl latest.symm rfl rfl, rfl, (congrArg Run.nextDue kept :),
      (congrArg Run.k kept :), (congrArg Run.stepCatchUp kept :)⟩
  · rfl
  · exact here

/-- The due of an ENDING run is left as it stands. -/
theorem settle_stepClock_ending (set : s.time.clock = .set) (run : s.run = some r)
    (ending : r.state = .ending) (op : s.op = some o) (unasked : o.askReading = false)
    (here : s.lending.port.hostSide = false) (later : o.phase ≠ .waiting)
    (past : o.phase.isWaking = false) :
    let t := settle (stepClock n s)
    t.journal = s.journal ∧ t.op = some o ∧
    ∃ x, t.run = some x ∧ x.nextDue = r.nextDue ∧ x.k = r.k ∧ x.state = .ending := by
  obtain ⟨mark, schedule, warm, wake, reached, state, meter, ends, -, ended⟩ :=
    reEvaluate_endReached (s := s.stepped n) op run later
  obtain ⟨limit, slot, raised⟩ := raiseSchedule_eq (s := { s.stepped n with
    run := some { r with state := state, wakeReached := wake, dueReached := reached }
    meter := meter
    doneMark := mark
    arbiter := { (s.stepped n).arbiter with schedule := schedule }
    holders := { (s.stepped n).holders with keepWarm := warm } }) rfl
  rw [stepClock_set set, settleDue_ending (s := s.stepped n) run ending, ends,
    settle_busy (o := o) ?_ unasked past ?_, raised]
  · exact ⟨rfl, op, _, rfl, rfl, rfl, ended ending⟩
  · exact op
  · exact here

end

theorem pastWaiting {f : Phase} (past : f.isUnderway = true ∨ ∃ d, f = .spacing d) :
    f ≠ .waiting ∧ f.isWaking = false := by
  obtain under | ⟨d, rfl⟩ := past
  · exact ⟨(by rintro rfl; cases under), waking_of_underway under⟩
  · exact ⟨nofun, rfl⟩

/-- Settles O7: in a PAUSED engine the catch-up passes the dues, or the due is moved or stands; with an
operation in flight the run takes the mark of the deferred catch-up, and WAITING ends with the due's
computation. -/
theorem clockStepSettlesTheDue : Obligations.ClockStepSettlesTheDue := by
  intro s p r q awake empty length range set run stored new interval after
  have steps {holds : Part → Prop} (at_ : holds (startReply ⟨0x02#8, p⟩ (.ok (oldClockData s.part))
      (settle (stepClock (fieldNat 0 4 p) s.part)))) : after holds :=
    ⟨_, exec_setClock awake empty length range, rfl, at_⟩
  clear_value after
  refine ⟨fun active still paused selected plan => ⟨fun due => steps ?_, fun ahead => steps ?_⟩,
    fun o op unasked here => ⟨fun active source open_ due => ⟨fun past => steps ?_, fun waiting => steps ?_⟩,
      fun ending past => steps ?_⟩⟩
  · obtain ⟨grows, withdrawn, later, once⟩ :=
      settle_stepClock_passes paused set still run active stored selected plan due
    exact ⟨grows, withdrawn, fun law x ran goesOn _ _ => later law x ran goesOn, once⟩
  · obtain ⟨mark, due, limit, wake, reached, stepped, moves, stands⟩ :=
      stepClock_ahead paused set run active stored still.1 selected plan ahead
    have engine : s.part.engine ≠ .armed := by simp [paused]
    rw [stepped, settle_notArmed]
    · exact ⟨rfl, rfl, _, rfl, rfl, rfl, rfl, moves, stands⟩
    · exact still
    · rfl
    · exact engine
  · obtain ⟨later, waking⟩ := pastWaiting past
    exact settle_stepClock_held set run active due op source open_ unasked here later waking
  · exact settle_stepClock_waiting set run active stored due op source open_ unasked here waiting
  · obtain ⟨later, waking⟩ := pastWaiting past
    exact settle_stepClock_ending set run ending op unasked here later waking

end Sys2Proof.Machine

/-! PROOFS. The trim boundary (R6): the ticks to it, what the trim adds or withholds, and the ticks counted
over a boundary. -/

namespace Sys2Proof.Machine

section

variable {s : Part}

theorem toBoundary_mod (t : TimeBase) :
    (t.elapsed + BitVec.ofNat 48 t.toBoundary).toNat % Config.trimSpacing = 0 := by
  rw [elapsed_add_mod]
  by_cases here : t.elapsed.toNat % Config.trimSpacing = 0 ∧ t.trimTaken = false
  · rw [show t.toBoundary = 0 from if_pos here]
    exact here.1
  · rw [show t.toBoundary = Config.trimSpacing - t.elapsed.toNat % Config.trimSpacing from if_neg here]
    simp only [Config.trimSpacing]
    omega

theorem toBoundary_zero {t : TimeBase} (at_ : t.toBoundary = 0) :
    t.elapsed.toNat % Config.trimSpacing = 0 ∧ t.trimTaken = false := by
  by_contra there
  have left : t.toBoundary = Config.trimSpacing - t.elapsed.toNat % Config.trimSpacing := if_neg there
  simp only [Config.trimSpacing] at left
  omega

/-- The part at its next trim boundary, before the trim is applied (R6). -/
def Part.atBoundary (s : Part) : Part :=
  { s with time := { s.time with
    instant := s.now + s.time.toBoundary
    elapsed := s.time.elapsed + BitVec.ofNat 48 s.time.toBoundary
    withheld := if s.time.toBoundary = 0 then s.time.withheld else 0
    trimTaken := s.time.trimTaken && s.time.toBoundary == 0 } }

theorem passTime_toBoundary (range : s.now + s.time.toBoundary < Config.calendarSpan) :
    passTime s.time.toBoundary s = s.atBoundary :=
  passTime_within (trimBeyond_atBoundary (toBoundary_mod s.time)) range

/-- A trim that adds its ticks at a boundary counts no trim again. -/
theorem addTrim_adds {n : Nat} (boundary : s.time.elapsed.toNat % Config.trimSpacing = 0)
    (taken : s.time.trimTaken = true) (small : n ≤ 1023) (range : s.now + n < Config.calendarSpan) :
    addTrim n s = { s with time := { s.time with
      instant := s.now + n, elapsed := s.time.elapsed + BitVec.ofNat 48 n
      withheld := if n = 0 then s.time.withheld else 0
      trimTaken := s.time.trimTaken && n == 0 } } := by
  rw [addTrim_within range, passTime_within ?_ range]
  unfold TimeBase.trimBeyond
  rw [elapsed_add_mod]
  simp only [Config.trimSpacing] at boundary ⊢
  refine if_neg fun again => ?_
  obtain ⟨some, within | ⟨-, untaken⟩⟩ := again
  · omega
  · simp [taken] at untaken

/-- What the trim leaves at its boundary (R6). -/
theorem applyTrim_time (boundary : s.time.elapsed.toNat % Config.trimSpacing = 0)
    (law : -1023 ≤ s.time.trim ∧ s.time.trim ≤ 1023)
    (range : s.now + s.time.trim.toNat < Config.calendarSpan) :
    ∃ time, applyTrim s = { s with time := time } ∧
      time.trim = s.time.trim ∧ time.clock = s.time.clock ∧
      time.instant = s.now + s.time.trim.toNat ∧
      time.elapsed = s.time.elapsed + BitVec.ofNat 48 s.time.trim.toNat ∧
      time.withheld = (-s.time.trim).toNat := by
  have small : s.time.trim.toNat ≤ 1023 := by omega
  by_cases adds : 0 ≤ s.time.trim
  · refine ⟨_, (if_pos adds).trans (addTrim_adds (by exact boundary) rfl small range), rfl, rfl, rfl,
      rfl, ?_⟩
    have none : (-s.time.trim).toNat = 0 := by omega
    change (if s.time.trim.toNat = 0 then (-s.time.trim).toNat else 0) = _
    rw [none, ite_self]
  · have zero : s.time.trim.toNat = 0 := by omega
    refine ⟨_, if_neg adds, rfl, rfl, ?_, ?_, rfl⟩
    · rw [zero]
      rfl
    · rw [zero]
      exact (BitVec.add_zero _).symm

end

/-- A trim boundary counts the ticks left to it and applies the trim. -/
theorem trimBoundary_applies {s : State} (alive : s.part.monitor.lost = false) (law : s.part.time.Lawful)
    (range : s.part.now + s.part.time.toBoundary + s.part.time.trim.toNat < Config.calendarSpan) :
    ∃ time, exec .trimBoundary s = .next (s.put (settleIfAwake { s.part with time := time })) ∧
      time.trim = s.part.time.trim ∧ time.clock = s.part.time.clock ∧
      time.instant = s.part.now + s.part.time.toBoundary + s.part.time.trim.toNat ∧
      time.elapsed = s.part.time.elapsed +
        BitVec.ofNat 48 (s.part.time.toBoundary + s.part.time.trim.toNat) ∧
      time.withheld = (-s.part.time.trim).toNat := by
  obtain ⟨time, applied, trim, clock, instant, elapsed, withheld⟩ :=
    applyTrim_time (s := s.part.atBoundary) (toBoundary_mod s.part.time) law.2.1 range
  refine ⟨time, ?_, trim, clock, instant, ?_, withheld⟩
  · have taken : takeTrimBoundary s.part =
        settleIfAwake (applyTrim (passTime s.part.time.toBoundary s.part)) := if_neg (by simp [alive])
    rw [passTime_toBoundary (by omega), applied] at taken
    exact congrArg (fun p => Host.Outcome.next (s.put p)) taken
  · rw [BitVec.ofNat_add, ← BitVec.add_assoc]
    exact elapsed

/-- Ticks that are counted over a boundary take its trim with them (R6). -/
theorem passTime_over {p : Part} {n a : Nat} (law : p.time.Lawful)
    (range : p.now + n + 1023 < Config.calendarSpan)
    (boundary : (p.time.elapsed + BitVec.ofNat 48 a).toNat % 33554432 = 0) (within : a < n)
    (near : n - a < 33554432) (taken : 0 < a ∨ p.time.trimTaken = false) :
    (passTime n p).now = p.now + max n (a + p.time.trim.toNat) ∧
    (passTime n p).time.elapsed =
      p.time.elapsed + BitVec.ofNat 48 (max n (a + p.time.trim.toNat)) ∧
    (passTime n p).time.withheld = 0 := by
  obtain ⟨-, ⟨-, high⟩, -⟩ := law
  have beyond := trimBeyond_of_boundary high within (by omega) boundary taken
  have whole : n + p.time.trimBeyond n = max n (a + p.time.trim.toNat) := by omega
  have moves : passTime n p = { p with time := { p.time with
      instant := p.time.instant + (n + p.time.trimBeyond n)
      elapsed := p.time.elapsed + BitVec.ofNat 48 (n + p.time.trimBeyond n)
      withheld := if n + p.time.trimBeyond n = 0 then p.time.withheld else 0
      trimTaken := p.time.trimTaken && n + p.time.trimBeyond n == 0 } } := by
    refine if_pos ?_
    have now : p.now = p.time.instant := rfl
    omega
  rw [moves, whole]
  exact ⟨rfl, rfl, if_neg (by omega)⟩

end Sys2Proof.Machine

/-! PROOFS. A trim that passes the end of the calendar (R5, R6): the due before the end is reached, and what
its frame starts is not reached again. -/

namespace Sys2Proof.Machine

/-! ### The deadlines of a frame that begins -/

/-- The phase of a frame that begins now, its deadline within 2^24 ticks. -/
def Part.Begins (s : Part) (f : Phase) : Prop :=
  f = .setting none ∨ ∃ k, k ≤ 2 ^ 24 ∧ (f = .focusing (s.after k) ∨ f = .exposing (s.after k))

/-- A SET that stands as it was, or that begins now. -/
def Part.Sends (s : Part) (c : CameraPort) : Prop :=
  c.tx = s.camera.tx ∧ c.txEnds = s.camera.txEnds ∨ c.txEnds = s.after setTicks

section

variable {s : Part} {o : Operation} {r : Run} {p : Plan}

theorem beginFrame_deadlines (op : s.op = some o) (prefocus : o.profile.prefocus ≤ 2 ^ 24)
    (hold : (o.frame.map (·.hold)).getD o.profile.shutterPulse ≤ 2 ^ 24) :
    ∃ q, (beginFrame s).op = some q ∧ s.Begins q.phase ∧ s.Sends (beginFrame s).camera := by
  unfold beginFrame
  rw [op]
  dsimp only
  split
  · exact ⟨_, rfl, .inl rfl, .inr rfl⟩
  · unfold enterFocusing
    split
    · exact ⟨_, rfl, .inr ⟨_, hold, .inr rfl⟩, .inl ⟨rfl, rfl⟩⟩
    · exact ⟨_, rfl, .inr ⟨_, prefocus, .inl rfl⟩, .inl ⟨rfl, rfl⟩⟩

theorem duration_le {n : Int} (h : n ≤ 64) : duration n ≤ 2 ^ 24 :=
  (duration_monotone h).trans (by decide)

theorem effective_le {prof : Profile} (law : prof.Lawful) : prof.effective.sMax ≤ 64 := by
  obtain ⟨⟨-, -, -, high⟩, -⟩ := law
  unfold Profile.effective
  split <;> exact high

theorem frameSetting_hold {prof : Profile} (law : prof.Lawful) (budget base offset : Int) :
    (frameSetting prof (fitOf budget prof.effective) base offset).hold ≤ 2 ^ 24 := by
  obtain ⟨-, -, -, -, -, -, -, high, cap, -, -, -, -, -, -, -, -, hold, -⟩ :=
    frameSettingsKeepTheExposureLaw prof budget base offset law
  rw [hold]
  split
  · exact duration_le (high.trans (cap.trans (effective_le law)))
  · obtain ⟨-, -, -, -, -, -, -, -, ⟨-, pulse⟩, -⟩ := law
    exact pulse.trans (by decide)

theorem endWaiting_deadlines (op : s.op = some o) (phase : o.phase = .waiting) (run : s.run = some r)
    (plan : s.planAt r.plan = some p) (law : o.profile.Lawful) :
    ∃ q, (endWaiting s).op = some q ∧ s.Begins q.phase ∧ s.Sends (endWaiting s).camera := by
  have ends : endWaiting s = beginFrame (computeDue o r p s) := by
    simp only [endWaiting, op, run, phase, plan]
  rw [ends]
  refine beginFrame_deadlines (s := computeDue o r p s) rfl ?_ ?_
  · obtain ⟨-, -, -, -, -, -, -, prefocus, -⟩ := law
    exact prefocus.trans (by decide)
  · cases frame : Operation.frame _ with
    | none =>
      obtain ⟨-, -, -, -, -, -, -, -, ⟨-, pulse⟩, -⟩ := law
      exact pulse.trans (by decide)
    | some f =>
      obtain ⟨offset, -, rfl⟩ := List.mem_map.1 (List.mem_of_getElem? frame)
      exact frameSetting_hold law _ _ _

end

/-! ### What is reached in the part as it stood -/

/-- A deadline that is set now lies ahead of every moment before now. -/
theorem ago_reached_after {s : Part} {m k : Nat} (past : 0 < m) (near : m + k ≤ 2 ^ 47) :
    (s.ago m).reached (s.after k) = false := by
  rw [Part.reached, decide_eq_false_iff_not]
  change ¬ (s.time.elapsed - BitVec.ofNat 48 m - (s.time.elapsed + BitVec.ofNat 48 k)).toNat < 2 ^ 47
  have behind : s.time.elapsed - BitVec.ofNat 48 m - (s.time.elapsed + BitVec.ofNat 48 k) =
      -BitVec.ofNat 48 (m + k) := by
    rw [BitVec.ofNat_add]
    ring
  rw [behind, BitVec.toNat_neg, BitVec.toNat_ofNat, Nat.mod_eq_of_lt (a := m + k) (by omega)]
  omega

theorem ownEvents_awake {s : Part} (awake : s.awake = true) : s.ownEvents =
    s.supplyEvents ++ s.replyEvents ++ s.operationEvents ++ s.blockEvents ++ s.sequenceEvents :=
  if_pos awake

/-- Only the moment of the due is the due's event. -/
theorem otherEvents_notDue (s : Part) :
    ∀ e ∈ s.supplyEvents ++ s.replyEvents ++ s.operationEvents ++ s.blockEvents, e.event ≠ .dueReached := by
  simp [Part.supplyEvents, Part.replyEvents, Part.operationEvents, Part.blockEvents, Part.byElapsed]

/-- The timers of a frame that has just begun are not reached before now. -/
theorem operationEvents_begun {s t : Part} {q : Operation} {m : Nat} (op : t.op = some q)
    (begins : s.Begins q.phase) (sends : s.Sends t.camera) (time : t.time = s.time) (past : 0 < m)
    (small : m ≤ 2 ^ 24) (old : ∀ d ∈ s.setSentAt, (s.ago m).reached d = false) :
    ∀ e ∈ (t.ago m).operationEvents, e.reached = false := by
  have ahead (k : Nat) (near : k ≤ 2 ^ 24) : (t.ago m).reached (s.after k) = false := by
    have same : s.after k = t.after k := by rw [Part.after, Part.after, time]
    rw [same]
    exact ago_reached_after past (by omega)
  have sent : (t.ago m).setSentAt.any (t.ago m).reached = false := by
    change t.setSentAt.any (t.ago m).reached = false
    cases set : t.setSentAt with
    | none => rfl
    | some d =>
      obtain ⟨x, tx, rfl⟩ := Option.map_eq_some_iff.1 set
      change (t.ago m).reached t.camera.txEnds = false
      obtain ⟨same, ends⟩ | ends := sends
      · have before := old s.camera.txEnds (by simp [Part.setSentAt, ← same, tx])
        rw [ends]
        simpa [Part.reached, Part.ago, time] using before
      · rw [ends]
        exact ahead setTicks (by decide)
  have held : (t.ago m).op = _ := op
  obtain f | ⟨k, near, f | f⟩ := begins
  · simp [Part.operationEvents, Part.byElapsed, Part.wakeEnds, Part.readyEnds, Part.settingEnds,
      Part.focusEnds, Part.holdEnds, Part.activityEnds, Part.writeEnds, Part.reportEnds, Part.rehearsalEnds,
      Part.spacingEnds, Part.writeWait, held, f, sent]
  · simp [Part.operationEvents, Part.byElapsed, Part.wakeEnds, Part.readyEnds, Part.settingEnds,
      Part.focusEnds, Part.holdEnds, Part.activityEnds, Part.writeEnds, Part.reportEnds, Part.rehearsalEnds,
      Part.spacingEnds, Part.writeWait, held, f, sent, ahead k near]
  · simp [Part.operationEvents, Part.byElapsed, Part.wakeEnds, Part.readyEnds, Part.settingEnds,
      Part.focusEnds, Part.holdEnds, Part.activityEnds, Part.writeEnds, Part.reportEnds, Part.rehearsalEnds,
      Part.spacingEnds, Part.writeWait, held, f, sent, ahead k near]

section

variable {s : Part} {q : Operation} {n : Run} {camera : CameraPort} {m : Nat}

/-- With its due held and taken, the sequence waits for no more than it did before. -/
theorem sequenceEvents_held (source : q.source = .schedule) (open_ : q.settled = false)
    (wake : n.wakeReached = true) (due : n.dueReached = true) (here : s.lending.port ≠ .lent) :
    ∀ e ∈ (Part.ago m { s with op := some q, run := some n, camera := camera }).sequenceEvents,
      e.reached = true → e ∈ (s.ago m).sequenceEvents ∧ e.event ≠ .dueReached := by
  intro e listed reached
  have noWake : (Part.ago m { s with op := some q, run := some n, camera := camera }).wakeMoment = none := by
    simp [Part.wakeMoment, Part.ago, wake]
  have noReclaim : (Part.ago m { s with op := some q, run := some n, camera := camera }).reclaimDue = none := by
    simp [Part.reclaimDue, Part.ago, here]
  have noDue : (Part.ago m { s with op := some q, run := some n, camera := camera }).dueMoment = none := by
    simp [Part.dueMoment, Part.ago, due]
  have noLate : (Part.ago m { s with op := some q, run := some n, camera := camera }).lateMoment = none := by
    simp [Part.lateMoment, Part.ago, Part.dueGranted, source, open_]
  simp only [Part.sequenceEvents, noWake, noReclaim, noDue, noLate, List.mem_cons, List.not_mem_nil,
    or_false] at listed
  rcases listed with rfl | rfl | rfl | rfl | rfl | rfl | rfl | rfl | rfl
  · exact ⟨.head _, nofun⟩
  · exact ⟨.tail _ (.head _), nofun⟩
  · exact ⟨.tail _ (.tail _ (.head _)), nofun⟩
  · cases reached
  · cases reached
  · cases reached
  · cases reached
  · exact ⟨.tail _ (.tail _ (.tail _ (.tail _ (.tail _ (.tail _ (.tail _ (.head _))))))), nofun⟩
  · exact ⟨.tail _ (.tail _ (.tail _ (.tail _ (.tail _ (.tail _ (.tail _ (.tail _ (.head _)))))))), nofun⟩

/-- Where the due alone was reached, nothing is reached once its frame has begun. -/
theorem ownEvents_quiet (awake : s.awake = true)
    (quiet : ∀ e ∈ (s.ago m).ownEvents, e.reached = true → e.event = .dueReached)
    (begins : s.Begins q.phase) (sends : s.Sends camera) (source : q.source = .schedule)
    (open_ : q.settled = false) (wake : n.wakeReached = true) (due : n.dueReached = true)
    (here : s.lending.port ≠ .lent) (past : 0 < m) (small : m ≤ 2 ^ 24) :
    (Part.ago m { s with op := some q, run := some n, camera := camera }).ownEvents.find? (·.reached) =
      none := by
  have awake' : (s.ago m).awake = true := awake
  rw [ownEvents_awake awake'] at quiet
  rw [ownEvents_awake (by exact awake), List.find?_eq_none]
  intro e listed reached
  obtain others | sequence := List.mem_append.1 listed
  · have not := otherEvents_notDue _ e others
    obtain ((supply | reply) | operation) | block :=
      (List.mem_append.1 others).imp_left fun h => (List.mem_append.1 h).imp_left fun h => List.mem_append.1 h
    · exact not (quiet e (by simp only [List.mem_append]; exact .inl (.inl (.inl (.inl supply)))) reached)
    · exact not (quiet e (by simp only [List.mem_append]; exact .inl (.inl (.inl (.inr reply)))) reached)
    · have old : ∀ d ∈ s.setSentAt, (s.ago m).reached d = false := by
        intro d set
        by_contra out
        have listed : (s.ago m).byElapsed (s.ago m).setSentAt .setSent execSetSent ∈
            (s.ago m).operationEvents := .head _
        have held : (s.ago m).setSentAt = some d := set
        have passed : ((s.ago m).byElapsed (s.ago m).setSentAt .setSent execSetSent).reached = true := by
          rw [held]
          exact Bool.eq_true_of_not_eq_false out
        have is := quiet _ (by simp only [List.mem_append]; exact .inl (.inl (.inr listed))) passed
        cases is
      have unreached := operationEvents_begun (s := s)
        (t := { s with op := some q, run := some n, camera := camera }) rfl begins sends rfl
        past small old e operation
      rw [unreached] at reached
      cases reached
    · exact not (quiet e (by simp only [List.mem_append]; exact .inl (.inr block)) reached)
  · obtain ⟨before, not⟩ := sequenceEvents_held source open_ wake due here e sequence reached
    exact not (quiet e (List.mem_append_right _ before) reached)

end

end Sys2Proof.Machine

/-! PROOFS. A trim boundary whose addition passes the end of the calendar (R5, R6). -/

namespace Sys2Proof.Machine

section

variable {s : Part} {o : Operation} {r : Run} {p : Plan} {m : Nat}

/-- A due whose wake time has been taken ends WAITING alone. -/
theorem takeDue_ends (run : s.run = some r) (wake : r.wakeReached = true) (past : r.nextDue ≤ s.now)
    (unclaimed : s.lending.port ≠ .reclaiming) :
    takeDue s = endWaiting { s with run := some { r with dueReached := true } } := by
  have noted : noteNextDue { s with run := some { r with dueReached := true } } =
      { s with run := some { r with dueReached := true } } := by
    unfold noteNextDue
    dsimp only
    split
    · have taken : ¬ s.now < s.wakeTime r := by unfold Part.wakeTime; omega
      rw [wake]
      exact if_neg taken
    · rfl
  simp only [takeDue, run]
  rw [noted, if_neg fun h => unclaimed h.1]

/-- The due is taken where it alone has been reached, and nothing after it (R6). -/
theorem takeReached_due (awake : s.awake = true) (op : s.op = some o) (source : o.source = .schedule)
    (phase : o.phase = .waiting) (open_ : o.settled = false) (unasked : o.askReading = false)
    (here : s.lending.port.hostSide = false) (run : s.run = some r) (plan : s.planAt r.plan = some p)
    (wake : r.wakeReached = true) (untaken : r.dueReached = false) (past : r.nextDue ≤ s.now)
    (range : s.now < Config.calendarSpan) (law : o.profile.Lawful) (some_ : 0 < m) (small : m ≤ 2 ^ 24)
    (quiet : ∀ e ∈ (s.ago m).ownEvents, e.reached = true → e.event = .dueReached) :
    ∃ (q : Operation) (c : Computation) (n : Run) (camera : CameraPort),
      takeReached m additionFuel s = { s with op := some q, run := some n, camera := camera } ∧
      q.comp = some c ∧ q.fixed = o.fixed ∧ q.phase.isUnderway = true ∧ DueComputation o r p s q c n ∧
      n = { r with eBase := n.eBase, aPrev := n.aPrev, dueReached := true } := by
  have unclaimed : s.lending.port ≠ .reclaiming ∧ s.lending.port ≠ .lent := by
    constructor <;> intro held <;> rw [held] at here <;> cases here
  obtain ⟨q, c, n, camera, ends, comp, fixed, underway, computed, kept⟩ := endWaiting_computes
    (s := { s with run := some { r with dueReached := true } }) op phase rfl plan
  obtain ⟨q', begun, begins, sends⟩ := endWaiting_deadlines
    (s := { s with run := some { r with dueReached := true } }) op phase rfl plan law
  rw [ends] at begun sends
  cases begun
  have source' : q.source = .schedule := (congrArg Operation.source fixed :).trans source
  have held : q.settled = false := (congrArg Operation.settled fixed :).trans open_
  have stands : s.dueMoment = some r.nextDue := by simp [Part.dueMoment, run, untaken]
  have taken : exec .dueReached ⟨s, []⟩ = .next ⟨settle (takeDue s), []⟩ :=
    exec_arrival (s := ⟨s, []⟩) (moment := Part.dueMoment) (f := takeDue) rfl awake stands past range
  rw [takeDue_ends run wake past unclaimed.1, ends, settle_held (o := q) rfl source' held
    ((congrArg Operation.askReading fixed :).trans unasked) (waking_of_underway underway) (by exact here)]
    at taken
  obtain ⟨e, found⟩ : ∃ e, (s.ago m).ownEvents.find? (·.reached) = some e := by
    refine Option.isSome_iff_exists.1 (List.find?_isSome.2
      ⟨(s.ago m).byInstant (s.ago m).dueMoment .dueReached execDueReached, ?_, ?_⟩)
    · rw [ownEvents_awake (by exact awake)]
      refine List.mem_append_right _ ?_
      exact .tail _ (.tail _ (.tail _ (.tail _ (.tail _ (.head _)))))
    · have same : (s.ago m).dueMoment = some r.nextDue := stands
      rw [same]
      have before : r.nextDue ≤ (s.ago m).now := past
      simp [Part.byInstant, before, past.trans_lt range]
  have listed := List.mem_of_find?_eq_some found
  have event := quiet e listed (List.find?_some found :)
  have after : takenBy e.take s = { s with op := some q, run := some n, camera := camera } := by
    rw [take_eq_exec listed, event, takenBy, taken]
  refine ⟨q, c, n, camera, ?_, comp, fixed, underway, computed, kept⟩
  have rest := ownEvents_quiet (s := s) (q := q) (n := n) (camera := camera) awake quiet begins sends source'
    held ((congrArg Run.wakeReached kept :).trans wake) (congrArg Run.dueReached kept :) unclaimed.2
    some_ small
  change takeReached m (62 + 1 + 1) s = _
  rw [takeReached, found]
  dsimp only
  rw [after, takeReached, rest]

theorem awaitingDue_underway {q : Operation} (op : s.op = some q) (underway : q.phase.isUnderway = true) :
    s.awaitingDue = false := by
  unfold Part.awaitingDue
  rw [op]
  cases f : q.phase <;> simp [f, Phase.isUnderway] at underway ⊢

/-- Past the end of the range a frame that has begun goes on, and its run is ENDING (R5). -/
theorem calendarEnds_underway {q : Operation} {n : Run} (op : s.op = some q)
    (underway : q.phase.isUnderway = true) (run : s.run = some n) :
    (calendarEnds s).op = some q ∧ (calendarEnds s).journal = s.journal ∧
    (calendarEnds s).lending = s.lending ∧
    (calendarEnds s).run = some { n with wakeReached := false, state := .ending } := by
  obtain ⟨-, -, -, runPast, opPast, -, lendingPast, journalPast, -⟩ := pastEnd_fields s
  obtain ⟨ran, ops, -, -, -, lending, journal⟩ := setEngine_disarmed_fields s.pastEnd
  have here : (setEngine .disarmed s.pastEnd).op = some q := ops.trans (opPast.trans op)
  have ends : disarm s.pastEnd =
      (setEngine .disarmed s.pastEnd).inEnding { n with wakeReached := false } :=
    endRun_inFlight (by rw [here]; rfl) (by rw [ran, runPast, run]; rfl)
  have goes : calendarEnds s = disarm s.pastEnd := by
    rw [calendarEnds_eq, ends]
    exact if_neg (Bool.eq_false_iff.1 (awaitingDue_underway here underway))
  rw [goes, ends]
  exact ⟨here, journal.trans journalPast, lending.trans lendingPast, rfl⟩

theorem atBoundary_here (at_ : s.time.toBoundary = 0) : s.atBoundary = s := by
  obtain ⟨-, untaken⟩ := toBoundary_zero at_
  have same : s.atBoundary.time = s.time := by
    simp [Part.atBoundary, at_, untaken, Part.now]
    rw [← untaken]
  have whole : s.atBoundary = { s with time := s.atBoundary.time } := rfl
  rw [whole, same]

/-- The part that the events before the end of the range see (R6, assumption 25). -/
def Part.lastInstant (s : Part) : Part :=
  { s with time := { s.time with
    instant := Config.calendarSpan - 1, withheld := 0, trimTaken := false
    elapsed := s.time.elapsed + BitVec.ofNat 48 s.time.trim.toNat } }

/-- A trim boundary whose addition passes the end of the range. -/
theorem takeTrimBoundary_past (alive : s.monitor.lost = false) (law : s.time.Lawful)
    (at_ : s.time.toBoundary = 0) (beyond : Config.calendarSpan ≤ s.now + s.time.trim.toNat) :
    ∃ t : Part, t = takeReached (s.now + s.time.trim.toNat - Config.calendarSpan + 1) additionFuel
        s.lastInstant ∧
      takeTrimBoundary s = settleIfAwake (calendarEnds { t with time := { t.time with
        instant := s.now + s.time.trim.toNat - Config.calendarSpan } }) := by
  refine ⟨_, rfl, ?_⟩
  obtain ⟨range, -, -⟩ := law
  have now : s.now = s.time.instant := rfl
  have adds : 0 ≤ s.time.trim := by omega
  have none : (-s.time.trim).toNat = 0 := by omega
  have taken : takeTrimBoundary s = settleIfAwake (applyTrim (passTime s.time.toBoundary s)) :=
    if_neg (by simp [alive])
  have applied : applyTrim s = addTrim s.time.trim.toNat { s with time :=
      { s.time with trimTaken := true, withheld := (-s.time.trim).toNat } } := if_pos adds
  rw [taken, passTime_toBoundary (by omega), atBoundary_here at_, applied, none]
  exact congrArg settleIfAwake (if_neg (Nat.not_lt.2 beyond))

end

/-- Settles O4: the ticks to the boundary and its trim are counted, and an addition past the end reaches the
due before it. -/
theorem trimBoundaryAppliesTheTrim : Obligations.TrimBoundaryAppliesTheTrim := by
  refine ⟨fun t => rfl, fun s alive law range => ⟨?_, rfl⟩,
    fun p n a law range boundary within near taken => passTime_over law range boundary within near taken,
    fun s alive law at_ beyond => ?_⟩
  · obtain ⟨time, applied, trim, clock, instant, elapsed, withheld⟩ := trimBoundary_applies alive law range
    have kept := settleIfAwake_kept (b := false) { s.part with time := time }
    have same : (settleIfAwake { s.part with time := time }).time = time := kept.time
    refine ⟨_, applied, rfl, ?_, ?_, ?_, fun adds => ⟨?_, ?_, ?_⟩, fun withholds => ⟨?_, ?_, ?_⟩⟩
    · change Kept false { s.part with time := (settleIfAwake { s.part with time := time }).time } _
      rw [same]
      exact kept
    · exact (congrArg TimeBase.trim same).trans trim
    · exact (congrArg TimeBase.clock same).trans clock
    · exact (congrArg TimeBase.instant same).trans instant
    · exact (congrArg TimeBase.elapsed same).trans elapsed
    · exact (congrArg TimeBase.withheld same).trans (withheld.trans (by omega))
    · have zero : s.part.time.trim.toNat = 0 := by omega
      rw [zero] at instant
      exact (congrArg TimeBase.instant same).trans instant
    · have zero : s.part.time.trim.toNat = 0 := by omega
      rw [zero] at elapsed
      exact (congrArg TimeBase.elapsed same).trans elapsed
    · exact (congrArg TimeBase.withheld same).trans (withheld.trans (by omega))
  · intro past last
    have short : past ≤ 1023 := by
      obtain ⟨range, ⟨-, high⟩, -⟩ := law
      have now : s.part.now = s.part.time.instant := rfl
      omega
    obtain ⟨u, reached, taken⟩ : ∃ t : Part, t = takeReached (past + 1) additionFuel s.part.lastInstant ∧
        takeTrimBoundary s.part =
          settleIfAwake (calendarEnds { t with time := { t.time with instant := past } }) :=
      takeTrimBoundary_past alive law at_ beyond
    clear_value past
    have whole := (calendarEnds_kept { u with time := { u.time with instant := past } }).trans
      (settleIfAwake_kept _)
    obtain ⟨timePast, -⟩ := pastEnd_fields { u with time := { u.time with instant := past } }
    have clock := whole.time.trans timePast
    have step : exec .trimBoundary s = .next (s.put (settleIfAwake
        (calendarEnds { u with time := { u.time with instant := past } }))) := by
      rw [← taken]
      rfl
    refine ⟨_, step, rfl, congrArg TimeBase.instant clock, congrArg TimeBase.clock clock, whole.engine, ?_⟩
    intro o r q awake op source phase open_ unasked here run active stored wake untaken due profile quiet
    obtain ⟨x, c, n, camera, same, comp, fixed, underway, computed, kept⟩ := takeReached_due (s := last)
      (m := past + 1) awake op source phase open_ unasked here run stored wake untaken
      (Nat.le_sub_one_of_lt due) (Nat.sub_one_lt (by decide)) profile (Nat.succ_pos _)
      ((Nat.succ_le_succ short).trans (by decide)) quiet
    have stands : u = { last with op := some x, run := some n, camera := camera } := reached.trans same
    obtain ⟨held, journal, lending, ran⟩ := calendarEnds_underway
      (s := { u with time := { u.time with instant := past } }) (by rw [stands]) underway (by rw [stands])
    have quietly : settleIfAwake (calendarEnds { u with time := { u.time with instant := past } }) =
        calendarEnds { u with time := { u.time with instant := past } } := by
      unfold settleIfAwake
      split
      · refine settle_held held ((congrArg Operation.source fixed :).trans source)
          ((congrArg Operation.settled fixed :).trans open_)
          ((congrArg Operation.askReading fixed :).trans unasked) (waking_of_underway underway) ?_
        rw [lending, stands]
        exact here
      · rfl
    show (settleIfAwake _).journal = _ ∧ _
    rw [quietly]
    refine ⟨?_, x, c, { n with wakeReached := false, state := .ending }, held, comp, underway,
      computed, ran, rfl, (congrArg Run.nextDue kept :), (congrArg Run.k kept :)⟩
    rw [journal, stands]

end Sys2Proof.Machine

/-! PROOFS. The host link (R173 to R176): what goes out on it, and the receive buffer of two places. -/

namespace Sys2Proof.Machine

/-! ### What goes out -/

theorem frameBytes_eq (code : Byte) (payload : List Byte) :
    frameBytes code payload = 0xC3#8 :: ((byte payload.length :: code :: payload) ++
      [(crc16 (byte payload.length :: code :: payload)).extractLsb' 8 8,
        (crc16 (byte payload.length :: code :: payload)).extractLsb' 0 8]) := by
  rw [frameBytes, putNat_word]
  rfl

theorem frameBytes_length (code : Byte) (payload : List Byte) :
    (frameBytes code payload).length = payload.length + 5 := by
  rw [frameBytes_eq]
  simp

theorem crc16_append (bytes : List Byte) (b : Byte) : crc16 (bytes ++ [b]) =
    (List.range 8).foldl (fun (c : BitVec 16) _ => if c.msb then (c <<< 1) ^^^ 0x1021#16 else c <<< 1)
      (crc16 bytes ^^^ (b.setWidth 16 <<< 8)) := by
  rw [crc16, List.foldl_append]
  rfl

theorem startReply_eq (f : HostFrame) (r : Reply) (p : Part) :
    let sent : SentReply := ⟨f.code ||| 0x80#8, r⟩
    startReply f r p = { p with link :=
      { p.link with
        handled := some f, reply := some sent
        replyEnds := p.after ((sent.wire.length * 10 * 32768 + 57599) / 57600) } } := by
  intro sent
  have bytes : sent.wire.length = r.payload.length + 5 := frameBytes_length _ _
  rw [bytes]
  rfl

/-! ### Which request a command is -/

theorem handleFrame_unknown {code : Byte} (unknown : unknownCode code = true) (p : List Byte) (s : Part) :
    handleFrame ⟨code, p⟩ s = only .unknownType s := by
  have none : ∀ n ∈ requestCodes, code.toNat ≠ n := by
    intro n listed same
    simp [unknownCode, same, listed] at unknown
  unfold handleFrame
  dsimp only
  split
  all_goals first
    | rfl
    | next same => exact absurd same (none _ (by decide))

/-- A request command is the frame of its TYPE and payload, and its handling is that of the frame. -/
theorem exec_request_handles {c : Instr} {f : HostFrame} (is : requestFrame c = some f) :
    ∃ g : Part → Handled, (∀ s, exec c s = advance (request f.code f.payload g) s) ∧
      (c.wellFormed = true → ∀ p, g p = handleFrame f p) := by
  cases c
  case unknownType code p =>
    cases is
    refine ⟨only .unknownType, fun _ => rfl, fun formed q => ?_⟩
    rw [Instr.wellFormed, Bool.and_eq_true] at formed
    exact (handleFrame_unknown formed.1 p q).symm
  all_goals first
    | cases is; done
    | cases is
      exact ⟨_, fun _ => rfl, fun _ _ => rfl⟩

/-! ### The receive buffer (R174) -/

section

variable {s : Part} {f : HostFrame} {now : Part → Part}

theorem queueFrame_empty (empty : s.link.handled = none) : queueFrame f now s = now s :=
  if_pos (by rw [empty]; rfl)

theorem queueFrame_waits (busy : s.link.handled.isSome = true) (free : s.link.waiting = none) :
    queueFrame f now s = { s with link := { s.link with waiting := some f } } := by
  unfold queueFrame
  rw [if_neg (by simpa using Option.isSome_iff_ne_none.1 busy), if_pos (by rw [free]; rfl)]

theorem queueFrame_discards (busy : s.link.handled.isSome = true) (full : s.link.waiting.isSome = true) :
    queueFrame f now s = s := by
  unfold queueFrame
  rw [if_neg (by simpa using Option.isSome_iff_ne_none.1 busy), if_neg (by simpa using Option.isSome_iff_ne_none.1 full)]

end

/-- Settles O55: a reply is its frame's bytes, a request command queues its frame, and the end of a reply
serves the frame that waits. -/
theorem repliesLeaveInTurn : Obligations.RepliesLeaveInTurn := by
  refine ⟨fun q => ⟨q.reply.payload, ?_, frameBytes_eq _ _⟩, by decide, rfl, crc16_append,
    fun f r p => startReply_eq f r p, fun _ => rfl, fun s awake => ⟨fun c f is => ?_, fun code p empty => ?_,
      fun d ends out quiet => ?_⟩⟩
  · cases q.reply <;> rfl
  · obtain ⟨g, acts, handles⟩ := exec_request_handles is
    have step : exec c s =
        .next (s.put (queueFrame ⟨f.code, f.payload⟩ (serve f.code f.payload g) s.part)) := by
      have taken : request f.code f.payload g s.part = queueFrame _ _ s.part := if_pos awake
      rw [acts, advance, taken]
      rfl
    refine ⟨fun empty formed => ?_, fun busy free => ?_, fun busy full => ?_⟩
    · rw [step, queueFrame_empty empty, serve, handles formed]
    · rw [step, queueFrame_waits busy free]
    · rw [step, queueFrame_discards busy full]
      rfl
  · exact ⟨exec_answered (f := only .unknownType) rfl awake empty rfl, rfl⟩
  · intro freed
    have leaves : replyLeaves s.part = replyDone s.part := by
      unfold replyLeaves
      rw [if_pos awake, ends]
      exact congrArg replyDone (if_pos out)
    have step : exec .replySent s = .next (s.put (replyDone s.part)) :=
      congrArg (fun p => Host.Outcome.next (s.put p)) leaves
    have done : replyDone s.part = match s.part.link.waiting with
        | some f => handleNow f freed
        | none => freed := if_neg (by simp [quiet])
    refine ⟨fun none => ?_, fun f waits => ?_⟩
    · rw [step, done, none]
    · rw [step, done, waits]
      rfl

end Sys2Proof.Machine

/-! PROOFS. The receivers of the two links (R107, R173): a frame that is built byte by byte, completed or
discarded, and the gap that drops it. -/

namespace Sys2Proof.Machine

/-! ### A frame, byte by byte -/

/-- The bytes of a frame with the CRC bytes `high` and `low`. -/
def wireBytes (len code : Byte) (p : List Byte) (high low : Byte) : List Byte :=
  syncByte :: len :: code :: (p ++ [high, low])

section

variable {len code high low : Byte} {p : List Byte}

theorem wireBytes_length : (wireBytes len code p high low).length = p.length + 5 := by
  simp [wireBytes]

/-- A byte within a frame only stands in the receiver. -/
theorem receiveByte_grows {rx rest : List Byte} {b : Byte} (size : len.toNat = p.length)
    (fits : p.length ≤ 250) (is : rx ++ b :: rest = wireBytes len code p high low) (more : rest ≠ []) :
    receiveByte rx b = ⟨rx ++ [b], none⟩ := by
  have long : (rx ++ b :: rest).length = p.length + 5 := by rw [is, wireBytes_length]
  have left : 0 < rest.length := List.length_pos_iff.2 more
  rw [List.length_append, List.length_cons] at long
  match rx, is, long with
  | [], is, _ =>
    have sync : b = syncByte := (List.cons.inj is).1
    rw [receiveByte, if_pos sync]
    rfl
  | [_], is, _ =>
    have here : b = len := (List.cons.inj (List.cons.inj is).2).1
    rw [receiveByte, if_neg (by rw [here, size, longestPayload]; omega)]
  | _ :: n :: _, is, long =>
    have here : n = len := (List.cons.inj (List.cons.inj is).2).1
    unfold receiveByte
    dsimp only
    refine if_pos ?_
    rw [here, size, List.length_append]
    simp only [List.length_cons, List.length_nil] at long ⊢
    omega

/-- The second CRC byte completes the frame, or discards it. -/
theorem receiveByte_ends {rx : List Byte} {b : Byte} (size : len.toNat = p.length)
    (is : rx ++ [b] = wireBytes len code p high low) : receiveByte rx b =
      if beNat [high, low] = (crc16 (len :: code :: p)).toNat then ⟨[], some ⟨code, p⟩⟩ else ⟨[], none⟩ := by
  have long : (rx ++ [b]).length = p.length + 5 := by rw [is, wireBytes_length]
  have body : slice 1 (p.length + 2) (wireBytes len code p high low) = len :: code :: p := by
    simp [slice, wireBytes]
  have crc : fieldNat (p.length + 3) 2 (wireBytes len code p high low) = beNat [high, low] := by
    simp [fieldNat, slice, wireBytes]
  match rx, is, long with
  | [], _, long => simp at long
  | [_], _, long => simp at long
  | x :: n :: rest, is, long =>
    have here : n = len := (List.cons.inj (List.cons.inj is).2).1
    subst here
    unfold receiveByte
    dsimp only
    rw [is, wireBytes_length, size, if_neg (Nat.lt_irrefl _), body, crc]
    rfl

end

/-! ### The host link -/

theorem receiveHost_append (as bs : List Byte) (s : Part) :
    receiveHost (as ++ bs) s = receiveHost bs (receiveHost as s) := by
  induction as generalizing s with
  | nil => rfl
  | cons a as ih => exact ih _

section

variable {len code high low : Byte} {p : List Byte}

/-- A part of a frame only stands in the receiver (R173). -/
theorem receiveHost_part (size : len.toNat = p.length) (fits : p.length ≤ 250) (bytes : List Byte)
    {rest : List Byte} (more : rest ≠ []) {s : Part}
    (is : s.link.rx ++ (bytes ++ rest) = wireBytes len code p high low) :
    receiveHost bytes s = { s with link := { s.link with rx := s.link.rx ++ bytes } } := by
  induction bytes generalizing s with
  | nil =>
    rw [List.append_nil]
    rfl
  | cons b bytes ih =>
    have grows := receiveByte_grows size fits is (by simp [more])
    rw [receiveHost, grows]
    dsimp only
    rw [ih (by rw [← is]; simp)]
    simp

/-- The rest of a frame completes it (R173, R174). -/
theorem receiveHost_whole (size : len.toNat = p.length) (fits : p.length ≤ 250) {bytes : List Byte}
    (some : bytes ≠ []) {s : Part} (is : s.link.rx ++ bytes = wireBytes len code p high low) :
    receiveHost bytes s =
      if beNat [high, low] = (crc16 (len :: code :: p)).toNat then
        placeFrame ⟨code, p⟩ { s with link := { s.link with rx := [] } }
      else { s with link := { s.link with rx := [] } } := by
  obtain ⟨init, b, rfl⟩ : ∃ init b, bytes = init ++ [b] :=
    ⟨bytes.dropLast, bytes.getLast some, (List.dropLast_append_getLast some).symm⟩
  rw [receiveHost_append, receiveHost_part size fits init (rest := [b]) (by simp) is]
  have ends := receiveByte_ends (rx := s.link.rx ++ init) (b := b) size (by rw [← is, List.append_assoc])
  by_cases crc : beNat [high, low] = (crc16 (len :: code :: p)).toNat
  · rw [if_pos crc] at ends ⊢
    simp only [receiveHost, ends]
  · rw [if_neg crc] at ends ⊢
    simp only [receiveHost, ends]

end

/-- The receiver with a byte just arrived, no gap having passed (R173). -/
theorem hearHost_within {s : Part} (within : s.reached (s.link.rxLast + 656#48) = false) :
    hearHost s = putHostRx s.link.rx s := by
  have none : s.hostGapEnds.any s.reached = false := by
    unfold Part.hostGapEnds
    split
    · rfl
    · exact within
  rw [hearHost, none]
  rfl

/-- A receiver that is idle, or in which a gap has passed, begins afresh (R173). -/
theorem hearHost_afresh {s : Part}
    (afresh : s.link.rx = [] ∨ s.reached (s.link.rxLast + 656#48) = true) :
    hearHost s = putHostRx [] s := by
  have idle : (if s.hostGapEnds.any s.reached then [] else s.link.rx) = [] := by
    by_cases none : s.link.rx = []
    · rw [none, ite_self]
    · refine if_pos ?_
      unfold Part.hostGapEnds
      rw [if_neg (by simpa using none)]
      exact afresh.resolve_left none
  rw [hearHost, idle]

theorem hostGap_afresh {s : Part}
    (afresh : s.link.rx = [] ∨ s.reached (s.link.rxLast + 656#48) = true) (b : Byte) :
    hostGap b s = putHostRx (afterGap b) s := by
  unfold hostGap Part.hostGapEnds
  by_cases none : s.link.rx = []
  · rw [if_pos (by rw [none]; rfl)]
  · rw [if_neg (by simpa using none)]
    exact congrArg (putHostRx (afterGap b)) (if_pos (afresh.resolve_left none))

theorem calendarEnds_link (s : Part) : (calendarEnds s).link = s.link := by
  have past : s.pastEnd.link = s.link := by
    rw [Part.pastEnd, raiseNotice_eq]
    rfl
  exact (calendarEnds_kept s).link.trans past

theorem reachElapsed_link (d : Elapsed) (s : Part) : (reachElapsed d s).link = s.link := by
  unfold reachElapsed
  split
  · rfl
  · unfold passTime
    dsimp only
    split
    · rfl
    · exact calendarEnds_link _

theorem afterGap_eq (b : Byte) : afterGap b = if b = 0xC3#8 then [b] else [] := by
  unfold afterGap receiveByte
  dsimp only
  by_cases sync : b = syncByte
  · rw [if_pos sync, if_pos (by exact sync)]
  · rw [if_neg sync, if_neg (by exact sync)]

/-! ### The camera line -/

theorem cameraGap_afresh {s : Part}
    (afresh : s.camera.rx = [] ∨ s.reached (s.camera.rxLast + 1639#48) = true) (b : Byte) :
    cameraGap b s = putCameraRx (afterGap b) s := by
  unfold cameraGap Part.cameraGapEnds
  by_cases none : s.camera.rx = []
  · rw [if_pos (by rw [none]; rfl)]
  · rw [if_neg (by simpa using none)]
    exact congrArg (putCameraRx (afterGap b)) (if_pos (afresh.resolve_left none))

theorem discardCamera_append (rx as bs : List Byte) :
    discardCamera rx (as ++ bs) = discardCamera (discardCamera rx as) bs := by
  induction as generalizing rx with
  | nil => rfl
  | cons a as ih => exact ih _

section

variable {len code high low : Byte} {p : List Byte}

theorem discardCamera_part (size : len.toNat = p.length) (fits : p.length ≤ 250) (bytes : List Byte)
    {rx rest : List Byte} (more : rest ≠ [])
    (is : rx ++ (bytes ++ rest) = wireBytes len code p high low) :
    discardCamera rx bytes = rx ++ bytes := by
  induction bytes generalizing rx with
  | nil => exact (List.append_nil rx).symm
  | cons b bytes ih =>
    rw [discardCamera, receiveByte_grows size fits is (by simp [more]), ih (by rw [← is]; simp)]
    simp

/-- A whole frame leaves the receiver idle, discarded or not (R107). -/
theorem discardCamera_whole (size : len.toNat = p.length) (fits : p.length ≤ 250) :
    discardCamera [] (wireBytes len code p high low) = [] := by
  obtain ⟨init, b, is⟩ : ∃ init b, wireBytes len code p high low = init ++ [b] :=
    ⟨_, _, (List.dropLast_append_getLast (by simp [wireBytes])).symm⟩
  rw [is, discardCamera_append,
    discardCamera_part size fits init (rest := [b]) (by simp) (rx := []) is.symm]
  rw [List.nil_append, discardCamera, receiveByte_ends size is.symm]
  by_cases crc : beNat [high, low] = (crc16 (len :: code :: p)).toNat
  · rw [if_pos crc]
    rfl
  · rw [if_neg crc]
    rfl

end

/-- Bytes that can be a whole frame on the camera line have its form (R107). -/
theorem discardedFrame_form {bytes : List Byte} (whole : discardedFrame bytes = true) :
    ∃ (len code high low : Byte) (p : List Byte), bytes = wireBytes len code p high low ∧
      len.toNat = p.length ∧ p.length ≤ 250 := by
  simp only [discardedFrame, Bool.and_eq_true, beq_iff_eq, decide_eq_true_eq] at whole
  obtain ⟨⟨⟨sync, short⟩, length⟩, -⟩ := whole
  match bytes, sync, short, length with
  | x :: len :: code :: rest, sync, short, length =>
    have size : fieldNat 1 1 (x :: len :: code :: rest) = len.toNat := beNat_singleton len
    rw [size] at short length
    simp only [List.length_cons] at length
    obtain ⟨high, low, pair⟩ : ∃ high low, rest.drop len.toNat = [high, low] :=
      List.length_eq_two.1 (by rw [List.length_drop]; omega)
    refine ⟨len, code, high, low, rest.take len.toNat, ?_, ?_, ?_⟩
    · rw [wireBytes, ← pair, List.take_append_drop]
      exact congrArg (· :: _) sync
    · rw [List.length_take]
      omega
    · rw [List.length_take]
      exact (Nat.min_le_left _ _).trans short

end Sys2Proof.Machine

/-! PROOFS. What the receivers do with whole frames and with those they discard (R107, R173, R174). -/

namespace Sys2Proof.Machine

section

variable {s : State}

theorem exec_hostFrame (awake : s.part.awake = true) {bytes : List Byte} (some : bytes ≠ []) :
    exec (.hostFrameComplete bytes) s = .next (s.put (receiveHost bytes (hearHost s.part))) := by
  have taken : (if s.part.awake then takeHostBytes bytes s.part else s.part) =
      receiveHost bytes (hearHost s.part) := by
    rw [if_pos awake]
    exact if_neg (by simpa using some)
  exact congrArg (fun p => Host.Outcome.next (s.put p)) taken

variable {code : Byte} {p : List Byte}

/-- The frame that R173 makes of a TYPE and a payload. -/
theorem frame_eq (code : Byte) (p : List Byte) :
    0xC3#8 :: ((byte p.length :: code :: p) ++ [(crc16 (byte p.length :: code :: p)).extractLsb' 8 8,
      (crc16 (byte p.length :: code :: p)).extractLsb' 0 8]) =
    wireBytes (byte p.length) code p ((crc16 (byte p.length :: code :: p)).extractLsb' 8 8)
      ((crc16 (byte p.length :: code :: p)).extractLsb' 0 8) := rfl

theorem byte_size (fits : p.length ≤ 250) : (byte p.length).toNat = p.length := by
  rw [byte_toNat, Nat.mod_eq_of_lt (by omega)]

theorem beNat_crc (w : BitVec 16) : beNat [w.extractLsb' 8 8, w.extractLsb' 0 8] = w.toNat := by
  rw [← putNat_word, beNat_putNat]
  exact Nat.mod_eq_of_lt w.isLt

/-- The bytes that make the frame whole place it in the buffer. -/
theorem exec_wholeFrame (awake : s.part.awake = true) (fits : p.length ≤ 250) {bytes : List Byte}
    (some : bytes ≠ []) (before : hearHost s.part = putHostRx s.part.link.rx s.part)
    (is : s.part.link.rx ++ bytes = 0xC3#8 :: ((byte p.length :: code :: p) ++
      [(crc16 (byte p.length :: code :: p)).extractLsb' 8 8,
        (crc16 (byte p.length :: code :: p)).extractLsb' 0 8])) :
    exec (.hostFrameComplete bytes) s = .next (s.put (placeFrame ⟨code, p⟩ (putHostRx [] s.part))) := by
  rw [exec_hostFrame awake some, before,
    receiveHost_whole (byte_size fits) fits some (s := putHostRx s.part.link.rx s.part) (is.trans (frame_eq code p)),
    if_pos (beNat_crc _)]
  rfl

/-- What placing a frame makes of the buffer (R174). -/
theorem placeFrame_cases (f : HostFrame) (t : Part) :
    (t.link.handled = none → placeFrame f t = startReply f (handleFrame f t).reply (handleFrame f t).part) ∧
    (t.link.handled.isSome = true → t.link.waiting = none →
      placeFrame f t = { t with link := { t.link with waiting := some f } }) ∧
    (t.link.handled.isSome = true → t.link.waiting.isSome = true → placeFrame f t = t) :=
  ⟨queueFrame_empty, queueFrame_waits, queueFrame_discards⟩

end

/-- Settles O56: the receiver builds a frame byte by byte and places it, and a gap, a LEN above 250 or a
wrong CRC leaves it idle. -/
theorem receiversTakeWholeFramesOnly : Obligations.ReceiversTakeWholeFramesOnly := by
  refine ⟨fun code p s awake fits => ?_, fun b s awake => ?_⟩
  · intro body frame heard taken
    have places (bytes : List Byte)
        (placed : exec (.hostFrameComplete bytes) s =
          .next (s.put (placeFrame ⟨code, p⟩ (putHostRx [] s.part)))) : taken bytes := by
      obtain ⟨empty, waits, full⟩ := placeFrame_cases ⟨code, p⟩ (putHostRx [] s.part)
      refine ⟨fun free => ?_, fun busy free => ?_, fun busy both => ?_⟩
      · rw [placed, empty free]
        rfl
      · rw [placed, waits busy free]
        rfl
      · rw [placed, full busy both]
        rfl
    have idle (none : s.part.link.rx = []) : hearHost s.part = putHostRx s.part.link.rx s.part := by
      rw [hearHost_afresh (.inl none), none]
    refine ⟨fun none => places _ ?_, fun n first last => ⟨fun none => ?_, fun part within => places _ ?_⟩,
      fun high low none wrong => ?_⟩
    · exact exec_wholeFrame awake fits (List.cons_ne_nil _ _) (idle none) (by rw [none]; rfl)
    · have some : frame.take n ≠ [] := fun none =>
        (List.take_eq_nil_iff.1 none).elim first.ne' (List.cons_ne_nil _ _)
      have more : frame.drop n ≠ [] := by simpa using last
      rw [exec_hostFrame awake some, hearHost_afresh (.inl none),
        receiveHost_part (byte_size fits) fits (frame.take n) more (s := putHostRx [] s.part)
          (by exact (List.take_append_drop n frame).trans (frame_eq code p))]
      rfl
    · have more : frame.drop n ≠ [] := by simpa using last
      exact exec_wholeFrame awake fits more (hearHost_within within)
        (by rw [part]; exact List.take_append_drop n frame)
    · have some : 0xC3#8 :: byte p.length :: code :: (p ++ [high, low]) ≠ [] := List.cons_ne_nil _ _
      rw [exec_hostFrame awake some, hearHost_afresh (.inl none),
        receiveHost_whole (code := code) (p := p) (high := high) (low := low) (byte_size fits) fits some
          (s := putHostRx [] s.part) rfl, if_neg wrong]
      rfl
  · intro host line begun hostGap_ lineGap
    have awakeIs (f : Part → Part) : (if s.part.awake then f s.part else s.part) = f s.part := if_pos awake
    have hostGaps : exec (.hostInterByteGap b) s = .next (s.put (hostGap b s.part)) :=
      congrArg (fun p => Host.Outcome.next (s.put p)) (awakeIs (hostGap b))
    have lineGaps : exec (.cameraLineGap b) s = .next (s.put (cameraGap b s.part)) :=
      congrArg (fun p => Host.Outcome.next (s.put p)) (awakeIs (cameraGap b))
    refine ⟨fun afresh => ?_, ⟨_, hostGaps, rfl, ?_⟩, fun bytes some gap => ?_, fun afresh => ?_,
      ⟨_, lineGaps, rfl, afterGap_eq b, rfl⟩, ?_, ?_, fun x y above => ?_, fun bytes whole afresh => ?_⟩
    · rw [hostGaps, hostGap_afresh afresh, afterGap_eq]
      rfl
    · have link : ∀ t : Part, t.link = s.part.link → (putHostRx (afterGap b) t).link =
          { s.part.link with rx := begun, rxLast := t.time.elapsed } := by
        intro t same
        rw [afterGap_eq, putHostRx, same]
      refine link _ ?_
      split
      · exact reachElapsed_link _ _
      · rfl
    · rw [exec_hostFrame awake some, exec_hostFrame (s := s.put _) (by exact awake) some,
        hearHost_afresh (.inr gap), hearHost_afresh (s := (s.put _).part) (.inl rfl)]
      rfl
    · rw [lineGaps, cameraGap_afresh afresh, afterGap_eq]
      rfl
    · exact congrArg (fun p => Host.Outcome.next (s.put p)) (awakeIs (putHostRx []))
    · exact congrArg (fun p => Host.Outcome.next (s.put p)) (awakeIs (putCameraRx []))
    · have dropped : receiveByte [x] y = ⟨[], none⟩ := if_pos above
      rw [dropped]
      exact ⟨rfl, rfl⟩
    · obtain ⟨len, code, high, low, p, rfl, size, fits⟩ := discardedFrame_form whole
      have start : (if s.part.cameraGapEnds.any s.part.reached then [] else s.part.camera.rx) = [] := by
        by_cases none : s.part.camera.rx = []
        · rw [none, ite_self]
        · refine if_pos ?_
          unfold Part.cameraGapEnds
          rw [if_neg (by simpa using none)]
          exact afresh.resolve_left none
      have discards : discardBytes (wireBytes len code p high low) s.part = putCameraRx [] s.part := by
        refine (if_neg (by simp [wireBytes])).trans ?_
        dsimp only
        rw [start, discardCamera_whole size fits]
      exact congrArg (fun p => Host.Outcome.next (s.put p)) ((awakeIs _).trans discards)

end Sys2Proof.Machine

/-! PROOFS. The loss of the backup domain and the cold start (R163). -/

namespace Sys2Proof.Machine

theorem loseBackup_fields (s : Part) : (loseBackup s).monitor =
      { s.monitor with
        state := .outage, lost := true
        coldIn := if 4500 < s.pins.packMv then some 16384 else none } ∧
    (loseBackup s).op = none ∧ (loseBackup s).holders = ⟨false, false, false, false⟩ ∧
    (loseBackup s).camera.focus = false ∧ (loseBackup s).camera.shutter = false :=
  ⟨rfl, rfl, rfl, rfl, rfl⟩

/-- With both streaks at 0 one reading confirms no level where `confirm` asks for more than one. -/
theorem judge_unconfirmed {g : Supply} (many : 1 < g.confirm) (l : Level) (r : BatteryReading) :
    (judge g l 0 0 r).confirmed = none := by
  unfold judge
  split_ifs <;> first | rfl | omega

/-- The first reading of a cold start confirms no level (R153). -/
theorem startCold_reads (s : Part) : startCold s = { freshPart s with
    battery := { (freshPart s).battery.due (freshPart s) with
      latest := some ((freshPart s).sample .periodic)
      worse := (freshPart s).periodicJudgement.worse, better := (freshPart s).periodicJudgement.better } } :=
  immediateReading_unconfirmed (s := freshPart s) nofun (judge_unconfirmed (show 1 < 3 by decide) _ _)

theorem freshPart_fields (s : Part) (battery : Battery) :
    let t : Part := { freshPart s with battery := battery }
    t.tables = Tables.coldStart ∧ t.time = Part.coldStart.time ∧ t.engine = .disarmed ∧ t.run = none ∧
    t.lastBase = none ∧ t.doneMark = none ∧ t.gates = Vector.replicate 8 false ∧ t.op = none ∧
    t.arbiter = Part.coldStart.arbiter ∧ t.holders = ⟨false, false, false, false⟩ ∧
    t.camera = Part.coldStart.camera ∧ t.health = .healthy ∧ t.failCount = 0 ∧ t.rehearsal = false ∧
    t.lending = Part.coldStart.lending ∧ t.meter = Part.coldStart.meter ∧ t.link = Part.coldStart.link ∧
    t.journal = ⟨[], 1, 0⟩ ∧ t.monitor.state = .supplied ∧ t.monitor.lost = false ∧
    t.monitor.coldIn = none ∧ t.pins = s.pins ∧ t.notices = [⟨.coldStart, 1, 0, 0, none⟩] :=
  ⟨rfl, rfl, rfl, rfl, rfl, rfl, rfl, rfl, rfl, rfl, rfl, rfl, rfl, rfl, rfl, rfl, rfl, rfl, rfl, rfl, rfl,
    rfl, rfl⟩

theorem freshPart_deadline (s : Part) : ((freshPart s).battery.due (freshPart s)).deadline =
    some (BitVec.ofNat 48 (480 * 4096)) := by
  have elapsed : (freshPart s).time.elapsed = 0#48 := rfl
  have period : (freshPart s).tables.supply.checkPeriod = 480 := rfl
  rw [Battery.due, Part.after, elapsed, period, BitVec.zero_add, Nat.mul_comm]

/-- Settles O51: each report and each pack voltage is taken by its case, and the cold start's first reading
confirms no level. -/
theorem coldStartBeginsAfresh : Obligations.ColdStartBeginsAfresh := by
  intro s
  refine ⟨fun low alive quiet => ?_, fun alive out => ?_, fun lost mv => ⟨?_, ?_⟩, fun not => ?_,
    fun lost timed => ?_⟩
  · have still : cellReports low s.part =
        { s.part with monitor := { s.part.monitor with cellLow := low } } := by
      refine if_neg ?_
      obtain supplied | high := quiet
      · simp [supplied]
      · simp [high]
    exact congrArg (fun p => Host.Outcome.next (s.put p)) still
  · have loses : cellReports true s.part =
        loseBackup { s.part with monitor := { s.part.monitor with cellLow := true } } :=
      if_pos (by simp [alive, out])
    have step : exec (.backupCellChange true) s =
        .next (s.put (loseBackup { s.part with monitor := { s.part.monitor with cellLow := true } })) :=
      congrArg (fun p => Host.Outcome.next (s.put p)) loses
    obtain ⟨monitor, op, holders, focus, shutter⟩ :=
      loseBackup_fields { s.part with monitor := { s.part.monitor with cellLow := true } }
    generalize loseBackup { s.part with monitor := { s.part.monitor with cellLow := true } } = t
      at step monitor op holders focus shutter
    exact ⟨s.put t, step, rfl, monitor, op, holders, focus, shutter⟩
  · exact congrArg (fun p => Host.Outcome.next (s.put p)) (if_pos lost)
  · exact congrArg (fun p => Host.Outcome.next (s.put p)) (if_pos lost)
  · have still : takeColdStart s.part = s.part := by
      refine if_neg ?_
      obtain alive | none := not
      · simp [alive]
      · simp [none]
    exact congrArg (fun p => Host.Outcome.next (s.put p)) still
  · have starts : takeColdStart s.part = startCold s.part := if_pos (by simp [lost, timed])
    obtain ⟨tables, time, engine, run, lastBase, mark, gates, op, arbiter, holders, camera, health, count,
      rehearsal, lending, meter, link, journal, state, alive, cold, pins, notices⟩ :=
      freshPart_fields s.part { (freshPart s.part).battery.due (freshPart s.part) with
        latest := some ((freshPart s.part).sample .periodic)
        worse := (freshPart s.part).periodicJudgement.worse
        better := (freshPart s.part).periodicJudgement.better }
    exact ⟨_, congrArg (fun p => Host.Outcome.next (s.put p)) (starts.trans (startCold_reads s.part)), rfl,
      tables, time, engine, run, lastBase, mark, gates, op, arbiter, holders, camera, health, count, rehearsal,
      lending, meter, link, journal, state, alive, cold, pins, rfl, freshPart_deadline s.part,
      rfl,
      notices⟩

end Sys2Proof.Machine

/-! PROOFS. A done mark lies ahead of the clock (R39): every end of a run marks its window up to the end of
the occurrence, which is ahead, and nothing else sets a mark. -/

namespace Sys2Proof.Machine

/-- The done mark, where there is one, ends later than now. -/
def Part.MarksAhead (s : Part) : Prop := ∀ m ∈ s.doneMark, s.now < m.stop

namespace Part.MarksAhead

variable {s t : Part}

theorem same (h : s.MarksAhead) (mark : t.doneMark = s.doneMark) (time : t.time = s.time) :
    t.MarksAhead := by
  intro m marked
  rw [mark] at marked
  rw [Part.now, time]
  exact h m marked

theorem granting (h : s.MarksAhead) (granted : Granting s t) (kept : Kept true s t) : t.MarksAhead :=
  h.same granted.doneMark kept.time

theorem finishRun (h : s.MarksAhead) : (Machine.finishRun s).MarksAhead := by
  cases run : s.run with
  | none => rwa [finishRun_noRun run]
  | some r =>
    rw [finishRun_eq run, raiseNotice_eq]
    intro m marked
    have marked : s.endMark r = some m := marked
    unfold Part.endMark at marked
    split at marked
    · next o _ within =>
      cases marked
      exact occurrenceAt_ahead within
    · exact h m marked

theorem enterEnding (h : s.MarksAhead) : (Machine.enterEnding s).MarksAhead := by
  unfold Machine.enterEnding
  split
  · exact h
  · exact h.same rfl rfl

theorem endRun (h : s.MarksAhead) : (Machine.endRun s).MarksAhead := by
  unfold Machine.endRun
  split
  · exact h.enterEnding
  · exact h.finishRun

theorem raiseNotice (h : s.MarksAhead) (k : NoticeKind) (d : Option Nat) :
    (Machine.raiseNotice k d s).MarksAhead := by
  rw [raiseNotice_eq]
  exact h.same rfl rfl

theorem remarked (s : Part) : s.remarked.MarksAhead := fun _ marked => (markAfter_eq_some marked).2

theorem startSelected (h : s.MarksAhead) (sel : Option (Fin 8)) :
    (Machine.startSelected sel s).MarksAhead :=
  h.same (startSelected_doneMark sel s) (startSelected_kept (b := true) sel s).time

/-- A re-evaluation leaves no mark that has ended (R39). -/
theorem reEvaluate (s : Part) : (Machine.reEvaluate s).MarksAhead := by
  have marks := remarked s
  unfold Machine.reEvaluate
  change (if s.engine = .disarmed then s.remarked else _).MarksAhead
  split
  · exact marks
  · split
    · exact marks.startSelected _
    · split
      · exact marks
      · split
        · exact marks
        · dsimp only
          split
          · exact marks.endRun.startSelected _
          · exact marks.endRun

/-! ### Through a catch-up -/

theorem finishByAction (h : s.MarksAhead) : (Machine.finishByAction s).MarksAhead := by
  have ended : Part.MarksAhead
    { s with run := s.run.map (fun r : Run => { r with byEndAction := true }) } := h.same rfl rfl
  unfold Machine.finishByAction
  dsimp only
  split
  · split
    · exact ended.finishRun
    · exact ended.enterEnding
  · exact ended.finishRun

theorem setRun (h : s.MarksAhead) (r : Option Run) : Part.MarksAhead { s with run := r } := h.same rfl rfl

theorem endAction (h : s.MarksAhead) (p : Plan) (due : Nat) (r : Run) :
    (Machine.endAction p due r s).MarksAhead := by
  have here : Part.MarksAhead { s with run := some r } := h.setRun _
  have ends : (Machine.finishByAction { s with run := some r }).MarksAhead := here.finishByAction
  unfold Machine.endAction
  extract_lets target t
  repeat' split
  all_goals first
    | exact here
    | exact ends
    | exact h.setRun _
    | exact here.raiseNotice _ _
    | exact ends.raiseNotice _ _
    | exact (h.setRun _).raiseNotice _ _

theorem stepDue (h : s.MarksAhead) (f : Option (Int × Int)) : (Machine.stepDue f s).MarksAhead := by
  unfold Machine.stepDue
  split
  · exact h
  · split
    · exact h.setRun _
    · extract_lets left r'
      split
      · exact h.endAction _ _ _
      · exact h.setRun _

theorem consumeMissed (h : s.MarksAhead) (reason : MissReason) :
    (consumeDue (.missed reason) s).MarksAhead := by
  cases run : s.run with
  | none =>
    unfold consumeDue
    rw [run]
    exact h
  | some r =>
    rw [consumeDue_missed run]
    exact stepDue (s := s.afterMiss r reason) (h.same rfl rfl) none

theorem consumePassed (h : s.MarksAhead) (reason : MissReason) (n : Nat) :
    (Machine.consumePassed reason n s).MarksAhead := by
  induction n generalizing s with
  | zero => exact h
  | succ n ih =>
    unfold Machine.consumePassed
    split
    · exact ih (h.consumeMissed reason)
    · exact h

theorem catchUp (h : s.MarksAhead) (reason : MissReason) : (Machine.catchUp reason s).MarksAhead :=
  consumePassed (s := withdrawSchedule s) (h.same rfl rfl) reason _

/-! ### Through a reading and the tail of a step -/

theorem takeBack (h : s.MarksAhead) (reason : TakenReason) : (Machine.takeBack reason s).MarksAhead := by
  have taken : (raiseTaken reason (ownPort false s)).MarksAhead := by
    rw [raiseTaken]
    exact raiseNotice (s := ownPort false s) (h.same rfl rfl) _ _
  exact taken.granting (handover_granting _) (handover_kept _)

theorem criticalEntry (h : s.MarksAhead) : (Machine.criticalEntry s).MarksAhead := by
  have dropped : (dropLend (dropKeepWarm s)).MarksAhead := h.same rfl rfl
  unfold Machine.criticalEntry
  dsimp only
  split
  · exact dropped
  · rw [raiseTaken]
    exact raiseNotice (s := ownPort _ (dropLend (dropKeepWarm s))) (dropped.same rfl rfl) _ _
  · exact dropped.takeBack _
  · exact dropped.takeBack _

theorem excludeHolders (h : s.MarksAhead) (old new : Level) :
    (Machine.excludeHolders old new s).MarksAhead := by
  unfold Machine.excludeHolders
  extract_lets t u
  have first : t.MarksAhead := by
    unfold t
    split
    · exact h.same rfl rfl
    · exact h
  have second : u.MarksAhead := by
    unfold u
    split
    · exact first.criticalEntry
    · exact first
  split
  · exact second
  · exact second.granting (raiseAndGrant_granting u) (raiseAndGrant_kept u)

theorem judgeReading (h : s.MarksAhead) (r : BatteryReading) : (Machine.judgeReading r s).MarksAhead := by
  unfold Machine.judgeReading
  dsimp only
  split
  · unfold changeLevel
    extract_lets old battery graded t
    have evaluated : t.MarksAhead := reEvaluate _
    split
    · exact evaluated.granting ((raiseAndGrant_granting t).trans (lendTest_granting _))
        ((raiseAndGrant_kept t).trans (lendTest_kept _))
    · exact evaluated
  · exact h.same rfl rfl

theorem immediateReading (h : s.MarksAhead) : (Machine.immediateReading s).MarksAhead := by
  rw [periodicDue_now]
  split
  · exact h.same rfl rfl
  · exact judgeReading (s := { s with battery := s.battery.due s }) (h.same rfl rfl) _

theorem settle (h : s.MarksAhead) : (Machine.settle s).MarksAhead := by
  obtain same | gone := settle_doneMark s
  · exact h.same same (settle_kept (b := true) s).time
  · intro m marked
    rw [gone] at marked
    cases marked

end Part.MarksAhead

end Sys2Proof.Machine

/-! PROOFS. The restore after an outage (R160 to R162): the blocks start again, the dues that were lost are
missed, the notice is raised, and the first reading begins both streaks anew. -/

namespace Sys2Proof.Machine

/-- What a recovery in progress becomes as it begins again at attempt 1 (R119). -/
def Part.restartedHealth (s : Part) : Health :=
  match s.health with
  | .recovering r => .recovering { r with attempt := 1, phase := .off (s.after (eighths r.off)) }
  | .healthy => .healthy
  | .faulted => .faulted

theorem restartedHealth_cases (s : Part) :
    (∀ r, s.health = .recovering r → s.restartedHealth =
      .recovering { r with attempt := 1, phase := .off (s.after (eighths r.off)) }) ∧
    (s.health.isRecovering = false → s.restartedHealth = s.health) := by
  unfold Part.restartedHealth
  constructor
  · intro r held
    rw [held]
  · cases s.health <;> simp [Health.isRecovering]

theorem restartRecovery_eq (s : Part) : ∃ holders,
    restartRecovery s = { s with health := s.restartedHealth, holders := holders } := by
  obtain ⟨begins, stays⟩ := restartedHealth_cases s
  cases h : s.health with
  | recovering r =>
    rw [begins r h, restartRecovery, h]
    exact ⟨_, rfl⟩
  | healthy =>
    have same : restartRecovery s = s := by rw [restartRecovery, h]
    rw [stays (by rw [h]; rfl), same]
    exact ⟨s.holders, rfl⟩
  | faulted =>
    have same : restartRecovery s = s := by rw [restartRecovery, h]
    rw [stays (by rw [h]; rfl), same]
    exact ⟨s.holders, rfl⟩

theorem meterRestart_eq (s : Part) : ∃ meter, meterRestart s = { s with meter := meter } ∧
    meter.startGate = s.meter.startGate ∧ meter.latest = none := by
  unfold meterRestart
  dsimp only
  split
  · exact ⟨_, rfl, rfl, rfl⟩
  · exact ⟨_, rfl, rfl, rfl⟩

theorem restartBlocks_eq (s : Part) : ∃ meter link camera holders,
    restartBlocks s =
      { s with
        time := { s.time with boundarySeen := s.now, midnightSeen := s.now }
        monitor := { s.monitor with state := .supplied }
        doneMark := s.doneMark.filter (fun m => decide (s.now < m.stop))
        battery := { s.battery with worse := 0, better := 0 }
        rehearsal := false, meter := meter, link := link, camera := camera, holders := holders
        health := s.restartedHealth } ∧
    meter.startGate = s.meter.startGate ∧ meter.latest = none := by
  obtain ⟨meter, metered, gate, latest⟩ := meterRestart_eq (quietCameraLine (clearLink
    { s with monitor := { s.monitor with state := .supplied }, rehearsal := false }))
  obtain ⟨holders, recovered⟩ := restartRecovery_eq (skipBoundaries (dropEndedMark (clearStreaks
    (meterRestart (quietCameraLine (clearLink
      { s with monitor := { s.monitor with state := .supplied }, rehearsal := false }))))))
  refine ⟨meter, (clearLink s).link, (quietCameraLine s).camera, holders, ?_, gate, latest⟩
  unfold restartBlocks
  dsimp only
  rw [recovered, metered]
  rfl

theorem pauseEngine_kept {b : Bool} (s : Part) :
    Kept b { s with engine := if s.engine = .armed ∨ s.engine = .suspended then .paused else s.engine }
      (pauseEngine s) := by
  unfold pauseEngine
  cases h : s.engine with
  | armed => exact setEngine_kept _ s
  | suspended => exact setEngine_kept _ s
  | disarmed =>
    have same : { s with engine := EngineState.disarmed } = s := by rw [← h]
    simp only [reduceCtorEq, or_self, if_false, same]
    exact .refl s
  | paused =>
    have same : { s with engine := EngineState.paused } = s := by rw [← h]
    simp only [reduceCtorEq, or_self, if_false, same]
    exact .refl s

theorem pauseEngine_run (s : Part) : ∃ wake : Run → Bool,
    (pauseEngine s).run = s.run.map (fun r => { r with wakeReached := wake r }) ∧
    (pauseEngine s).op = s.op ∧ (pauseEngine s).doneMark = s.doneMark ∧
    (pauseEngine s).time = s.time ∧ (pauseEngine s).journal = s.journal := by
  unfold pauseEngine
  split
  · exact ⟨fun _ => false, rfl, rfl, rfl, rfl, rfl⟩
  · exact ⟨fun _ => false, rfl, rfl, rfl, rfl, rfl⟩
  · exact ⟨(·.wakeReached), by simp, rfl, rfl, rfl, rfl⟩
  · exact ⟨(·.wakeReached), by simp, rfl, rfl, rfl, rfl⟩

/-- The engine as a restore leaves it (R160). -/
def Part.restoredEngine (s : Part) : EngineState :=
  if s.warm then s.engine
  else if s.engine = .armed ∨ s.engine = .suspended then .paused else s.engine

/-- The blocks restarted, with the dues that were lost missed (R161, R162). -/
def Part.caughtUp (s : Part) : Part :=
  if s.warm then catchUp .power (restartBlocks s) else catchUp .paused (pauseEngine (restartBlocks s))

/-- The part as a restore raises its notice. -/
def Part.restored (s : Part) : Part := settle (noteNextDue (reEvaluate s.caughtUp))

def Part.restoreNotice (s : Part) : NoticeKind := if s.warm then .restoredWarm else .restoredPaused

theorem completeRestore_eq (s : Part) : completeRestore s =
    immediateReading (raiseNotice s.restoreNotice s.restored.journal.newest s.restored) := rfl

theorem caughtUp_kept {b : Bool} (s : Part) :
    Kept b { restartBlocks s with engine := s.restoredEngine } s.caughtUp := by
  obtain ⟨_, _, _, _, same, -⟩ := restartBlocks_eq s
  have engine : (restartBlocks s).engine = s.engine := by rw [same]
  unfold Part.caughtUp Part.restoredEngine
  split
  · rw [← engine]
    exact catchUp_kept _ _
  · rw [← engine]
    exact (pauseEngine_kept _).trans (catchUp_kept _ _)

theorem restored_kept {b : Bool} (s : Part) :
    Kept b { restartBlocks s with engine := s.restoredEngine } s.restored :=
  (caughtUp_kept s).trans ((reEvaluate_kept _).trans ((noteNextDue_kept _).trans (settle_kept _)))

/-- A restore misses the first due that was lost first (R161, R162). -/
theorem caughtUp_misses {s : Part} {r : Run} (run : s.run = some r) (active : r.state = .active)
    (op : s.op = none) (due : r.nextDue ≤ s.now) :
    (s.journal.miss r r.nextDue (if s.warm then .power else .paused)).Grows s.caughtUp.journal := by
  obtain ⟨_, _, _, _, same, -⟩ := restartBlocks_eq s
  have first {t : Part} {n : Run} (ran : t.run = some n) (goes : n.state = .active)
      (free : t.dueGranted = false) (passed : n.nextDue ≤ t.now) (reason : MissReason) :
      (t.journal.miss n n.nextDue reason).Grows (catchUp reason t).journal := by
    obtain ⟨fuel, first⟩ := catchUp_passed free ran goes passed reason
    obtain ⟨-, -, missed, -⟩ := consumeMissed_lapses (s := withdrawSchedule t) ran reason
    have grows := (consumePassed_kept (b := false) reason fuel
      (consumeDue (.missed reason) (withdrawSchedule t))).journal
    rw [← first, missed] at grows
    exact grows
  have ran : (restartBlocks s).run = some r := by rw [same, run]
  have idle : (restartBlocks s).op = none := by rw [same, op]
  have now : (restartBlocks s).now = s.now := by rw [same]; rfl
  have journal : (restartBlocks s).journal = s.journal := by rw [same]
  unfold Part.caughtUp
  by_cases warm : s.warm = true
  · rw [if_pos warm, if_pos warm, ← journal]
    exact first ran active (dueGranted_noOp idle) (by rw [now]; exact due) _
  · obtain ⟨wake, run', op', -, time, journal'⟩ := pauseEngine_run (restartBlocks s)
    rw [if_neg warm, if_neg warm, ← journal, ← journal']
    rw [ran] at run'
    exact first run' active (dueGranted_noOp (op'.trans idle))
      (by rw [Part.now, time, ← Part.now, now]; exact due) _

theorem restored_marks (s : Part) : s.restored.MarksAhead := by
  have evaluated : (reEvaluate s.caughtUp).MarksAhead := .reEvaluate _
  have noted : (noteNextDue (reEvaluate s.caughtUp)).MarksAhead :=
    evaluated.same (noteNextDue_doneMark _) (noteNextDue_kept (b := true) _).time
  exact noted.settle

/-- Where nothing goes on, a restore finds nothing to catch up with, and both streaks are at 0. -/
theorem restored_idle {s : Part} (idle : s.Idle) :
    s.restored.Idle ∧ s.restored.battery = { s.battery with worse := 0, better := 0 } := by
  obtain ⟨meter, link, camera, holders, same, -⟩ := restartBlocks_eq s
  have idle' : (restartBlocks s).Idle := by
    rw [same]
    exact ⟨idle.alone, idle.op, idle.engine⟩
  have battery : (restartBlocks s).battery = { s.battery with worse := 0, better := 0 } := by rw [same]
  have paused : pauseEngine (restartBlocks s) = restartBlocks s := by rw [pauseEngine, idle'.engine]
  have caught : s.caughtUp = withdrawSchedule (restartBlocks s) := by
    have ahead : (restartBlocks s).duePassed = false := by simp [Part.duePassed, idle'.alone.1]
    rw [Part.caughtUp, paused, catchUp_ahead ahead, catchUp_ahead ahead, ite_self]
  generalize restartBlocks s = u at idle' battery caught
  obtain ⟨⟨run, schedule, external, manual, port⟩, op, engine⟩ := idle'
  have evaluated := reEvaluate_disarmed (s := withdrawSchedule u) engine
  have noted : noteNextDue (reEvaluate (withdrawSchedule u)) = reEvaluate (withdrawSchedule u) :=
    noteNextDue_unserved (by rw [evaluated]; simp [withdrawSchedule, run])
  have still : (reEvaluate (withdrawSchedule u)).Idle := by
    rw [evaluated]
    exact ⟨⟨run, rfl, external, manual, port⟩, op, engine⟩
  rw [Part.restored, caught, noted, still.settle]
  exact ⟨still, (congrArg Part.battery evaluated).trans battery⟩

/-- The part as the notice of the restore has been raised. -/
def Part.restoreTold (s : Part) : Part :=
  raiseNotice s.restoreNotice s.restored.journal.newest s.restored

theorem restoreTold_eq (s : Part) : ∃ notices, s.restoreTold = { s.restored with notices := notices } :=
  ⟨_, raiseNotice_eq _ _ _⟩

/-- What a restore makes of the part, whatever it then begins (R160). -/
structure Restored (s t : Part) : Prop where
  monitor : t.monitor = { s.monitor with state := .supplied }
  rehearsal : t.rehearsal = false
  now : t.now = s.now
  elapsed : t.time.elapsed = s.time.elapsed
  tables : t.tables = s.tables
  gates : t.gates = s.gates
  journal : s.journal.Grows t.journal
  failCount : t.failCount = s.failCount
  engine : t.engine = s.restoredEngine
  health : t.health = s.restartedHealth
  startGate : t.meter.startGate = s.meter.startGate
  latest : t.meter.latest = none

theorem Restored.kept {s t u : Part} {battery : Battery} {notices : List Notice} (h : Restored s t)
    (later : Kept false { t with battery := battery, notices := notices } u) : Restored s u where
  monitor := later.monitor.trans h.monitor
  rehearsal := later.rehearsal.trans h.rehearsal
  now := (congrArg TimeBase.instant later.time).trans h.now
  elapsed := (congrArg TimeBase.elapsed later.time).trans h.elapsed
  tables := later.tables.trans h.tables
  gates := later.gates.trans h.gates
  journal := h.journal.trans later.journal
  failCount := (later.health rfl).2.trans h.failCount
  engine := later.engine.trans h.engine
  health := (later.health rfl).1.trans h.health
  startGate := (congrArg Meter.startGate later.meter).trans h.startGate
  latest := (congrArg Meter.latest later.meter).trans h.latest

theorem restored_restored (s : Part) : Restored s s.restored := by
  obtain ⟨_, _, _, _, same, gate, latest⟩ := restartBlocks_eq s
  have begun : Restored s { restartBlocks s with engine := s.restoredEngine } := by
    rw [same]
    exact ⟨rfl, rfl, rfl, rfl, rfl, rfl, .same _, rfl, rfl, rfl, gate, latest⟩
  exact begun.kept (restored_kept s)

/-- Where nothing goes on, the first reading is judged with both streaks at 0 (R162). -/
theorem completeRestore_reads {s : Part} (idle : s.Idle) :
    let r := s.sample .periodic
    let j := judge s.tables.supply s.battery.level 0 0 r
    (settle (completeRestore s)).battery.latest = some r ∧
    (settle (completeRestore s)).battery.worse = j.worse ∧
    (settle (completeRestore s)).battery.better = j.better ∧
    (settle (completeRestore s)).battery.level = j.confirmed.getD s.battery.level := by
  obtain ⟨still, battery⟩ := restored_idle idle
  have whole := restored_restored s
  have pins : s.restored.pins = s.pins := by
    obtain ⟨_, _, _, _, same, -⟩ := restartBlocks_eq s
    have kept := (restored_kept (b := true) s).pins
    rw [same] at kept
    exact kept
  have told : immediateReading s.restoreTold =
      takePeriodic { s.restoreTold with battery := s.restoreTold.battery.due s.restoreTold } := by
    obtain ⟨_, told⟩ := restoreTold_eq s
    rw [periodicDue_now, if_neg (by rw [told]; simp [whole.monitor])]
  obtain ⟨_, same⟩ := restoreTold_eq s
  have read := settle_takePeriodic_alone
    (s := { s.restoreTold with battery := s.restoreTold.battery.due s.restoreTold })
    (by rw [same]; exact still.alone) (by rw [same]; exact still.op) (.inr (by rw [same]; exact still.engine))
  obtain ⟨sampled, judged, level⟩ :
      ({ s.restoreTold with battery := s.restoreTold.battery.due s.restoreTold } : Part).sample .periodic =
        s.sample .periodic ∧
      ({ s.restoreTold with battery := s.restoreTold.battery.due s.restoreTold } : Part).periodicJudgement =
        judge s.tables.supply s.battery.level 0 0 (s.sample .periodic) ∧
      (s.restoreTold.battery.due s.restoreTold).level = s.battery.level := by
    rw [same]
    simp only [Part.periodicJudgement, Part.sample, Battery.due, battery, whole.tables, pins]
    exact ⟨trivial, trivial, trivial⟩
  rw [sampled, judged, ← told] at read
  rw [level] at read
  exact ⟨congrArg Battery.latest read, congrArg Battery.worse read, congrArg Battery.better read,
    congrArg Battery.level read⟩

theorem completeRestore_restored (s : Part) : Restored s (settle (completeRestore s)) := by
  obtain ⟨notices, told⟩ := restoreTold_eq s
  have late : Kept false { s.restoreTold with battery := (settle (completeRestore s)).battery }
      (settle (completeRestore s)) :=
    ((immediateReading_kept s.restoreTold).trans (settle_kept _)).ownBattery
  rw [told] at late
  exact (restored_restored s).kept late

theorem completeRestore_deadline (s : Part) : (settle (completeRestore s)).battery.deadline =
    some (s.time.elapsed + BitVec.ofNat 48 (4096 * s.tables.supply.checkPeriod)) := by
  obtain ⟨notices, told⟩ := restoreTold_eq s
  have timed : (s.restoreTold.battery.due s.restoreTold).deadline =
      some (s.restored.time.elapsed + BitVec.ofNat 48 (4096 * s.restored.tables.supply.checkPeriod)) := by
    rw [told]
    rfl
  have whole := restored_restored s
  rw [whole.elapsed, whole.tables] at timed
  exact (settle_cadence _).1.trans ((immediateReading_cadence s.restoreTold).1.trans timed)

theorem completeRestore_newest (s : Part) :
    (settle (completeRestore s)).journal.newest = s.restored.journal.newest := by
  rw [settle_newest, completeRestore_eq, immediateReading, periodicDue_newest, raiseNotice_journal]

/-- The notice of a restore stands in the set after it (R161, R162). -/
theorem completeRestore_tells {s : Part}
    (unmasked : s.tables.general.mask.getLsbD s.restoreNotice.index = true) :
    ∃ n, entryOf s.restoreNotice (settle (completeRestore s)).notices = some n ∧
      n.last = s.now ∧ n.detail = (settle (completeRestore s)).journal.newest := by
  have whole := restored_restored s
  have rare : s.restoreNotice.rare = true := by
    unfold Part.restoreNotice
    split <;> rfl
  obtain ⟨n, held, detail, last⟩ := raiseNotice_shows (s := s.restored) (by rw [whole.tables]; exact unmasked)
    s.restored.journal.newest
  have later : Kept false _ (settle (completeRestore s)) :=
    (immediateReading_kept s.restoreTold).trans (settle_kept _)
  exact ⟨n, (later.rare _ rare).trans held, last.trans whole.now,
    detail.trans (completeRestore_newest s).symm⟩

/-- The miss of the first due that was lost is the first thing in the journal (R161, R162). -/
theorem completeRestore_misses {s : Part} {r : Run} (run : s.run = some r) (active : r.state = .active)
    (op : s.op = none) (due : r.nextDue ≤ s.now) :
    (s.journal.miss r r.nextDue (if s.warm then .power else .paused)).Grows
      (settle (completeRestore s)).journal := by
  have evaluated : s.caughtUp.journal.Grows s.restored.journal :=
    ((reEvaluate_kept (b := true) _).trans ((noteNextDue_kept _).trans (settle_kept _))).journal
  have told : s.restored.journal.Grows (settle (completeRestore s)).journal := by
    have later := ((immediateReading_kept (b := true) s.restoreTold).trans (settle_kept _)).journal
    rwa [Part.restoreTold, raiseNotice_journal] at later
  exact (caughtUp_misses run active op due).trans (evaluated.trans told)

/-- A restore that has completed goes on as the tail of a step does. -/
theorem exec_restoreDeadline {s : State} (alive : s.part.monitor.lost = false)
    (restoring : s.part.monitor.state = .restoring) (out : s.part.reached s.part.monitor.deadline = true) :
    exec .restoreDeadline s = .next (s.put (settle (completeRestore s.part))) := by
  have monitor : (completeRestore s.part).monitor = { s.part.monitor with state := .supplied } := by
    have settled := (settle_kept (b := true) (completeRestore s.part)).monitor
    exact settled.symm.trans (completeRestore_restored s.part).monitor
  have awake : (completeRestore s.part).awake = true := by simp [Part.awake, monitor, alive]
  have here : reachElapsed s.part.monitor.deadline s.part = s.part := if_pos out
  have taken : monitorExpires .restoring (fun p => settleIfAwake (completeRestore p)) s.part =
      settle (completeRestore s.part) := by
    rw [monitorExpires, if_pos ⟨alive, restoring⟩, here, settleIfAwake, if_pos awake]
  exact congrArg (fun p => Host.Outcome.next (s.put p)) taken

/-- Settles O50: by what the blocks, the missed dues, the notice and the first reading each leave. -/
theorem restoreIsWarmOrPaused : Obligations.RestoreIsWarmOrPaused := by
  intro s alive restoring out length warm
  have isWarm : s.part.warm = true ↔ warm := decide_eq_true_iff
  have isCold (h : ¬ warm) : s.part.warm = false := Bool.eq_false_iff.2 fun w => h (isWarm.1 w)
  obtain ⟨recovers, stays⟩ := restartedHealth_cases s.part
  have step := exec_restoreDeadline alive restoring out
  have whole := completeRestore_restored s.part
  have deadline := completeRestore_deadline s.part
  have tells := completeRestore_tells (s := s.part)
  have misses := @completeRestore_misses s.part
  have reads := completeRestore_reads (s := s.part)
  have marks : (settle (completeRestore s.part)).MarksAhead :=
    ((restored_marks s.part).raiseNotice _ _).immediateReading.settle
  generalize settle (completeRestore s.part) = t at *
  refine ⟨s.put t, step, rfl, whole.monitor, whole.rehearsal, whole.now, whole.elapsed, whole.tables,
    whole.gates, whole.journal, whole.failCount, fun w => ?_, fun cold => ?_,
    fun r held => whole.health.trans (recovers r held), fun none => whole.health.trans (stays none),
    whole.startGate, whole.latest, deadline, fun w => ?_, fun cold => ?_,
    fun m held => whole.now ▸ marks m held,
    fun r run active op due => ⟨fun w => ?_, fun cold => ?_⟩,
    fun alone op engine => reads ⟨alone, op, engine⟩⟩
  · exact whole.engine.trans (if_pos (isWarm.2 w))
  · exact whole.engine.trans (if_neg (by simp [isCold cold]))
  · rw [Part.restoreNotice, if_pos (isWarm.2 w)] at tells
    exact tells
  · rw [Part.restoreNotice, if_neg (by simp [isCold cold])] at tells
    exact tells
  · have missed := misses run active op due
    rwa [if_pos (isWarm.2 w)] at missed
  · have missed := misses run active op due
    rwa [if_neg (by simp [isCold cold])] at missed

end Sys2Proof.Machine

/-! PROOFS. What the end of an operation from outside its course leaves (R101, R102, R106, R157): the slots
of the arbiter, the battery supervisor, the record of its frame and SHOOT_DONE. -/

namespace Sys2Proof.Machine

section EndFromOutside

variable {s : Part} {o : Operation}

/-- The steps of an operation's end before its release (R101). -/
def Part.readyToRelease (s : Part) (o : Operation) : Part :=
  announceShoot o (decidePower o (judgeHealth o (consumedBy o s)))

theorem releaseOperation_frame (s : Part) : RunFrame none s.released (releaseOperation s) := by
  unfold releaseOperation
  dsimp only
  split
  · split
    · split
      · exact (finishRun_frame s.released).trans (reEvaluate_frame _)
      · exact finishRun_frame s.released
    · exact .refl s.released
  · exact .refl s.released

theorem consumedBy_rest (s : Part) (o : Operation) :
    (consumedBy o s).battery = s.battery ∧
    (consumedBy o s).arbiter = { s.arbiter with schedule := (consumedBy o s).arbiter.schedule } := by
  unfold consumedBy
  split
  · have frame := consumeByOperation_frame o s
    exact ⟨frame.battery, frame.arbiter⟩
  · exact ⟨rfl, rfl⟩

theorem readyToRelease_eq (s : Part) (o : Operation) : ∃ health holders notices,
    s.readyToRelease o =
      { consumedBy o s with health := health, holders := holders, notices := notices } := by
  unfold Part.readyToRelease announceShoot
  rw [judgeHealth_eq]
  split
  · exact ⟨_, _, _, raiseNotice_eq _ _ _⟩
  · exact ⟨_, _, (consumedBy o s).notices, rfl⟩

/-- The end of an operation leaves the battery supervisor and every slot but SCHEDULE's. -/
theorem endOperation_rest (op : s.op = some o) :
    (endOperation s).battery = s.battery ∧
    (endOperation s).arbiter = { s.arbiter with schedule := (endOperation s).arbiter.schedule } := by
  have ends : endOperation s = releaseOperation (s.readyToRelease o) := endOperation_eq op
  obtain ⟨battery, arbiter⟩ := consumedBy_rest s o
  obtain ⟨_, _, _, ready⟩ := readyToRelease_eq s o
  have frame := releaseOperation_frame (s.readyToRelease o)
  rw [← ends, ready] at frame
  exact ⟨frame.battery.trans battery, frame.arbiter.trans (by rw [Part.released]; dsimp only; rw [arbiter])⟩

/-- Where no re-evaluation follows it, the release of an operation raises RUN_ENDED at most. -/
theorem releaseOperation_silent {k : NoticeKind} (other : k ≠ .runEnded)
    (quiet : s.awake = false ∨ s.hold = true) :
    entryOf k (releaseOperation s).notices = entryOf k s.notices := by
  have waits : ¬ (s.awake && !s.hold) = true := by rcases quiet with h | h <;> simp [h]
  cases run : s.run with
  | none =>
    have still : releaseOperation s = s.released := by
      unfold releaseOperation
      dsimp only
      split
      · next held => cases run.symm.trans held
      · rfl
    rw [still]
    rfl
  | some r =>
    by_cases ending : r.state = .ending
    · rw [releaseOperation_ending run ending, if_neg waits]
      exact raiseNotice_silent other _ _
    · have still : releaseOperation s = s.released := by
        unfold releaseOperation
        dsimp only
        split
        · next held =>
          cases run.symm.trans held
          rw [if_neg ending]
          rfl
        · rfl
      rw [still]
      rfl

/-- A MANUAL operation shows in SHOOT_DONE as it ends (R101). -/
theorem endOperation_announces (op : s.op = some o) (manual : o.source = .manual)
    (quiet : s.awake = false ∨ s.hold = true)
    (unmasked : s.tables.general.mask.getLsbD NoticeKind.shootDone.index = true) :
    ∃ n, entryOf .shootDone (endOperation s).notices = some n ∧ n.detail = o.lastRecord ∧ n.last = s.now := by
  have consumed : consumedBy o s = s := if_neg (by rw [manual]; decide)
  have ends : endOperation s = releaseOperation (s.readyToRelease o) := endOperation_eq op
  have raises : s.readyToRelease o =
      raiseNotice .shootDone o.lastRecord (decidePower o (judgeHealth o s)) := by
    rw [Part.readyToRelease, consumed]
    exact if_pos manual
  have same : (judgeHealth o s).tables = s.tables ∧ (judgeHealth o s).now = s.now := by
    rw [judgeHealth_eq]
    exact ⟨rfl, rfl⟩
  obtain ⟨n, held, detail, last⟩ := raiseNotice_shows (k := .shootDone) (s := decidePower o (judgeHealth o s))
    (by rw [decidePower]; dsimp only; rw [same.1]; exact unmasked) o.lastRecord
  refine ⟨n, ?_, detail, last.trans same.2⟩
  rw [ends, releaseOperation_silent (by decide) ?_, raises, held]
  rw [raises, raiseNotice_eq, judgeHealth_eq]
  exact quiet

/-- The end from outside of a frame in progress is its failure (R102, R106, R157). -/
theorem cutOperation_frame (op : s.op = some o) (frame : ∀ d, o.phase ≠ .spacing d) (cause : FailCause) :
    cutOperation cause s = failFrame cause s := by
  unfold cutOperation
  split
  · next none => cases op.symm.trans none
  · next held =>
    cases op.symm.trans held
    split
    · next d spacing => exact absurd spacing (frame d)
    · rfl

/-- In burst spacing there is no frame in progress, and the operation ends without a record (R102). -/
theorem cutOperation_spacing {d : Elapsed} (op : s.op = some o) (spacing : o.phase = .spacing d)
    (cause : FailCause) : cutOperation cause s = endOperation s := by
  unfold cutOperation
  split
  · next none => cases op.symm.trans none
  · next held =>
    cases op.symm.trans held
    simp only [spacing]

theorem cutOperation_idle (op : s.op = none) (cause : FailCause) : cutOperation cause s = s := by
  unfold cutOperation
  split
  · rfl
  · next held => cases op.symm.trans held

/-- The part as the failure of a frame that does not count leaves it to the end of the operation (R98). -/
def Part.uncounted (s : Part) (o : Operation) (cause : FailCause) : Part :=
  s.recorded { o with lastCounted := false } (o.record .failed none (some cause) s.now s.arbiter.merged)

theorem failFrame_uncounted (op : s.op = some o) {cause : FailCause} (uncounted : cause.counted = false) :
    failFrame cause s = endOperation (s.uncounted o cause) := by
  rw [failFrame_eq op, uncounted]
  rfl

/-- What the end of an operation by a cause that does not count leaves alone (R98, R113). -/
theorem cutOperation_rest {cause : FailCause} (uncounted : cause.counted = false) :
    (cutOperation cause s).battery = s.battery ∧ (cutOperation cause s).failCount = s.failCount ∧
    (cutOperation cause s).arbiter.external = s.arbiter.external ∧
    (cutOperation cause s).arbiter.manual = s.arbiter.manual ∧
    ((∀ o ∈ s.op, o.lastCounted = false) → (cutOperation cause s).health = s.health) := by
  cases op : s.op with
  | none => rw [cutOperation_idle op]; exact ⟨rfl, rfl, rfl, rfl, fun _ => rfl⟩
  | some o =>
    by_cases spacing : ∃ d, o.phase = .spacing d
    · obtain ⟨d, spacing⟩ := spacing
      rw [cutOperation_spacing op spacing]
      obtain ⟨battery, arbiter⟩ := endOperation_rest op
      obtain ⟨count, health⟩ := endOperation_judges op
      refine ⟨battery, count, by rw [arbiter], by rw [arbiter], fun quiet => ?_⟩
      rw [health, if_neg (by simp [quiet o rfl])]
    · have frame := not_exists.1 spacing
      rw [cutOperation_frame op frame, failFrame_uncounted op uncounted]
      obtain ⟨battery, arbiter⟩ := endOperation_rest (s := s.uncounted o cause) rfl
      obtain ⟨count, health⟩ := endOperation_judges (s := s.uncounted o cause) rfl
      exact ⟨battery, count, by rw [arbiter]; rfl, by rw [arbiter]; rfl,
        fun _ => health.trans (if_neg (by simp))⟩

/-- The record of the frame in progress is the first thing that its end puts in the journal (R100). -/
theorem cutOperation_records {cause : FailCause} (uncounted : cause.counted = false) (op : s.op = some o) (frame : ∀ d, o.phase ≠ .spacing d) :
    (s.journal.append (o.record .failed none (some cause) s.now s.arbiter.merged)).Grows
      (cutOperation cause s).journal := by
  rw [cutOperation_frame op frame, failFrame_uncounted op uncounted]
  exact (endOperation_kept (s.uncounted o cause)).journal

/-- An EXTERNAL record hands over the merged count, and the end of another operation leaves it (R86). -/
theorem cutOperation_merged {cause : FailCause} (op : s.op = some o) :
    ((∀ d, o.phase ≠ .spacing d) → (cutOperation cause s).arbiter.merged =
      if o.source = .external then 0 else s.arbiter.merged) ∧
    (∀ d, o.phase = .spacing d → (cutOperation cause s).arbiter.merged = s.arbiter.merged) := by
  refine ⟨fun frame => ?_, fun d spacing => ?_⟩
  · rw [cutOperation_frame op frame, failFrame_eq op, (endOperation_rest rfl).2]
    rfl
  · rw [cutOperation_spacing op spacing, (endOperation_rest op).2]

/-- A MANUAL frame that is ended from outside shows in SHOOT_DONE with its record (R101). -/
theorem cutOperation_announces {cause : FailCause} (uncounted : cause.counted = false) (op : s.op = some o)
    (frame : ∀ d, o.phase ≠ .spacing d) (manual : o.source = .manual)
    (quiet : s.awake = false ∨ s.hold = true)
    (unmasked : s.tables.general.mask.getLsbD NoticeKind.shootDone.index = true) :
    ∃ n, entryOf .shootDone (cutOperation cause s).notices = some n ∧
      n.detail = some s.journal.numberFor ∧ n.last = s.now := by
  rw [cutOperation_frame op frame, failFrame_uncounted op uncounted]
  exact endOperation_announces (s := s.uncounted o cause) rfl manual quiet unmasked

end EndFromOutside

end Sys2Proof.Machine

/-! PROOFS. The entry of an outage (R157, R158): what the operation, the held requests, port lending and the
blocks each leave. -/

namespace Sys2Proof.Machine

section HeldRequests

/-- The records of the held requests as an outage withdraws them, EXTERNAL first (R158). -/
def Part.heldRecords (s : Part) (j : Journal) (merged : Nat) : Journal :=
  let j := match s.arbiter.external with
    | some q => j.append (missedRecord .external q.plan none q.raisedAt (some merged) .power false)
    | none => j
  match s.arbiter.manual with
  | some q => j.append (missedRecord .manual q.plan none q.raisedAt none .power false)
  | none => j

/-- Every held request withdrawn, EXTERNAL first (R158). -/
def withdrawAll (s : Part) : Part :=
  withdrawHeld .manual .power (withdrawHeld .external .power (withdrawSchedule s))

theorem withdrawHeld_none {s : Part} {src : Source} (slot : s.arbiter.slot src = none) (reason : MissReason) :
    withdrawHeld src reason s = s := by
  unfold withdrawHeld
  rw [slot]

theorem withdrawHeld_external {s : Part} {q : Request} (slot : s.arbiter.external = some q)
    (reason : MissReason) : withdrawHeld .external reason s = s.withdrawn .external reason q :=
  (withdrawHeld_eq (src := .external) slot reason).trans (if_neg (by decide))

theorem withdrawHeld_manual {s : Part} {q : Request} (slot : s.arbiter.manual = some q)
    (reason : MissReason) : withdrawHeld .manual reason s =
      raiseNotice .shootDone (some s.journal.numberFor) (s.withdrawn .manual reason q) :=
  (withdrawHeld_eq (src := .manual) slot reason).trans (if_pos rfl)

/-- The part with its SCHEDULE and its EXTERNAL request withdrawn. -/
def withdrawTwo (s : Part) : Part := withdrawHeld .external .power (withdrawSchedule s)

theorem withdrawTwo_fields (s : Part) :
    (withdrawTwo s).journal = (match s.arbiter.external with
      | some q => s.journal.append
          (missedRecord .external q.plan none q.raisedAt (some s.arbiter.merged) .power false)
      | none => s.journal) ∧
    (withdrawTwo s).arbiter.schedule = none ∧ (withdrawTwo s).arbiter.external = none ∧
    (withdrawTwo s).arbiter.manual = s.arbiter.manual ∧ (withdrawTwo s).notices = s.notices := by
  unfold withdrawTwo
  cases external : s.arbiter.external with
  | none =>
    rw [withdrawHeld_none (s := withdrawSchedule s) (src := .external) external]
    exact ⟨rfl, rfl, external, rfl, rfl⟩
  | some q =>
    rw [withdrawHeld_external (s := withdrawSchedule s) external]
    exact ⟨rfl, rfl, rfl, rfl, rfl⟩

/-- The held requests withdrawn in turn leave their records and no request (R158). -/
theorem withdrawAll_fields (s : Part) :
    (withdrawAll s).journal = s.heldRecords s.journal s.arbiter.merged ∧
    (withdrawAll s).arbiter.schedule = none ∧ (withdrawAll s).arbiter.external = none ∧
    (withdrawAll s).arbiter.manual = none ∧
    (s.arbiter.manual = none → (withdrawAll s).notices = s.notices) := by
  obtain ⟨journal, schedule, external, manual, notices⟩ := withdrawTwo_fields s
  have whole : withdrawAll s = withdrawHeld .manual .power (withdrawTwo s) := rfl
  rw [whole]
  unfold Part.heldRecords
  rw [← journal]
  cases held : s.arbiter.manual with
  | none =>
    rw [withdrawHeld_none (s := withdrawTwo s) (src := .manual) (manual.trans held)]
    exact ⟨rfl, schedule, external, manual.trans held, fun _ => notices⟩
  | some q =>
    rw [withdrawHeld_manual (s := withdrawTwo s) (manual.trans held), raiseNotice_eq]
    exact ⟨rfl, schedule, external, rfl, fun none => nomatch none⟩

/-- A MANUAL request that is withdrawn shows in SHOOT_DONE with its record's number (R88, R158). -/
theorem withdrawAll_announces {s : Part} (held : s.arbiter.manual.isSome = true)
    (unmasked : s.tables.general.mask.getLsbD NoticeKind.shootDone.index = true) :
    ∃ n, entryOf .shootDone (withdrawAll s).notices = some n ∧
      n.detail = (withdrawAll s).journal.newest ∧ n.last = s.now := by
  obtain ⟨-, -, -, manual, -⟩ := withdrawTwo_fields s
  obtain ⟨q, slot⟩ := Option.isSome_iff_exists.1 held
  have two : Kept true s (withdrawTwo s) := (withdrawSchedule_kept s).trans (withdrawHeld_kept _ _ _)
  have whole : withdrawAll s = raiseNotice .shootDone (some (withdrawTwo s).journal.numberFor)
      ((withdrawTwo s).withdrawn .manual .power q) := withdrawHeld_manual (manual.trans slot) _
  obtain ⟨n, shows, detail, last⟩ := raiseNotice_shows (k := .shootDone)
    (s := (withdrawTwo s).withdrawn .manual .power q)
    (by rw [Part.withdrawn, two.tables]; exact unmasked) (some (withdrawTwo s).journal.numberFor)
  rw [whole]
  refine ⟨n, shows, detail.trans ?_, last.trans (congrArg TimeBase.instant two.time)⟩
  rw [raiseNotice_journal, Part.withdrawn, Journal.append_newest]

/-- No other notice is raised as the held requests are withdrawn. -/
theorem withdrawAll_silent {k : NoticeKind} (other : k ≠ .shootDone) (s : Part) :
    entryOf k (withdrawAll s).notices = entryOf k s.notices := by
  obtain ⟨-, -, -, manual, notices⟩ := withdrawTwo_fields s
  have whole : withdrawAll s = withdrawHeld .manual .power (withdrawTwo s) := rfl
  rw [whole, ← notices]
  cases held : s.arbiter.manual with
  | none => rw [withdrawHeld_none (s := withdrawTwo s) (src := .manual) (manual.trans held)]
  | some q =>
    rw [withdrawHeld_manual (s := withdrawTwo s) (manual.trans held), raiseNotice_silent other]
    rfl

theorem withdrawAll_kept {b : Bool} (s : Part) : Kept b s (withdrawAll s) :=
  (withdrawSchedule_kept s).trans ((withdrawHeld_kept _ _ _).trans (withdrawHeld_kept _ _ _))

end HeldRequests

/-! ### Port lending at the entry (R137) -/

theorem lendingAtOutage_owned {s : Part} (owned : s.lending.port = .owned) : lendingAtOutage s = s := by
  unfold lendingAtOutage
  rw [owned]

theorem lendingAtOutage_ends {s : Part} (lends : s.lending.port ≠ .owned) : lendingAtOutage s =
    raiseTaken .power (ownPort (!s.lending.port.hostSide && s.lending.allowed) s) := by
  unfold lendingAtOutage
  cases port : s.lending.port with
  | owned => exact absurd port lends
  | yielding => rfl
  | lent => rfl
  | reclaiming => rfl

theorem lendingAtOutage_kept {b : Bool} (s : Part) : Kept b s (lendingAtOutage s) := by
  by_cases port : s.lending.port = .owned
  · rw [lendingAtOutage_owned port]
    exact .refl s
  · rw [lendingAtOutage_ends port]
    exact (ownPort_kept _ s).trans (raiseNotice_kept _ _ _)

/-- Port lending at the entry touches the lend and CAMERA_TAKEN alone (R137). -/
theorem lendingAtOutage_eq (s : Part) : ∃ lending notices,
    lendingAtOutage s = { s with lending := lending, notices := notices } ∧ lending.port = .owned ∧
    lending.allowed = (!s.lending.port.hostSide && s.lending.allowed) ∧
    (∀ k, k ≠ .cameraTaken → entryOf k notices = entryOf k s.notices) ∧
    (s.lending.port = .owned → notices = s.notices) ∧
    (s.lending.port ≠ .owned → s.tables.general.mask.getLsbD NoticeKind.cameraTaken.index = true →
      ∃ n, entryOf .cameraTaken notices = some n ∧ n.detail = some 4 ∧ n.last = s.now) := by
  by_cases port : s.lending.port = .owned
  · rw [lendingAtOutage_owned port]
    exact ⟨s.lending, s.notices, rfl, port, by simp [port, PortState.hostSide], fun _ _ => rfl, fun _ => rfl,
      fun lends => absurd port lends⟩
  · rw [lendingAtOutage_ends port]
    refine ⟨_, _, raiseNotice_eq _ _ _, rfl, rfl, fun k other => ?_, fun owned => absurd owned port,
      fun _ unmasked => ?_⟩
    · have silent := raiseNotice_silent (k := k) (kind := .cameraTaken) other (some TakenReason.power.code)
        (ownPort (!s.lending.port.hostSide && s.lending.allowed) s)
      rw [raiseNotice_eq] at silent
      exact silent
    · obtain ⟨n, shows, detail, last⟩ := raiseNotice_shows (k := .cameraTaken)
        (s := ownPort (!s.lending.port.hostSide && s.lending.allowed) s) unmasked
        (some TakenReason.power.code)
      rw [raiseNotice_eq] at shows
      exact ⟨n, shows, detail, last⟩

/-! ### The blocks at the entry (R157) -/

/-- Camera health with an attempt in progress abandoned (R119). -/
def Health.abandoned : Health → Health
  | .recovering r => .recovering { r with phase := .stopped }
  | .healthy => .healthy
  | .faulted => .faulted

theorem abandonAttempt_eq (s : Part) : abandonAttempt s = { s with health := s.health.abandoned } := by
  have same {h : Health} (held : s.health = h) : s = { s with health := h } := by rw [← held]
  unfold abandonAttempt
  cases health : s.health with
  | recovering r => rfl
  | healthy => exact same health
  | faulted => exact same health

theorem abandoned_healthy {h : Health} (out : h.isRecovering = false) : h.abandoned = h := by
  cases h with
  | recovering r => exact nomatch out
  | healthy => rfl
  | faulted => rfl

/-- The part with every block stopped for an outage (R157). -/
def Part.outOfWork (s : Part) : Part :=
  { s with
    health := s.health.abandoned
    holders := ⟨false, false, false, false⟩
    camera := { s.camera with focus := false, shutter := false, rx := [], tx := none }
    meter := { s.meter with state := .stopped, latest := none }
    battery := { s.battery with deferred := false, deadline := none }
    link := { s.link with
      rx := [], handled := none, waiting := none, reply := none, softReset := false } }

/-- The part at the entry of an outage before its blocks stop. -/
def Part.cutShort (s : Part) : Part :=
  lendingAtOutage (withdrawAll (cutOperation .power (enterOutage s)))

theorem stopBlocks_eq (s : Part) :
    clearLink (quietCameraLine (batteryAtOutage (meterStop (abandonAttempt (emptyHolders
      (releaseLines s)))))) = s.outOfWork := by
  have abandoned : abandonAttempt (emptyHolders (releaseLines s)) =
      { s with
        health := s.health.abandoned
        holders := ⟨false, false, false, false⟩
        camera := { s.camera with focus := false, shutter := false } } :=
    abandonAttempt_eq _
  rw [abandoned]
  rfl

theorem outageBlocks_eq (s : Part) : outageBlocks (enterOutage s) = s.cutShort.outOfWork :=
  stopBlocks_eq s.cutShort

theorem loseBackup_eq (s : Part) : loseBackup s =
    { s with
      op := none
      holders := ⟨false, false, false, false⟩
      camera := { s.camera with focus := false, shutter := false, rx := [], tx := none }
      link := { s.link with
        rx := [], handled := none, waiting := none, reply := none, softReset := false }
      monitor := (loseBackup s).monitor } := rfl

/-- The loss of the backup domain in a part that is out of work only takes the monitor (R163). -/
theorem loseBackup_outOfWork {s : Part} (op : s.op = none) :
    loseBackup s.outOfWork = { s.outOfWork with monitor := (loseBackup s.outOfWork).monitor } := by
  rw [loseBackup_eq]
  generalize (loseBackup s.outOfWork).monitor = monitor
  obtain ⟨⟩ := s
  cases op
  rfl

/-- The monitor as an outage begins; with the cell LOW the backup domain goes with the pack
(assumption 12). -/
def Part.monitorAtOutage (s : Part) : Monitor :=
  { s.monitor with
    state := .outage, outageStart := s.time.elapsed, lost := s.monitor.cellLow
    coldIn :=
      if s.monitor.cellLow = true then (if 4500 < s.pins.packMv then some 16384 else none)
      else s.monitor.coldIn }

theorem cutShort_kept (s : Part) : Kept true (enterOutage s) s.cutShort :=
  (cutOperation_kept _ _).trans ((withdrawAll_kept _).trans (lendingAtOutage_kept _))

theorem cutShort_op (s : Part) : s.cutShort.op = none := by
  unfold Part.cutShort withdrawAll
  simp [(cutOperation_gone .power (enterOutage s)).1]

theorem cutShort_monitor (s : Part) : s.cutShort.monitor =
    { s.monitor with state := .outage, outageStart := s.time.elapsed } := (cutShort_kept s).monitor

theorem outageEntry_outOfWork {s : Part} (alive : s.monitor.lost = false) : outageEntry s =
    { s.cutShort.outOfWork with monitor := s.monitorAtOutage } := by
  have low : s.cutShort.outOfWork.monitor.cellLow = s.monitor.cellLow :=
    by rw [Part.outOfWork, cutShort_monitor]
  rw [outageEntry_eq, outageBlocks_eq]
  by_cases cell : s.monitor.cellLow = true
  · have monitor : (loseBackup s.cutShort.outOfWork).monitor = s.monitorAtOutage := by
      have pins : s.cutShort.outOfWork.pins = s.pins := (cutShort_kept s).pins
      have held : s.cutShort.outOfWork.monitor =
        { s.monitor with state := .outage, outageStart := s.time.elapsed } := cutShort_monitor s
      rw [(loseBackup_fields s.cutShort.outOfWork).1, pins, held, Part.monitorAtOutage, if_pos cell]
      dsimp only
      rw [cell]
    rw [if_pos (low.trans cell), loseBackup_outOfWork (cutShort_op s), monitor]
  · have monitor : s.cutShort.outOfWork.monitor = s.monitorAtOutage := by
      have held : s.cutShort.outOfWork.monitor =
        { s.monitor with state := .outage, outageStart := s.time.elapsed } := cutShort_monitor s
      have same : s.monitor.cellLow = s.monitor.lost := (eq_false_of_ne_true cell).trans alive.symm
      rw [held, Part.monitorAtOutage, if_neg cell]
      exact congrArg (fun lost : Bool => ({ s.monitor with
        state := .outage, outageStart := s.time.elapsed, lost := lost } : Monitor)) same.symm
    rw [if_neg (by rw [low]; exact cell), ← monitor]

end Sys2Proof.Machine

/-! PROOFS. The outage as a whole: what remains of the part as it begins (R157, R158). -/

namespace Sys2Proof.Machine

section CutShort

variable (s : Part)

/-- The part at the entry of an outage as its operation has ended (R157). -/
def Part.cutOff (s : Part) : Part := cutOperation .power (enterOutage s)

/-- The part at the entry of an outage as its held requests are withdrawn (R158). -/
theorem cutShort_withdrawn : ∃ lending notices,
    s.cutShort = { withdrawAll s.cutOff with lending := lending, notices := notices } := by
  obtain ⟨lending, notices, same, -⟩ := lendingAtOutage_eq (withdrawAll s.cutOff)
  exact ⟨lending, notices, same⟩

theorem cutOff_rest : s.cutOff.battery = s.battery ∧ s.cutOff.failCount = s.failCount ∧
    s.cutOff.arbiter.external = s.arbiter.external ∧ s.cutOff.arbiter.manual = s.arbiter.manual ∧
    ((∀ o ∈ s.op, o.lastCounted = false) → s.cutOff.health = s.health) :=
  cutOperation_rest (s := enterOutage s) rfl

theorem cutOff_kept : Kept true (enterOutage s) s.cutOff := cutOperation_kept _ _

theorem withdrawAll_battery : (withdrawAll s).battery = s.battery := by
  have held (src : Source) (t : Part) : (withdrawHeld src .power t).battery = t.battery := by
    cases slot : t.arbiter.slot src with
    | none => rw [withdrawHeld_none slot]
    | some q =>
      rw [withdrawHeld_eq slot]
      split
      · rw [raiseNotice_eq]
        rfl
      · rfl
  exact (held _ _).trans (held _ _)

theorem withdrawAll_lending : (withdrawAll s).lending = s.lending :=
  (withdrawHeld_fields _ _ _).2.2.trans (withdrawHeld_fields _ _ _).2.2

/-- After what the operation's end records come the held requests' records (R158). -/
theorem cutShort_journal :
    s.cutShort.journal = s.heldRecords s.cutOff.journal s.cutOff.arbiter.merged := by
  obtain ⟨_, _, same⟩ := cutShort_withdrawn s
  obtain ⟨-, -, external, manual, -⟩ := cutOff_rest s
  rw [same]
  refine (withdrawAll_fields s.cutOff).1.trans ?_
  unfold Part.heldRecords
  rw [external, manual]

theorem cutShort_requests : s.cutShort.arbiter.schedule = none ∧ s.cutShort.arbiter.external = none ∧
    s.cutShort.arbiter.manual = none := by
  obtain ⟨_, _, same⟩ := cutShort_withdrawn s
  obtain ⟨-, schedule, external, manual, -⟩ := withdrawAll_fields s.cutOff
  rw [same]
  exact ⟨schedule, external, manual⟩

theorem cutShort_level : s.cutShort.battery.level = s.battery.level := by
  obtain ⟨_, _, same⟩ := cutShort_withdrawn s
  rw [same]
  exact congrArg Battery.level ((withdrawAll_battery s.cutOff).trans (cutOff_rest s).1)

theorem cutShort_judges : s.cutShort.failCount = s.failCount ∧
    ((∀ o ∈ s.op, o.lastCounted = false) → s.cutShort.health = s.health) := by
  have kept : Kept false s.cutOff s.cutShort := (withdrawAll_kept _).trans (lendingAtOutage_kept _)
  obtain ⟨health, count⟩ := kept.health rfl
  obtain ⟨-, count', -, -, health'⟩ := cutOff_rest s
  exact ⟨count.trans count', fun quiet => health.trans (health' quiet)⟩

theorem cutOff_lending :
    (withdrawAll s.cutOff).lending =
      { s.lending with allowed := s.lending.allowed || s.op.isSome } :=
  (withdrawAll_lending s.cutOff).trans (cutOperation_gone .power (enterOutage s)).2.2

theorem cutShort_lending : s.cutShort.lending.port = .owned ∧
    s.cutShort.lending.allowed =
      (!s.lending.port.hostSide && (s.lending.allowed || s.op.isSome)) := by
  obtain ⟨lending, notices, same, port, allowed, -⟩ := lendingAtOutage_eq (withdrawAll s.cutOff)
  have lends : s.cutShort.lending = lending := congrArg Part.lending same
  rw [lends, port, allowed, cutOff_lending]
  exact ⟨rfl, rfl⟩

theorem cutShort_bus {s : Part} (h : s.PortLawful) :
    s.cutShort.lending.busHost = false ∧ s.cutShort.lending.timer = none := by
  have entered : (enterOutage s).PortLawful := h
  have lawful := outageBlocks_port entered
  rw [outageBlocks_eq] at lawful
  obtain ⟨bus, timer, -⟩ := lawful
  have port : s.cutShort.outOfWork.lending.port = .owned := (cutShort_lending s).1
  rw [port] at bus timer
  exact ⟨bus, Option.not_isSome_iff_eq_none.1 (Bool.eq_false_iff.1 timer)⟩

/-- The lend that an outage ends shows in CAMERA_TAKEN with reason POWER (R137). -/
theorem cutShort_taken {s : Part} (lends : s.lending.port ≠ .owned)
    (unmasked : s.tables.general.mask.getLsbD NoticeKind.cameraTaken.index = true) :
    ∃ n, entryOf .cameraTaken s.cutShort.notices = some n ∧ n.detail = some 4 ∧ n.last = s.now := by
  obtain ⟨lending, notices, same, -, -, -, -, taken⟩ := lendingAtOutage_eq (withdrawAll s.cutOff)
  have kept : Kept true (enterOutage s) (withdrawAll s.cutOff) := (cutOff_kept s).trans (withdrawAll_kept _)
  have shows : s.cutShort.notices = notices := congrArg Part.notices same
  obtain ⟨n, held, detail, last⟩ := taken (by rw [cutOff_lending]; exact lends)
    (by rw [kept.tables]; exact unmasked)
  exact ⟨n, shows ▸ held, detail, last.trans (congrArg TimeBase.instant kept.time)⟩

theorem cutShort_untaken {s : Part} (owned : s.lending.port = .owned) (op : s.op = none) :
    entryOf .cameraTaken s.cutShort.notices = entryOf .cameraTaken s.notices := by
  obtain ⟨lending, notices, same, -, -, -, still, -⟩ := lendingAtOutage_eq (withdrawAll s.cutOff)
  have shows : s.cutShort.notices = notices := congrArg Part.notices same
  have idle : s.cutOff = enterOutage s := cutOperation_idle (s := enterOutage s) op _
  rw [shows, still (by rw [cutOff_lending]; exact owned), withdrawAll_silent (by decide), idle]
  rfl

/-- SHOOT_DONE stands as the withdrawn requests leave it. -/
theorem cutShort_shootDone : entryOf .shootDone s.cutShort.notices =
    entryOf .shootDone (withdrawAll s.cutOff).notices := by
  obtain ⟨lending, notices, same, -, -, other, -⟩ := lendingAtOutage_eq (withdrawAll s.cutOff)
  have shows : s.cutShort.notices = notices := congrArg Part.notices same
  rw [shows, other _ (by decide)]

/-- A MANUAL request withdrawn shows in SHOOT_DONE with the newest record (R158). -/
theorem cutShort_announcesRequest {s : Part} (held : s.arbiter.manual.isSome = true)
    (unmasked : s.tables.general.mask.getLsbD NoticeKind.shootDone.index = true) :
    ∃ n, entryOf .shootDone s.cutShort.notices = some n ∧ n.detail = s.cutShort.journal.newest ∧
      n.last = s.now := by
  obtain ⟨-, -, -, manual, -⟩ := cutOff_rest s
  have cut := cutOff_kept s
  obtain ⟨n, shows, detail, last⟩ := withdrawAll_announces (s := s.cutOff) (by rw [manual]; exact held)
    (by rw [cut.tables]; exact unmasked)
  obtain ⟨_, _, same⟩ := cutShort_withdrawn s
  have journal : s.cutShort.journal = (withdrawAll s.cutOff).journal := by rw [same]
  exact ⟨n, (cutShort_shootDone s).trans shows, by rw [journal]; exact detail,
    last.trans (congrArg TimeBase.instant cut.time)⟩

/-- A MANUAL frame that the outage ends shows in SHOOT_DONE with its record (R101, R157). -/
theorem cutShort_announcesFrame {s : Part} {o : Operation} (op : s.op = some o)
    (frame : ∀ d, o.phase ≠ .spacing d) (manual : o.source = .manual) (free : s.arbiter.manual = none)
    (unmasked : s.tables.general.mask.getLsbD NoticeKind.shootDone.index = true) :
    ∃ n, entryOf .shootDone s.cutShort.notices = some n ∧ n.detail = some s.journal.numberFor ∧
      n.last = s.now := by
  obtain ⟨-, -, -, slot, -⟩ := cutOff_rest s
  have asleep : (enterOutage s).awake = false := by simp [Part.awake, enterOutage]
  rw [cutShort_shootDone, (withdrawAll_fields s.cutOff).2.2.2.2 (slot.trans free)]
  exact cutOperation_announces (s := enterOutage s) rfl op frame manual (.inl asleep) unmasked

/-- What the operation's end records in an outage, and the merged count that it leaves (R157, R86). -/
theorem cutOff_records {s : Part} {o : Operation} (op : s.op = some o) :
    ((∀ d, o.phase ≠ .spacing d) →
      (s.journal.append (o.record .failed none (some .power) s.now s.arbiter.merged)).Grows s.cutOff.journal ∧
      s.cutOff.arbiter.merged = if o.source = .external then 0 else s.arbiter.merged) ∧
    (∀ d, o.phase = .spacing d → s.cutOff.arbiter.merged = s.arbiter.merged) := by
  obtain ⟨handed, left⟩ := cutOperation_merged (s := enterOutage s) (cause := .power) op
  exact ⟨fun frame => ⟨cutOperation_records (s := enterOutage s) rfl op frame, handed frame⟩, left⟩

end CutShort

/-- Settles O49: by the operation's end, the withdrawals, the lend and the blocks, each in turn. -/
theorem outageEndsAllWork : Obligations.OutageEndsAllWork := by
  intro s alive riding out held shows
  have step : exec .rideThroughDeadline s = .next (s.put (outageEntry s.part)) := by
    have here : reachElapsed s.part.monitor.deadline s.part = s.part := if_pos out
    have taken : monitorExpires .riding outageEntry s.part = outageEntry s.part := by
      rw [monitorExpires, if_pos ⟨alive, riding⟩, here]
    exact congrArg (fun p => Host.Outcome.next (s.put p)) taken
  rw [outageEntry_outOfWork alive] at step
  have cut := cutShort_kept s.part
  obtain ⟨schedule, external, manual⟩ := cutShort_requests s.part
  obtain ⟨port, allowed⟩ := cutShort_lending s.part
  obtain ⟨count, health⟩ := cutShort_judges s.part
  have journal := cutShort_journal s.part
  have grows : s.part.journal.Grows s.part.cutOff.journal := (cutOff_kept s.part).journal
  refine ⟨_, step, rfl, rfl, cutShort_op s.part, schedule, external, manual, rfl, rfl, rfl, rfl, port,
    cutShort_bus, allowed, cutShort_taken, cutShort_untaken, rfl, rfl, rfl, rfl, cutShort_level s.part,
    rfl, rfl, rfl, rfl, cut.time, cut.tables, cut.gates, cut.engine, count, cut.journal, fun op => ?_,
    fun o op => ?_, fun pending => ?_, fun quiet => ?_⟩
  · have idle : s.part.cutOff = enterOutage s.part := cutOperation_idle (s := enterOutage s.part) op _
    rw [idle] at journal
    exact journal
  · obtain ⟨records, spacing⟩ := cutOff_records op
    refine ⟨fun frame => ?_, fun d between => ⟨s.part.cutOff.journal, grows, ?_⟩, fun frame manual free =>
      cutShort_announcesFrame op frame manual free⟩
    · obtain ⟨recorded, merged⟩ := records frame
      exact ⟨s.part.cutOff.journal, recorded, by rw [← merged]; exact journal⟩
    · rw [← spacing d between]
      exact journal
  · exact cutShort_announcesRequest pending
  · have same := health quiet
    refine ⟨fun r held => ?_, fun sound => ?_⟩
    · exact congrArg Health.abandoned (same.trans held)
    · exact (congrArg Health.abandoned same).trans (abandoned_healthy sound)

end Sys2Proof.Machine

/-! PROOFS. What follows a reset (R164, R165): a part whose port is OWNED and which no one outside has asked for
anything goes on by its run alone. -/

namespace Sys2Proof.Machine

/-! ### The camera line's receiver through a grant (R91) -/

theorem beginFrame_rx (s : Part) : (beginFrame s).camera.rx = s.camera.rx := by
  unfold beginFrame enterSetting enterFocusing enterExposing
  dsimp only
  repeat' split
  all_goals rfl

theorem endWaiting_rx (s : Part) : (endWaiting s).camera.rx = s.camera.rx := by
  unfold endWaiting
  split
  · split
    · exact beginFrame_rx _
    · rfl
  · rfl

theorem leaveWaking_rx (o : Operation) (s : Part) : (leaveWaking o s).camera.rx = s.camera.rx := by
  unfold leaveWaking enterWaiting
  dsimp only
  split
  · split
    · split
      · exact endWaiting_rx _
      · rfl
    · rfl
  · exact beginFrame_rx _
  · exact beginFrame_rx _
  · rfl
  · rfl

theorem grant_rx {src : Source} {q : Request} {s : Part} (slot : s.arbiter.slot src = some q) :
    (grant src s).camera.rx = s.camera.rx := by
  cases power : s.camPwr with
  | false => rw [grant_off slot power]; rfl
  | true =>
    rw [grant_on slot power, leaveWaking_rx]
    rfl

/-! ### A part that nobody outside has asked for anything -/

/-- The port OWNED with no wake period, and no EXTERNAL and no MANUAL request. -/
structure Part.Unasked (s : Part) : Prop where
  owned : s.Owned
  external : s.arbiter.external = none
  manual : s.arbiter.manual = none

/-- What the run's own course leaves of lending, of the receiver and of the slots from outside. -/
structure UnaskedKept (s t : Part) : Prop where
  lending : t.lending = s.lending
  rx : t.camera.rx = s.camera.rx
  slots : t.arbiter = { s.arbiter with schedule := t.arbiter.schedule }

namespace UnaskedKept

variable {s t u : Part}

theorem refl (s : Part) : UnaskedKept s s := ⟨rfl, rfl, rfl⟩

theorem trans (h : UnaskedKept s t) (h' : UnaskedKept t u) : UnaskedKept s u :=
  ⟨h'.lending.trans h.lending, h'.rx.trans h.rx, h'.slots.trans (by rw [h.slots])⟩

theorem unasked (h : UnaskedKept s t) (l : s.Unasked) : t.Unasked := by
  refine ⟨?_, ?_, ?_⟩
  · unfold Part.Owned
    rw [h.lending]
    exact l.owned
  · rw [h.slots]
    exact l.external
  · rw [h.slots]
    exact l.manual

theorem ofFrame {fed : Option (Int × Int)} (h : RunFrame fed s t) : UnaskedKept s t :=
  ⟨h.lending, by rw [h.camera], h.arbiter⟩

/-- Two parts of a step, the second from the part that the first leaves. -/
theorem andThen {f : Part → Part} (h : UnaskedKept s t) (l : s.Unasked)
    (next : t.Unasked → UnaskedKept t (f t)) : UnaskedKept s (f t) :=
  h.trans (next (h.unasked l))

end UnaskedKept

section
variable {s : Part}

theorem arbiterTest_unasked (l : s.Unasked) : UnaskedKept s (arbiterTest s) := by
  obtain same | ⟨src, q, -, -, slot, grants⟩ := arbiterTest_cases s
  · rw [same]
    exact .refl s
  · have owned := arbiterTest_ownedKept l.owned
    rw [grants] at owned ⊢
    refine ⟨owned.lending, grant_rx slot, ?_⟩
    obtain ⟨op, run, camera, same⟩ := grant_eq slot
    rw [same]
    cases src with
    | schedule => rfl
    | external => exact nomatch l.external.symm.trans slot
    | manual => exact nomatch l.manual.symm.trans slot

theorem raiseAndGrant_unasked (l : s.Unasked) : UnaskedKept s (raiseAndGrant s) :=
  (UnaskedKept.ofFrame (raiseSchedule_frame (fed := none) s)).andThen l arbiterTest_unasked

theorem leaveWaking_unasked (o : Operation) (s : Part) : UnaskedKept s (leaveWaking o s) := by
  have rx := leaveWaking_rx o s
  obtain ⟨op, run, camera, same⟩ := leaveWaking_eq o s
  rw [same] at rx ⊢
  exact ⟨rfl, rx, rfl⟩

theorem endZeroWake_unasked (s : Part) : UnaskedKept s (endZeroWake s) := by
  unfold endZeroWake
  split
  · split
    · split
      · exact leaveWaking_unasked _ s
      · exact .refl s
    · exact .refl s
  · exact .refl s

theorem reEvaluate_unasked (s : Part) : UnaskedKept s (reEvaluate s) :=
  .ofFrame (reEvaluate_frame (fed := none) s)

theorem noteNextDue_unasked (s : Part) : UnaskedKept s (noteNextDue s) :=
  .ofFrame (noteNextDue_frame (fed := none) s)

theorem excludeHolders_unasked (l : s.Unasked) (old new : Level) :
    UnaskedKept s (excludeHolders old new s) := by
  unfold excludeHolders
  extract_lets dropped entered
  have first : UnaskedKept s dropped := by
    unfold dropped
    split
    · exact ⟨rfl, rfl, rfl⟩
    · exact .refl s
  have second : UnaskedKept s entered := by
    unfold entered
    split
    · rw [criticalEntry_owned (first.unasked l).owned.1]
      exact first.trans ⟨rfl, rfl, rfl⟩
    · exact first
  split
  · exact second
  · exact second.andThen l raiseAndGrant_unasked

theorem changeLevel_unasked (l : s.Unasked) (new : Level) : UnaskedKept s (changeLevel new s) := by
  unfold changeLevel
  extract_lets old battery graded t
  have raised : UnaskedKept s (raiseNotice .levelChanged (some new.rank) graded) := by
    rw [raiseNotice_eq]
    exact ⟨rfl, rfl, rfl⟩
  have evaluated : UnaskedKept s t :=
    (raised.andThen l fun m => excludeHolders_unasked m old new).trans (reEvaluate_unasked _)
  split
  · have granted := evaluated.andThen l raiseAndGrant_unasked
    show UnaskedKept s (lendTest (raiseAndGrant t))
    rw [lendTest_owned (granted.unasked l).owned]
    exact granted
  · exact evaluated

theorem judgeReading_unasked (l : s.Unasked) (r : BatteryReading) : UnaskedKept s (judgeReading r s) := by
  unfold judgeReading
  extract_lets j battery read
  have edit : UnaskedKept s read := ⟨rfl, rfl, rfl⟩
  split
  · exact edit.andThen l fun m => changeLevel_unasked m _
  · exact edit

theorem takeLoaded_unasked_kept (l : s.Unasked) : UnaskedKept s (takeLoaded s) := by
  unfold takeLoaded
  split
  · split
    · next o _ _ =>
      have edit : UnaskedKept s { s with op := some { o with
          askReading := false, volts := some (s.sample .loaded).volts } } := ⟨rfl, rfl, rfl⟩
      exact edit.andThen l fun m => judgeReading_unasked m _
    · exact .refl s
  · exact .refl s

theorem settle_unasked (l : s.Unasked) : UnaskedKept s (settle s) := by
  have loaded := (raiseAndGrant_unasked l).andThen l takeLoaded_unasked_kept
  have all := (loaded.trans (endZeroWake_unasked _)).andThen l raiseAndGrant_unasked
  have owned := (all.unasked l).owned
  rw [settle_eq, lendTest_owned owned, reclaimTest_owned owned]
  exact all

theorem immediateReading_unasked (l : s.Unasked) : UnaskedKept s (immediateReading s) := by
  rw [periodicDue_now]
  have edit : UnaskedKept s { s with battery := s.battery.due s } := ⟨rfl, rfl, rfl⟩
  split
  · exact ⟨rfl, rfl, rfl⟩
  · exact edit.andThen l fun m => judgeReading_unasked m _

end

/-! ### A part that is not ARMED and in which nothing is asked for -/

/-- Not ARMED, with no operation, no request, no lend, and no hold on camera power that a run would end. -/
structure Part.Dormant (s : Part) : Prop where
  engine : s.engine ≠ .armed
  op : s.op = none
  schedule : s.arbiter.schedule = none
  unasked : s.Unasked
  warm : s.holders.keepWarm = false
  lend : s.holders.lend = false

/-- What the run's own course leaves of a dormant part. -/
structure DormantKept (s t : Part) : Prop where
  dormant : t.Dormant
  holders : t.holders = s.holders
  camera : t.camera = s.camera
  notices : ∀ k : NoticeKind, k ≠ .runStarted → k ≠ .runEnded → k ≠ .levelChanged →
    entryOf k t.notices = entryOf k s.notices

theorem DormantKept.trans {s t u : Part} (h : DormantKept s t) (h' : DormantKept t u) : DormantKept s u :=
  ⟨h'.dormant, h'.holders.trans h.holders, h'.camera.trans h.camera,
    fun k a b c => (h'.notices k a b c).trans (h.notices k a b c)⟩

section
variable {s : Part}

theorem raiseAndGrant_dormant (d : s.Dormant) : raiseAndGrant s = s := by
  unfold raiseAndGrant
  rw [raiseSchedule_notArmed d.engine]
  exact arbiterTest_empty d.schedule d.unasked.external d.unasked.manual

theorem settle_dormant (d : s.Dormant) : settle s = s :=
  settle_notArmed ⟨d.op, d.unasked.external, d.unasked.manual, d.unasked.owned.1⟩ d.schedule d.engine

theorem noteNextDue_dormant (d : s.Dormant) : noteNextDue s = s :=
  noteNextDue_unserved fun r _ => by simp [Part.serves, d.engine]

theorem finishRun_silent {k : NoticeKind} (other : k ≠ .runEnded) (s : Part) :
    entryOf k (finishRun s).notices = entryOf k s.notices := by
  cases run : s.run with
  | none => simp [finishRun, run]
  | some r =>
    rw [finishRun_eq run]
    exact raiseNotice_silent other _ _

/-- A re-evaluation raises no notice but those of a run's start and end (R37). -/
theorem reEvaluate_silent {k : NoticeKind} (started : k ≠ .runStarted) (ended : k ≠ .runEnded) (s : Part) :
    entryOf k (reEvaluate s).notices = entryOf k s.notices := by
  have ends (t : Part) : entryOf k (endRun t).notices = entryOf k t.notices := by
    unfold endRun
    split
    · exact enterEnding_entry t
    · exact finishRun_silent ended t
  unfold reEvaluate
  extract_lets sel marked
  split
  · rfl
  · split
    · exact startSelected_silent started _ _
    · split
      · rfl
      · split
        · rfl
        · split
          · exact (startSelected_silent started _ _).trans (ends _)
          · exact ends _

theorem reEvaluate_dormant (d : s.Dormant) : DormantKept s (reEvaluate s) := by
  have frame := reEvaluate_frame (fed := none) s
  obtain ⟨schedule, warm⟩ : (reEvaluate s).arbiter.schedule = none ∧
      (reEvaluate s).holders.keepWarm = s.holders.keepWarm := by
    obtain ⟨schedule, warm⟩ | ⟨schedule, warm⟩ := reEvaluate_slots s
    · exact ⟨schedule.trans d.schedule, warm⟩
    · exact ⟨schedule, warm.trans d.warm.symm⟩
  have holders : (reEvaluate s).holders = s.holders := by rw [frame.holders, warm]
  exact ⟨⟨by rw [(reEvaluate_kept (b := true) s).engine]; exact d.engine, frame.op.trans d.op, schedule,
    (reEvaluate_unasked s).unasked d.unasked, by rw [holders]; exact d.warm, by rw [holders]; exact d.lend⟩,
    holders, frame.camera, fun k started ended _ => reEvaluate_silent started ended s⟩

theorem excludeHolders_dormant (d : s.Dormant) (old new : Level) : excludeHolders old new s = s := by
  have cool : dropKeepWarm s = s := by
    unfold dropKeepWarm
    rw [← d.warm]
  have unlent : dropLend s = s := by
    unfold dropLend
    rw [← d.lend]
  have enters : criticalEntry s = s := by rw [criticalEntry_owned d.unasked.owned.1, cool, unlent]
  have granted : arbiterTest (raiseSchedule s) = s := raiseAndGrant_dormant d
  unfold excludeHolders
  dsimp only
  rw [cool, ite_self, enters, ite_self, granted, ite_self]

theorem changeLevel_dormant (d : s.Dormant) (new : Level) : DormantKept s (changeLevel new s) := by
  unfold changeLevel
  extract_lets old battery graded t
  have raised : DormantKept s (raiseNotice .levelChanged (some new.rank) graded) := by
    refine ⟨?_, ?_, ?_, fun k _ _ other => raiseNotice_silent other _ graded⟩
    · rw [raiseNotice_eq]
      exact ⟨d.engine, d.op, d.schedule, ⟨d.unasked.owned, d.unasked.external, d.unasked.manual⟩, d.warm,
        d.lend⟩
    all_goals rw [raiseNotice_eq]
  have evaluated : DormantKept s t := by
    unfold t
    rw [excludeHolders_dormant raised.dormant]
    exact raised.trans (reEvaluate_dormant raised.dormant)
  have granted : arbiterTest (raiseSchedule t) = t := raiseAndGrant_dormant evaluated.dormant
  rw [granted, lendTest_owned evaluated.dormant.unasked.owned, ite_self]
  exact evaluated

theorem dormant_battery (d : s.Dormant) (battery : Battery) :
    DormantKept s { s with battery := battery } :=
  ⟨⟨d.engine, d.op, d.schedule, ⟨d.unasked.owned, d.unasked.external, d.unasked.manual⟩, d.warm, d.lend⟩,
    rfl, rfl, fun _ _ _ _ => rfl⟩

theorem judgeReading_dormant (d : s.Dormant) (r : BatteryReading) : DormantKept s (judgeReading r s) := by
  unfold judgeReading
  extract_lets j battery read
  have edit : DormantKept s read := dormant_battery d _
  split
  · exact edit.trans (changeLevel_dormant edit.dormant _)
  · exact edit

theorem immediateReading_dormant (d : s.Dormant) : DormantKept s (immediateReading s) := by
  rw [periodicDue_now]
  have edit := dormant_battery d (s.battery.due s)
  split
  · exact dormant_battery d _
  · exact edit.trans (judgeReading_dormant edit.dormant _)

/-- The level that an immediate reading leaves with both streaks at 0 (R144 to R146, R153). -/
theorem immediateReading_level (worse : s.battery.worse = 0) (better : s.battery.better = 0) :
    (immediateReading s).battery.level =
      if s.monitor.state = .riding then s.battery.level
      else (judge s.tables.supply s.battery.level 0 0 (s.sample .periodic)).confirmed.getD s.battery.level := by
  have judged : s.periodicJudgement = judge s.tables.supply s.battery.level 0 0 (s.sample .periodic) := by
    rw [Part.periodicJudgement, worse, better]
  have read := judgeReading_battery (s := { s with battery := s.battery.due s })
    (r := s.sample .periodic) (j := s.periodicJudgement) rfl
  rw [periodicDue_now, ← judged]
  split
  · rfl
  · exact congrArg Battery.level read

end

end Sys2Proof.Machine

/-! PROOFS. The resets (R164, R165): the part as both resets clear it, and the selection and the reading with
which they end. -/

namespace Sys2Proof.Machine

/-! ### The end of a reset: the selection and the immediate reading -/

section
variable {s : Part} {b : Bool}

theorem Kept.setHold {t : Part} (hold : Bool) (h : Kept b s t) :
    Kept b { s with hold := hold } { t with hold := hold } :=
  { h with hold := rfl }

theorem Kept.setBattery {t : Part} (battery : Battery) (h : Kept b s t) :
    Kept b { s with battery := battery } { t with battery := battery } :=
  { h with cadence := ⟨rfl, rfl, rfl⟩ }

/-- The part as the selection of a reset leaves it (R164 step 9). -/
def Part.reselected (s : Part) : Part := noteNextDue { reEvaluate s with hold := false }

theorem resetEnds_eq (s : Part) : resetEnds s = immediateReading (settle s.reselected) := rfl

theorem resetEnds_kept (s : Part) :
    Kept b { s with hold := false, battery := (settle (resetEnds s)).battery } (settle (resetEnds s)) := by
  have selected : Kept b { s with hold := false } (settle s.reselected) :=
    ((reEvaluate_kept s).setHold false).trans ((noteNextDue_kept _).trans (settle_kept _))
  have read : Kept b { settle s.reselected with battery := (settle (resetEnds s)).battery }
      (settle (resetEnds s)) :=
    ((immediateReading_kept (settle s.reselected)).trans (settle_kept _)).ownBattery
  exact (selected.setBattery (settle (resetEnds s)).battery).trans read

theorem resetEnds_unasked (l : s.Unasked) : UnaskedKept s (settle (resetEnds s)) := by
  have held : UnaskedKept s { reEvaluate s with hold := false } :=
    (reEvaluate_unasked s).trans ⟨rfl, rfl, rfl⟩
  have selected : UnaskedKept s s.reselected := held.trans (noteNextDue_unasked _)
  have read := (selected.andThen l settle_unasked).andThen l immediateReading_unasked
  exact read.andThen l settle_unasked

theorem dormant_hold (d : s.Dormant) (hold : Bool) : DormantKept s { s with hold := hold } :=
  ⟨⟨d.engine, d.op, d.schedule, ⟨d.unasked.owned, d.unasked.external, d.unasked.manual⟩, d.warm, d.lend⟩,
    rfl, rfl, fun _ _ _ _ => rfl⟩

/-- In a dormant part a reset ends with the re-evaluation and the reading alone. -/
theorem resetEnds_still (d : s.Dormant) :
    settle (resetEnds s) = immediateReading { reEvaluate s with hold := false } ∧
      DormantKept s (settle (resetEnds s)) := by
  have evaluated := reEvaluate_dormant d
  have held := evaluated.trans (dormant_hold evaluated.dormant false)
  have read := held.trans (immediateReading_dormant held.dormant)
  have ends : resetEnds s = immediateReading { reEvaluate s with hold := false } := by
    rw [resetEnds_eq, Part.reselected, noteNextDue_dormant held.dormant, settle_dormant held.dormant]
  rw [ends, settle_dormant read.dormant]
  exact ⟨rfl, read⟩

/-- The level after a reset is what the immediate reading makes of it (R153). -/
theorem resetEnds_level (d : s.Dormant) (worse : s.battery.worse = 0) (better : s.battery.better = 0) :
    (settle (resetEnds s)).battery.level =
      if s.monitor.state = .riding then s.battery.level
      else (judge s.tables.supply s.battery.level 0 0 (s.sample .periodic)).confirmed.getD s.battery.level := by
  have battery : (reEvaluate s).battery = s.battery := (reEvaluate_frame (fed := none) s).battery
  have kept := reEvaluate_kept (b := true) s
  have sample : ({ reEvaluate s with hold := false } : Part).sample .periodic = s.sample .periodic :=
    sample_congr kept.pins kept.tables _
  have read := immediateReading_level (s := { reEvaluate s with hold := false })
    ((congrArg Battery.worse battery).trans worse) ((congrArg Battery.better battery).trans better)
  rw [(resetEnds_still d).1, read, sample]
  dsimp only
  rw [kept.monitor, kept.tables, battery]

end

/-! ### The part as a reset clears it (R164 steps 1 to 8) -/

/-- The part as the operation that a reset ends has left it (R106). -/
def Part.resetCut (s : Part) : Part := cutOperation .aborted (clearLink { s with hold := true })

/-- The part with every block afresh, but for what each of the resets keeps in its own way. -/
def Part.afresh (s : Part) (health : Health) (count : Nat) (engine : EngineState) (run : Option Run)
    (meter : Meter) (battery : Battery) (notices : List Notice) : Part :=
  { s with
    gates := Vector.replicate 8 false
    arbiter := { schedule := none, external := none, manual := none, merged := 0, lastExternal := none }
    holders := ⟨false, false, false, false⟩
    camera := { s.camera with lastTag := 0, tx := none, focus := false, shutter := false, rx := [] }
    rehearsal := false
    lending := ⟨.owned, false, none, none, true⟩
    health := health, failCount := count, engine := engine, run := run, meter := meter
    battery := battery, notices := notices }

/-- Steps 1 to 3 of both resets (R164). -/
theorem resetBegins_eq (s : Part) : resetBegins s =
    { s.resetCut with
      arbiter := { schedule := none, external := none, manual := none, merged := 0, lastExternal := none }
      holders := ⟨false, false, false, false⟩
      camera :=
        { s.resetCut.camera with lastTag := 0, tx := none, focus := false, shutter := false, rx := [] }
      rehearsal := false
      lending := ⟨.owned, false, none, none, true⟩ } := by
  have cleared (t : Part) : ownPort true ({ quietCameraLine (releaseLines (emptyHolders { t with arbiter :=
      { schedule := none, external := none, manual := none, merged := 0, lastExternal := none } })) with
      camera := { (quietCameraLine (releaseLines (emptyHolders t))).camera with lastTag := 0 }
      rehearsal := false }) =
    { t with
      arbiter := { schedule := none, external := none, manual := none, merged := 0, lastExternal := none }
      holders := ⟨false, false, false, false⟩
      camera := { t.camera with lastTag := 0, tx := none, focus := false, shutter := false, rx := [] }
      rehearsal := false
      lending := ⟨.owned, false, none, none, true⟩ } := rfl
  exact cleared s.resetCut

theorem meterAtReset_eq (s : Part) : ∃ meter, meterAtReset s =
      { s with meter := meter, gates := Vector.replicate 8 false } ∧
    meter.startGate = 1 ∧ meter.latest = none := by
  obtain ⟨meter, same, gate, latest⟩ := meterRestart_eq (setStartGate 1 s)
  refine ⟨meter, ?_, gate, latest⟩
  unfold meterAtReset
  dsimp only
  rw [same]
  rfl

/-- The engine that a reset line leaves (R43). -/
def EngineState.pausedAtReset (e : EngineState) : EngineState :=
  if e = .armed ∨ e = .suspended then .paused else e

theorem pauseEngine_eq {s : Part} (schedule : s.arbiter.schedule = none)
    (warm : s.holders.keepWarm = false) : ∃ run,
      pauseEngine s = { s with engine := s.engine.pausedAtReset, run := run } := by
  have withdrawn : withdrawSchedule s = s := by
    unfold withdrawSchedule
    rw [← schedule]
  have cool : dropKeepWarm s = s := by
    unfold dropKeepWarm
    rw [← warm]
  have pauses : setEngine .paused s = forgetWake { dropKeepWarm (withdrawSchedule s) with engine := .paused } :=
    rfl
  rw [withdrawn, cool] at pauses
  have stays {e : EngineState} (engine : s.engine = e) : s = { s with engine := e, run := s.run } := by
    rw [← engine]
  unfold pauseEngine
  cases engine : s.engine with
  | armed => exact ⟨_, pauses⟩
  | suspended => exact ⟨_, pauses⟩
  | disarmed => exact ⟨s.run, stays engine⟩
  | paused => exact ⟨s.run, stays engine⟩

theorem rearmEngine_eq (s : Part) : rearmEngine s =
    { s with engine := if s.engine = .suspended then .armed else s.engine } := by
  have stays {e : EngineState} (engine : s.engine = e) : s = { s with engine := e } := by
    rw [← engine]
  unfold rearmEngine
  cases engine : s.engine with
  | armed => exact stays engine
  | suspended => rfl
  | disarmed => exact stays engine
  | paused => exact stays engine

theorem restartRecovery_still {s : Part} (hold : s.holders.recovery = false) :
    restartRecovery s = { s with health := s.restartedHealth } := by
  have same : holdRecovery false s = s := by
    unfold holdRecovery
    rw [← hold]
  have starts (h : Health) : holdRecovery false { s with health := h } =
      { holdRecovery false s with health := h } := rfl
  have stays {h : Health} (health : s.health = h) : s = { s with health := h } := by
    rw [← health]
  unfold restartRecovery Part.restartedHealth
  cases health : s.health with
  | recovering r =>
    refine (starts _).trans ?_
    rw [same]
  | healthy => exact stays health
  | faulted => exact stays health

/-- The battery supervisor as a reset leaves it to the immediate reading (R153). -/
def Battery.afresh (b : Battery) (level : Level) : Battery :=
  { b with worse := 0, better := 0, deferred := false, level := level }

/-- The part with the battery supervisor afresh at a level, and the notice set replaced. -/
def Part.cleared (s : Part) (level : Level) (notices : List Notice) : Part :=
  { s with battery := s.battery.afresh level, notices := notices }

theorem resetByLine_steps (s : Part) : resetByLine s =
    resetEnds ((meterAtReset (pauseEngine (restartRecovery (resetBegins s)))).cleared .normal []) := rfl

theorem resetBySoft_steps (s : Part) : ∀ t,
    meterAtReset (rearmEngine { resetBegins s with health := .healthy, failCount := 0 }) = t →
    resetBySoft s = resetEnds (t.cleared t.battery.level t.notices) := by
  rintro _ rfl
  rfl

theorem resetByLine_eq (s : Part) : ∃ run meter,
    resetByLine s = resetEnds (s.resetCut.afresh s.resetCut.restartedHealth s.resetCut.failCount
      s.resetCut.engine.pausedAtReset run meter (s.resetCut.battery.afresh .normal) []) ∧
    meter.startGate = 1 ∧ meter.latest = none := by
  have recovered := restartRecovery_still (s := resetBegins s) (by rw [resetBegins_eq])
  obtain ⟨run, paused⟩ := pauseEngine_eq (s := restartRecovery (resetBegins s))
    (by rw [recovered, resetBegins_eq]) (by rw [recovered, resetBegins_eq])
  obtain ⟨meter, metered, gate, latest⟩ := meterAtReset_eq (pauseEngine (restartRecovery (resetBegins s)))
  refine ⟨run, meter, ?_, gate, latest⟩
  rw [resetByLine_steps, metered, paused, recovered, resetBegins_eq]
  generalize s.resetCut = cut
  rfl

theorem resetBySoft_eq (s : Part) : ∃ meter,
    resetBySoft s = resetEnds (s.resetCut.afresh .healthy 0
      (if s.resetCut.engine = .suspended then .armed else s.resetCut.engine) s.resetCut.run meter
      (s.resetCut.battery.afresh s.resetCut.battery.level) s.resetCut.notices) ∧
    meter.startGate = 1 ∧ meter.latest = none := by
  obtain ⟨meter, metered, gate, latest⟩ :=
    meterAtReset_eq (rearmEngine { resetBegins s with health := .healthy, failCount := 0 })
  refine ⟨meter, ?_, gate, latest⟩
  rw [resetBySoft_steps s _ metered, rearmEngine_eq, resetBegins_eq]
  generalize s.resetCut = cut
  rfl

end Sys2Proof.Machine

/-! PROOFS. The resets as a whole (R164, R165). -/

namespace Sys2Proof.Machine

section Reset

variable (s : Part)

theorem resetCut_kept : Kept true (clearLink { s with hold := true }) s.resetCut := cutOperation_kept _ _

theorem resetCut_op : s.resetCut.op = none := (cutOperation_gone .aborted _).1

theorem resetCut_rest : s.resetCut.battery = s.battery ∧ s.resetCut.failCount = s.failCount ∧
    ((∀ o ∈ s.op, o.lastCounted = false) → s.resetCut.health = s.health) := by
  obtain ⟨battery, count, -, -, health⟩ :=
    cutOperation_rest (s := clearLink { s with hold := true }) (cause := .aborted) rfl
  exact ⟨battery, count, health⟩

/-- What both resets make of the part, whatever an ARMED engine then begins (R164, R165). -/
structure Afresh (s t : Part) : Prop where
  rehearsal : t.rehearsal = false
  gates : t.gates = Vector.replicate 8 false
  time : t.time = s.time
  tables : t.tables = s.tables
  monitor : t.monitor = s.monitor
  rx : t.link.rx = []
  handled : t.link.handled = none
  waiting : t.link.waiting = none
  reply : t.link.reply = none
  softReset : t.link.softReset = false
  hold : t.hold = false
  startGate : t.meter.startGate = 1
  latest : t.meter.latest = none
  line : t.camera.rx = []
  external : t.arbiter.external = none
  manual : t.arbiter.manual = none
  merged : t.arbiter.merged = 0
  lastExternal : t.arbiter.lastExternal = none
  lending : t.lending = ⟨.owned, false, none, none, true⟩
  journal : s.journal.Grows t.journal
  record : ∀ o, s.op = some o → (∀ d, o.phase ≠ .spacing d) →
    (s.journal.append (o.record .failed none (some .aborted) s.now s.arbiter.merged)).Grows t.journal

variable {s : Part} {health : Health} {count : Nat} {engine : EngineState} {run : Option Run} {meter : Meter}
  {battery : Battery} {notices : List Notice}

theorem reset_afresh (gate : meter.startGate = 1) (latest : meter.latest = none) :
    Afresh s (settle (resetEnds (s.resetCut.afresh health count engine run meter battery notices))) := by
  have cut := resetCut_kept s
  have late := resetEnds_kept (b := true) (s.resetCut.afresh health count engine run meter battery notices)
  have unasked := resetEnds_unasked (s := s.resetCut.afresh health count engine run meter battery notices)
    ⟨⟨rfl, rfl⟩, rfl, rfl⟩
  generalize settle (resetEnds (s.resetCut.afresh health count engine run meter battery notices)) = t
    at late unasked
  have link : t.link = (clearLink { s with hold := true }).link := late.link.trans cut.link
  have later : s.resetCut.journal.Grows t.journal := late.journal
  refine ⟨late.rehearsal, late.gates, late.time.trans cut.time, late.tables.trans cut.tables,
    late.monitor.trans cut.monitor, by rw [link]; rfl, by rw [link]; rfl, by rw [link]; rfl, by rw [link]; rfl,
    by rw [link]; rfl, late.hold, ?_, ?_, unasked.rx, by rw [unasked.slots]; rfl, by rw [unasked.slots]; rfl,
    by rw [unasked.slots]; rfl, by rw [unasked.slots]; rfl, unasked.lending, cut.journal.trans later,
    fun o op frame => ?_⟩
  · exact (congrArg Meter.startGate late.meter).trans gate
  · exact (congrArg Meter.latest late.meter).trans latest
  · exact (cutOperation_records (s := clearLink { s with hold := true }) (cause := .aborted) rfl op frame).trans
      later

/-- A reset whose engine is not ARMED leaves nothing going on (R164, R165). -/
theorem afresh_dormant (still : engine ≠ .armed) :
    (s.resetCut.afresh health count engine run meter battery notices).Dormant :=
  ⟨still, resetCut_op s, rfl, ⟨⟨rfl, rfl⟩, rfl, rfl⟩, rfl, rfl⟩

theorem reset_level (still : engine ≠ .armed) (level : Level) :
    (settle (resetEnds (s.resetCut.afresh health count engine run meter (battery.afresh level)
      notices))).battery.level =
    if s.monitor.state = .riding then level
    else (judge s.tables.supply level 0 0 (s.sample .periodic)).confirmed.getD level := by
  have cut := resetCut_kept s
  have sample : (s.resetCut.afresh health count engine run meter (battery.afresh level) notices).sample
      .periodic = s.sample .periodic := sample_congr cut.pins cut.tables _
  have read := resetEnds_level (afresh_dormant (s := s) (health := health) (count := count) (run := run)
    (meter := meter) (battery := battery.afresh level) (notices := notices) still) rfl rfl
  rw [sample] at read
  have monitor : s.resetCut.monitor = s.monitor := cut.monitor
  have tables : s.resetCut.tables = s.tables := cut.tables
  rw [read, Part.afresh]
  dsimp only
  rw [monitor, tables]
  rfl

end Reset

theorem softResetAt_iff (s : Part) (d : Elapsed) : s.softResetAt = some d ↔
    s.link.softReset = true ∧ s.link.reply.isSome = true ∧ d = s.link.replyEnds := by
  unfold Part.softResetAt Part.replySentAt
  cases s.link.softReset with
  | false => simp
  | true => cases s.link.reply <;> simp [eq_comm]

theorem exec_resetLine {s : State} (awake : s.part.awake = true) :
    exec .resetLine s = .next (s.put (settle (resetByLine s.part))) := by
  have taken : resetLineActive s.part = settle (resetByLine s.part) := if_pos awake
  exact congrArg (fun p => Host.Outcome.next (s.put p)) taken

theorem exec_softResetTaken {s : State} {d : Elapsed} (awake : s.part.awake = true)
    (timed : s.part.softResetAt = some d) (out : s.part.reached d = true) :
    exec .softResetTaken s = .next (s.put (settle (resetBySoft s.part))) := by
  have here : reachElapsed d s.part = s.part := if_pos out
  have taken : softResetTaken s.part = settle (resetBySoft s.part) := by
    unfold softResetTaken
    rw [if_pos awake, timed]
    dsimp only
    rw [here]
  exact congrArg (fun p => Host.Outcome.next (s.put p)) taken

/-- The idle part after a reset: no operation, no request, no holder and nothing on the camera's port. -/
theorem afresh_idle {s t : Part} {health : Health} {count : Nat} {engine : EngineState} {run : Option Run}
    {meter : Meter} {battery : Battery} {notices : List Notice}
    (kept : DormantKept (s.resetCut.afresh health count engine run meter battery notices) t) :
    t.op = none ∧ t.arbiter.schedule = none ∧ t.holders = ⟨false, false, false, false⟩ ∧
    t.camera.lastTag = 0 ∧ t.camera.tx = none ∧ t.camera.focus = false ∧ t.camera.shutter = false := by
  have camera := kept.camera
  exact ⟨kept.dormant.op, kept.dormant.schedule, kept.holders, by rw [camera]; rfl, by rw [camera]; rfl,
    by rw [camera]; rfl, by rw [camera]; rfl⟩

/-- Camera health as the reset line leaves it, where the operation it ends makes none of its own (R119). -/
theorem resetCut_health {s : Part} (quiet : ∀ o ∈ s.op, o.lastCounted = false) :
    (∀ r, s.health = .recovering r → s.resetCut.restartedHealth =
      .recovering { r with attempt := 1, phase := .off (s.after (eighths r.off)) }) ∧
    (s.health.isRecovering = false → s.resetCut.restartedHealth = s.health) := by
  have time : s.resetCut.time = s.time := (resetCut_kept s).time
  have same : s.resetCut.health = s.health := (resetCut_rest s).2.2 quiet
  have after (n : Nat) : s.resetCut.after n = s.after n := by rw [Part.after, time, ← Part.after]
  obtain ⟨recovers, stays⟩ := restartedHealth_cases s.resetCut
  refine ⟨fun r held => ?_, fun sound => ?_⟩
  · rw [recovers r (same.trans held), after]
  · rw [stays (by rw [same]; exact sound), same]

/-- Settles O52: both resets end with the selection and the reading of a part that is afresh. -/
theorem resetsStartTheBlocksAfresh : Obligations.ResetsStartTheBlocksAfresh := by
  refine ⟨fun s awake => ?_, fun s awake empty =>
    exec_handled (f := whenEmpty [] handleSoftReset) rfl awake empty⟩
  intro reading level afresh idle
  have whole {t : Part} (h : Afresh s.part t) : afresh t :=
    ⟨h.rehearsal, h.gates, h.time, h.tables, h.monitor, h.rx, h.handled, h.waiting, h.reply, h.softReset,
      h.hold, h.startGate, h.latest, h.line, h.external, h.manual, h.merged, h.lastExternal, h.lending,
      h.journal, h.record⟩
  obtain ⟨battery, count, -⟩ := resetCut_rest s.part
  have engine : s.part.resetCut.engine = s.part.engine := (resetCut_kept s.part).engine
  refine ⟨?_, softResetAt_iff s.part, fun d timed out => ?_⟩
  · obtain ⟨run, meter, reset, gate, latest⟩ := resetByLine_eq s.part
    have step := exec_resetLine awake
    rw [reset, engine] at step
    have still : s.part.engine.pausedAtReset ≠ .armed := by
      unfold EngineState.pausedAtReset
      split <;> simp_all
    have kept := (resetEnds_still (afresh_dormant (s := s.part) (health := s.part.resetCut.restartedHealth)
      (count := s.part.resetCut.failCount) (run := run) (meter := meter)
      (battery := s.part.resetCut.battery.afresh .normal) (notices := []) still)).2
    have late := resetEnds_kept (b := false) (s.part.resetCut.afresh s.part.resetCut.restartedHealth
      s.part.resetCut.failCount s.part.engine.pausedAtReset run meter
      (s.part.resetCut.battery.afresh .normal) [])
    obtain ⟨health', count'⟩ := late.health rfl
    have anew := reset_afresh (s := s.part) (health := s.part.resetCut.restartedHealth)
      (count := s.part.resetCut.failCount) (engine := s.part.engine.pausedAtReset) (run := run)
      (battery := s.part.resetCut.battery.afresh .normal) (notices := []) gate latest
    have read := reset_level (s := s.part) (health := s.part.resetCut.restartedHealth)
      (count := s.part.resetCut.failCount) (run := run) (meter := meter)
      (battery := s.part.resetCut.battery) (notices := []) still .normal
    have stands := late.engine
    have notices := kept.notices
    have idles := afresh_idle kept
    clear late kept reset
    generalize settle _ = t at *
    refine ⟨s.put t, step, rfl, whole anew, idles, count'.trans count, stands, read, fun quiet => ?_, notices⟩
    obtain ⟨recovers, stays⟩ := resetCut_health quiet
    exact ⟨fun r held => health'.trans (recovers r held), fun sound => health'.trans (stays sound)⟩
  · obtain ⟨meter, reset, gate, latest⟩ := resetBySoft_eq s.part
    have step := exec_softResetTaken awake timed out
    rw [reset, engine] at step
    have late := resetEnds_kept (b := false) (s.part.resetCut.afresh .healthy 0
      (if s.part.engine = .suspended then .armed else s.part.engine) s.part.resetCut.run meter
      (s.part.resetCut.battery.afresh s.part.resetCut.battery.level) s.part.resetCut.notices)
    obtain ⟨health', count'⟩ := late.health rfl
    have anew := reset_afresh (s := s.part) (health := .healthy) (count := 0)
      (engine := if s.part.engine = .suspended then .armed else s.part.engine)
      (run := s.part.resetCut.run)
      (battery := s.part.resetCut.battery.afresh s.part.resetCut.battery.level)
      (notices := s.part.resetCut.notices) gate latest
    have stands := late.engine
    have cut := resetCut_kept s.part
    have rare (k : NoticeKind) (h : k.rare = true) := (late.rare k h).trans (cut.rare k h)
    refine ⟨s.put _, step, rfl, whole anew, health', count', stands, rare, fun quiet => ?_⟩
    have still : (if s.part.engine = .suspended then EngineState.armed else s.part.engine) ≠ .armed := by
      obtain disarmed | paused := quiet <;> simp [*]
    have kept := (resetEnds_still (afresh_dormant (s := s.part) (health := .healthy) (count := 0)
      (run := s.part.resetCut.run) (meter := meter)
      (battery := s.part.resetCut.battery.afresh s.part.resetCut.battery.level)
      (notices := s.part.resetCut.notices) still)).2
    have read := reset_level (s := s.part) (health := .healthy) (count := 0)
      (run := s.part.resetCut.run) (meter := meter) (battery := s.part.resetCut.battery)
      (notices := s.part.resetCut.notices) still s.part.resetCut.battery.level
    have held : s.part.resetCut.battery.level = s.part.battery.level := congrArg Battery.level battery
    refine ⟨afresh_idle kept, read.trans ?_⟩
    rw [held]

end Sys2Proof.Machine
